-- ==== Sys2Proof/Word.lean ====
section
/-! DEFINITION. Word.lean: the word types of the ports and their plainest arithmetic. -/

namespace Sys2Proof

/-- One byte of a port (12 Frame and Record Layouts). -/
abbrev Byte := BitVec 8

/-- A two-byte field, most significant byte first on the port. -/
abbrev Half := BitVec 16

/-- A four-byte field: sweep numbers and fixture times on the probe lines. -/
abbrev Word := BitVec 32

/-- The greatest fixture time and the greatest plan generation (R21, R156). -/
def maxWord : Nat := 4294967295

/-- A count described as saturating keeps its greatest value (00 Conventions, Counts). -/
def satInc (top n : Nat) : Nat := if n < top then n + 1 else n

/-- A count with floor 0 keeps it when a decrement is due (00 Conventions, Counts). -/
def floorDec (n : Nat) : Nat := n - 1

theorem satInc_le {top n : Nat} (h : n ≤ top) : satInc top n ≤ top := by
  unfold satInc; split <;> omega

end Sys2Proof
end

