-- ==== Sys2Proof/Syntax.lean ====
section
/-! DEFINITION. Syntax.lean: the commands of the part, one constructor per row of
spec/opcode_table.json, in the table's order.

A station request carries the fields its parameter bytes hold (12.2), at their widths, and last the
CRC-8 byte that was received (R178). A probe message carries its port and the fields of its payload
(12.1). An event of time or of the store carries what names it. -/

namespace Sys2Proof

/-- A probe port. Port `p` serves slot `p + 1` (00, Numbering: slots and ports are 1 to 18). -/
abbrev Port := Fin 18

inductive Instr where
  /-- 01h (R182) -/
  | statusRead (crc : Byte)
  /-- 02h (R183) -/
  | capabilityRead (crc : Byte)
  /-- 10h: target, index, content of 48 bytes (R157, R188) -/
  | shadowWrite (target : Byte) (index : Half) (content : Vector Byte 48) (crc : Byte)
  /-- 11h: target, index (R158) -/
  | shadowRead (target : Byte) (index : Half) (crc : Byte)
  /-- 12h: target, index (R158) -/
  | activeRead (target : Byte) (index : Half) (crc : Byte)
  /-- 13h (R159) -/
  | shadowClear (crc : Byte)
  /-- 14h: target, index, content of 14 bytes (R160, R188) -/
  | liveEdit (target : Byte) (index : Half) (content : Vector Byte 14) (crc : Byte)
  /-- 15h (R161) -/
  | applyPlan (crc : Byte)
  /-- 16h (R164) -/
  | applyCancel (crc : Byte)
  /-- 20h: fresh (R26) -/
  | runStart (fresh : Byte) (crc : Byte)
  /-- 21h (R29) -/
  | runPause (crc : Byte)
  /-- 22h (R31) -/
  | runResume (crc : Byte)
  /-- 23h (R32) -/
  | runStop (crc : Byte)
  /-- 24h (R34) -/
  | runAbort (crc : Byte)
  /-- 30h: link id (R91) -/
  | linkRead (link : Half) (crc : Byte)
  /-- 31h: link id (R93) -/
  | linkClear (link : Half) (crc : Byte)
  /-- 32h: link id (R92) -/
  | linkWithdraw (link : Half) (crc : Byte)
  /-- 33h: link id (R92) -/
  | linkRestore (link : Half) (crc : Byte)
  /-- 34h: slot (R65) -/
  | probeRead (slot : Byte) (crc : Byte)
  /-- 40h: queue (R150) -/
  | queuePop (queue : Byte) (crc : Byte)
  /-- 41h: queue (R152) -/
  | queueStatus (queue : Byte) (crc : Byte)
  /-- 42h: queue (R151) -/
  | queueFlush (queue : Byte) (crc : Byte)
  /-- 48h: link id, repeat count, marker (R118) -/
  | spotRequest (link : Half) (repeats marker : Byte) (crc : Byte)
  /-- 49h: link id (R123) -/
  | spotCancel (link : Half) (crc : Byte)
  /-- 4Ah (R129) -/
  | spotList (crc : Byte)
  /-- 50h: slot set, kind, range, quick (R131) -/
  | calSelect (slots : BitVec 24) (kind range quick : Byte) (crc : Byte)
  /-- 51h (R132) -/
  | calCapture (crc : Byte)
  /-- 52h (R136) -/
  | calAccept (crc : Byte)
  /-- 53h: slot set, ranges (R138) -/
  | calRevert (slots : BitVec 24) (ranges : Byte) (crc : Byte)
  /-- 60h (R169) -/
  | storeWriteEnable (crc : Byte)
  /-- 61h: slot, label of 8 characters (R171) -/
  | storeSave (slot : Byte) (label : Vector Byte 8) (crc : Byte)
  /-- 63h: slot (R172) -/
  | storeErase (slot : Byte) (crc : Byte)
  /-- 64h: slot (R172) -/
  | storeLock (slot : Byte) (crc : Byte)
  /-- 62h: slot (R173) -/
  | storeLoad (slot : Byte) (crc : Byte)
  /-- 65h: slot, FFh for none (R174) -/
  | storeSetBoot (slot : Byte) (crc : Byte)
  /-- 70h: flag set (R181) -/
  | attnEnable (set : Half) (crc : Byte)
  /-- 71h: flag set (R181) -/
  | attnClear (set : Half) (crc : Byte)
  /-- 7Fh (R184) -/
  | softReset (crc : Byte)
  /-- A command byte that names no request, and the byte after it (R179). -/
  | unknownCommand (command next : Byte)
  /-- 81h: serial, geographic code, power flags (R47) -/
  | hello (port : Port) (serial : Word) (code power : Byte)
  /-- 82h (R48) -/
  | setupAck (port : Port)
  /-- 83h: sweep number (R49) -/
  | markAck (port : Port) (sweep : Word)
  /-- 88h: power flags, fault code, geographic code (R53) -/
  | statusReport (port : Port) (power fault code : Byte)
  /-- 84h: tag, drive result (R61) -/
  | doneReport (port : Port) (tag result : Byte)
  /-- 85h: tag, raw value, error count, wire-off (R61) -/
  | readingReport (port : Port) (tag : Byte) (raw errors : Half) (wireOff : Byte)
  /-- 86h: tag, result, loss position, wire-off (R61) -/
  | contresReport (port : Port) (tag result position wireOff : Byte)
  /-- 87h: raw value (R133) -/
  | calRead (port : Port) (raw : Half)
  /-- 89h: link id, repeat count, marker (R64) -/
  | spotAsk (port : Port) (link : Half) (repeats marker : Byte)
  /-- 8Ah: link id (R124) -/
  | spotDrop (port : Port) (link : Half)
  /-- The bytes of a received frame that fails a check of R186 (R45). -/
  | frameError (port : Port) (frame : List Byte)
  /-- The line of the port is free; `waiting` says that the probe has a frame waiting too (R43). -/
  | probeFrameSend (port : Port) (waiting : Bool)
  /-- Sweep time reaches the sweep length (R25). -/
  | sweepStart
  /-- The mark of TIMED step `index` is reached (R70). -/
  | timedMark (index : Nat)
  /-- The mark of MERGED step `index` is reached (R73). -/
  | mergedMark (index : Nat)
  /-- The mark of MARK entry `index` is reached (R16). -/
  | markEntry (index : Nat)
  /-- The mark of FREE entry `index` is reached (R19). -/
  | freeEntry (index : Nat)
  /-- Fixture time reaches the deadline of the open step of this tag (R82). -/
  | deadline (slot : Fin 8) (turn : BitVec 4)
  /-- Fixture time reaches 4,294,967,295 (R35). -/
  | fixtureTimeLimit
  /-- The 50 ms capture deadline (R134). -/
  | captureDeadline
  /-- A store save ends; `passed` is the result of the read-back verify (R171). -/
  | saveEnd (passed : Bool)
  /-- A store erase ends (R172). -/
  | eraseEnd (passed : Bool)
  /-- A store lock ends (R172). -/
  | lockEnd (passed : Bool)
  /-- A store load ends; it does not fail (R173). -/
  | loadEnd
  /-- A fixture record write ends (R168). -/
  | fixtureWriteEnd (passed : Bool)
  /-- RESET# goes low, or power is lost (R185). -/
  | hardReset
  /-- RESET# returns high, or the supply has risen (R176). -/
  | startUpBegin
  /-- Start-up ends; bit n of `damaged` says that the content of store slot n does not check (R176). -/
  | startUpEnd (damaged : BitVec 4)
  deriving DecidableEq, Repr

end Sys2Proof
end

