-- ==== Sys2Proof/Decode.lean ====
section
/-! DEFINITION. Decode.lean: the command a word of the opcode table spells. The table gives no row any
bits, so no word spells a command. -/

namespace Sys2Proof

/-- The command that the word `w` of `nbits` bits spells by the table's bits: none, for every word. -/
def decodeTableWord (_nbits _w : Nat) : Option Instr := none

end Sys2Proof
end

