-- ==== Sys2Proof/Config.lean ====
section
/-! DEFINITION. Config.lean: the fixed capacities of the part and the values the spec leaves open.
A free value has no body, so nothing can be proved of what it is. -/

namespace Sys2Proof.Config

/-- The assignment lead, 200 ticks (R12). -/
def assignmentLead : Nat := 200

/-- A transmit list holds up to 16 messages (R43). -/
def transmitRoom : Nat := 16

/-- Each result queue holds up to 64 records (R147). -/
def queueRoom : Nat := 64

/-- The Spot Queue holds up to 8 requests (R117). -/
def spotRoom : Nat := 8

/-- A merged window holds up to 3 pending steps (R73). -/
def pendingRoom : Nat := 3

/-- The silicon revision number of the part the manual describes (R183). -/
def siliconRevision : Byte := 1

/-- One millisecond of the part's own clock, in ticks of 1 microsecond. -/
def ticksPerMs : Nat := 1000

/-- FREE VALUE (log 2): which of several events due at one time is taken first. -/
opaque eventChoice : Nat → Nat

/-- FREE VALUE (log 5): whether a store operation that runs to its latest time verifies. -/
opaque storeVerify : Nat → Bool

/-- FREE VALUE (log 6): whether a LOCK cut short by a hard reset had completed (R175). -/
opaque interruptedLock : Nat → Bool

/-- FREE VALUE (log 7): the store slots whose content does not check at a start-up that runs to its
latest time (R176). -/
opaque slotDamage : Nat → BitVec 4

/-- FREE VALUE (log 15): the four bytes sent for a test time beyond the greatest fixture time. -/
opaque timeBeyondLimit : Nat → Word

end Sys2Proof.Config
end

