-- ==== Sys2Proof/Machine/Types.lean ====
section
/-! DEFINITION. Machine/Types.lean: the kinds of data the part holds: plans, records, messages,
open steps, link records, requests, store slots. -/

namespace Sys2Proof.Machine

/-! ## Names (R4, R21, R37, R42, R95, R143, R155) -/

inductive RunState where
  | stopped | syncing | running | pausing | paused | stopping | halted
  deriving DecidableEq, Repr

inductive Health where
  | clear | warn | degraded | severe
  deriving DecidableEq, Repr

inductive ParkMode where
  | release | idle | hold
  deriving DecidableEq, Repr

inductive Policy where
  | queue | drop
  deriving DecidableEq, Repr

/-- The unmatched route (R145). -/
inductive Route where
  | q0 | q1 | discard
  deriving DecidableEq, Repr

inductive QueueMode where
  | blocking | overwrite
  deriving DecidableEq, Repr

inductive TimingKind where
  | timed | merged | mark | free
  deriving DecidableEq, Repr

inductive Form where
  | driven | contended
  deriving DecidableEq, Repr

inductive Stimulus where
  | high | low | toggleSlow | toggleFast | scramble | walk
  deriving DecidableEq, Repr

inductive RepeatRule where
  | once | always
  deriving DecidableEq, Repr

inductive LinkKind where
  | lane | busline | strap | rail
  deriving DecidableEq, Repr

inductive Measure where
  | level | errors | code | silence
  deriving DecidableEq, Repr

inductive Format where
  | signed | unsigned | offset
  deriving DecidableEq, Repr

inductive ProbeRange where
  | low | high
  deriving DecidableEq, Repr

inductive FilterType where
  | range | pair | masked | any | off
  deriving DecidableEq, Repr

inductive FilterAction where
  | toQ0 | toQ1 | discard | urgentQ0 | urgentQ1
  deriving DecidableEq, Repr

inductive ProbeState where
  | absent | unconfigured | syncing | inStep | lost | faulted
  deriving DecidableEq, Repr

inductive Role where
  | talker | expect | quiet | contender
  deriving DecidableEq, Repr

inductive Verdict where
  | untested | testing | marginal | passed | failed | opened | bridged
  deriving DecidableEq, Repr

/-- Report and closure outcomes (R98 to R100, R104, R105, R108; codes in 12.4). -/
inductive TestOutcome where
  | inRange | lowMargin | highMargin | under | over | mismatch | contention | heard | openSeen
  | voidTalker | voidMissing | voidRedefined
  deriving DecidableEq, Repr

/-- The groups of R101. HEARD belongs to none of them. -/
inductive OutcomeGroup where
  | pass | margin | fail | openGroup | void | heardGroup
  deriving DecidableEq, Repr

/-- The reasons for a due step not started (R72). -/
inductive NotStarted where
  | openFull | linkBusy | probeUnavailable | fieldPower | probeBusy | crowded | windowClosed
  deriving DecidableEq, Repr

inductive RecordKind where
  | verdict | observation | skipped | spotDone | probe | mark
  deriving DecidableEq, Repr

/-- The endings of a spot request (R122). -/
inductive Ending where
  | completed | cancelled | withdrawn
  deriving DecidableEq, Repr

/-- The status values of an answer (R179). -/
inductive Status where
  | done | accepted | empty | busy | state | range | invalid | held | locked | full | duplicate
  | noLatch | unknown | crc
  deriving DecidableEq, Repr

/-- The twelve attention flags (R180), in the order of the flag set (12.2). -/
inductive Flag where
  | verdictUrgent | q0Level | q1Level | qLost | health | run | probe | mark | store | apply | cal
  | spot
  deriving DecidableEq, Repr

/-! ## The plan (R155) -/

/-- The parameter set (R155). Numeric fields are kept as written (R157). -/
structure Params where
  sweepLength : Half
  patternPeriod : Byte
  stepCount : Half
  reportGrace : Half
  spotWindow : Half
  missLimit : Byte
  syncSweeps : Byte
  quorum : Byte
  parkMode : ParkMode
  /-- Pile-up policies as a slot set: bit n − 1 set when slot n has DROP. -/
  dropSet : BitVec 18
  unmatched : Route
  q0Mode : QueueMode
  q1Mode : QueueMode
  q0Watermark : Byte
  q1Watermark : Byte
  deriving DecidableEq, Repr

/-- A contender field: slot and arbitration code. -/
structure ContenderField where
  slot : Byte
  code : Byte
  deriving DecidableEq, Repr

/-- A quiet listener field: slot, quiet link, class index. -/
structure QuietField where
  slot : Byte
  link : Half
  cls : Byte
  deriving DecidableEq, Repr

/-- A step entry (R4), with its list counts and list entries as written (R188). -/
structure StepEntry where
  timeMark : Half
  kind : TimingKind
  form : Form
  testLink : Half
  /-- 0 when absent. -/
  talker : Byte
  contenderCount : Byte
  contenders : Vector ContenderField 4
  expectCount : Byte
  expects : Vector Byte 4
  quietCount : Byte
  quiets : Vector QuietField 4
  stimulus : Stimulus
  window : Half
  settle : Byte
  multiplier : Byte
  runMask : BitVec 16
  rule : RepeatRule
  marker : Byte
  log : Bool
  deriving DecidableEq, Repr

/-- A link definition (R89) as written; `defined` says whether the id is defined. -/
structure LinkDef where
  defined : Bool
  kind : LinkKind
  cls : Byte
  expected : Half
  source : Byte
  sink : Byte
  slot : Byte
  tapCount : Byte
  taps : Vector Byte 18
  deriving DecidableEq, Repr

/-- A class entry (R95) as written. -/
structure ClassDef where
  defined : Bool
  measure : Measure
  format : Format
  range : ProbeRange
  low : Half
  high : Half
  margin : Half
  mask : Half
  passQuota : Byte
  failThreshold : Byte
  deriving DecidableEq, Repr

/-- A filter element (R143) as written. `kinds` has bit 0 VERDICT to bit 5 MARK. -/
structure FilterElement where
  type : FilterType
  id1 : Half
  id2 : Half
  mask : Half
  kinds : BitVec 6
  action : FilterAction
  deriving DecidableEq, Repr

/-- A plan of five parts (R155). -/
structure Plan where
  params : Params
  steps : Vector StepEntry 512
  links : Vector LinkDef 512
  classes : Vector ClassDef 32
  filters : Vector FilterElement 32
  deriving DecidableEq, Repr

/-! ## Tags, messages and the Probe Table (R42, R67, R68, 12.1) -/

/-- A tag: table slot and turn (R68). -/
structure Tag where
  slot : Fin 8
  turn : BitVec 4
  deriving DecidableEq, Repr

/-- The messages of the part to a probe (12.1). -/
inductive Message where
  | mark (sweep : Word) (time : Word) (pattern : Byte)
  | setup (policy : Policy) (park : ParkMode)
  | drive (tag : Tag) (stimulus : Stimulus) (start : Word) (window : Half)
  | listen (tag : Tag) (quiet : Bool) (measure : Measure) (range : ProbeRange) (start finish : Word)
  | contend (tag : Tag) (code : Byte) (start : Word)
  | park (mode : ParkMode)
  | calMeas (full : Bool) (range : ProbeRange)
  | spotAns (link : Half) (answer : Byte)
  deriving DecidableEq, Repr

structure Assignment where
  tag : Tag
  role : Role
  deriving DecidableEq, Repr

/-- A probe's coefficients for one range (R97, R130). -/
structure Coeff where
  offset : Int
  gain : Nat
  deriving DecidableEq, Repr

inductive CalState where
  | default | calibrated | bad
  deriving DecidableEq, Repr

/-- One entry of the Probe Table (R42). -/
structure ProbeEntry where
  state : ProbeState
  serial : Option Word
  geoCode : Option Byte
  codeMismatch : Bool
  codeChanged : Bool
  mainPower : Bool
  auxPower : Bool
  fault : Option Byte
  current : Option Assignment
  queued : Option Assignment
  outstanding : Option Word
  syncCount : Nat
  missCount : Nat
  setupOutstanding : Bool
  strayCount : Nat
  policy : Policy
  coeffLow : Coeff
  coeffHigh : Coeff
  calLow : CalState
  calHigh : CalState
  deriving DecidableEq, Repr

/-- The two ends of a probe line (R43). -/
inductive LineEnd where
  | part | probe
  deriving DecidableEq, Repr

/-- A probe port (R43, R45): its transmit list, oldest first, its frame-error count, whose frame was
last on the line, and the bytes of the frame it sent last. -/
structure PortState where
  transmit : List Message
  frameErrors : Nat
  lastFrame : Option LineEnd
  sent : List Byte
  deriving DecidableEq, Repr

/-! ## Calibration (R130) -/

inductive SessionState where
  | idle | capturing | held | writing
  deriving DecidableEq, Repr

inductive CalKind where
  | offset | gain
  deriving DecidableEq, Repr

inductive CaptureFailure where
  | notSyncing | noAnswer | leftSyncing | outOfBounds
  deriving DecidableEq, Repr

inductive CaptureResult where
  | candidate (value : Int)
  | failed (reason : CaptureFailure)
  deriving DecidableEq, Repr

/-- The ranges a calibration affects (R130). -/
inductive RangeChoice where
  | low | high | both
  deriving DecidableEq, Repr

/-- The capture entry of one selected slot (R130). -/
structure CaptureEntry where
  slot : Nat
  outstanding : Bool
  result : Option CaptureResult
  deriving DecidableEq, Repr

/-- The selection (R130); the slot set is kept in ascending order. -/
structure Selection where
  slots : List Nat
  kind : CalKind
  range : ProbeRange
  quick : Bool
  deriving DecidableEq, Repr

/-- The write in progress (R130). -/
structure CalWrite where
  slots : List Nat
  ranges : RangeChoice
  target : CalState
  deriving DecidableEq, Repr

structure Session where
  state : SessionState
  selection : Option Selection
  captures : List CaptureEntry
  deadline : Option Nat
  deriving DecidableEq, Repr

/-! ## Open steps and windows (R67, R73, R78) -/

/-- The entry an open step started from: a step index, or SPOT. -/
inductive Source where
  | step (index : Nat)
  | spot
  deriving DecidableEq, Repr

inductive ReportState where
  | awaited | received | missing
  deriving DecidableEq, Repr

/-- The contents of an accepted report (R61). -/
inductive Report where
  | drive (fault : Bool)
  | reading (raw errors : Half) (wireOff : Bool)
  | contest (lost : Bool) (position : Nat) (wireOff : Bool)
  deriving DecidableEq, Repr

/-- A participant entry (R67). -/
structure Participant where
  slot : Nat
  role : Role
  cls : Option Nat
  quietLink : Option Nat
  code : Option Nat
  state : ReportState
  report : Option Report
  deriving DecidableEq, Repr

/-- An open step (R67). -/
structure OpenStep where
  source : Source
  form : Form
  testLink : Nat
  marker : Byte
  log : Bool
  generation : Nat
  start : Nat
  window : Nat
  settle : Nat
  grace : Nat
  deadline : Nat
  participants : List Participant
  withdrawn : Bool
  deriving DecidableEq, Repr

/-- A step of a pending list: its index and the copy of its entry (R73). -/
structure PendingStep where
  index : Nat
  entry : StepEntry
  deriving DecidableEq, Repr

structure MergedWindow where
  pending : List PendingStep
  member : Option (Fin 8)
  deriving DecidableEq, Repr

structure FreeWindow where
  spent : Bool
  deriving DecidableEq, Repr

/-! ## Link records (R90) -/

structure FirstFailure where
  sweep : Word
  time : Nat
  source : Source
  outcome : TestOutcome
  value : Option Int
  suspect : Option Nat
  deriving DecidableEq, Repr

structure LastObservation where
  sweep : Word
  outcome : TestOutcome
  value : Option Int
  deriving DecidableEq, Repr

/-- The live state of a link (R90) and its defined-in generation (R89). -/
structure LinkRecord where
  verdict : Verdict
  standing : Nat
  streak : Nat
  attempts : Nat
  inRange : Nat
  margin : Nat
  fail : Nat
  void : Nat
  notStarted : Nat
  quietChecks : Nat
  heard : Nat
  withdrawn : Bool
  partner : Option Nat
  firstFailure : Option FirstFailure
  lastObservation : Option LastObservation
  definedIn : Nat
  deriving DecidableEq, Repr

/-! ## Spot requests (R117) -/

structure Tallies where
  inRange : Nat
  margin : Nat
  fail : Nat
  void : Nat
  deriving DecidableEq, Repr

/-- A spot request. The requester is absent for the station. -/
structure SpotRequest where
  requester : Option Nat
  link : Nat
  repeats : Nat
  marker : Byte
  tallies : Tallies
  inFlight : Option Tag
  endPending : Option Ending
  deriving DecidableEq, Repr

/-! ## Result records and queues (R141, R147) -/

/-- A result record (R141). A field that is absent is `none`. -/
structure ResultRecord where
  kind : RecordKind
  link : Option Nat
  step : Option Nat
  marker : Option Byte
  sweep : Word
  time : Nat
  outcome : Option TestOutcome
  value : Option Int
  oldVerdict : Option Verdict
  newVerdict : Option Verdict
  reason : Option NotStarted
  slot : Option Nat
  newState : Option ProbeState
  ending : Option Ending
  tallies : Option Tallies
  despiteWithdrawal : Bool
  despiteCancel : Bool
  urgent : Bool
  /-- Absent when unmatched (R145). -/
  filter : Option Nat
  deriving DecidableEq, Repr

structure ResultQueue where
  records : List ResultRecord
  lost : Nat
  verdictLost : Bool
  deriving DecidableEq, Repr

/-! ## The Plan Store (R167) -/

inductive SlotState where
  | empty | valid | invalid
  deriving DecidableEq, Repr

structure StoreSlot where
  state : SlotState
  locked : Bool
  label : Vector Byte 8
  content : Option Plan
  deriving DecidableEq, Repr

/-- The stored coefficients and states of one probe (R168). A stored state is never CAL_BAD (R137). -/
structure StoredProbe where
  coeffLow : Coeff
  coeffHigh : Coeff
  calLow : CalState
  calHigh : CalState
  deriving DecidableEq, Repr

structure FixtureRecord where
  probes : Vector StoredProbe 18
  boot : Option (Fin 4)
  valid : Bool
  deriving DecidableEq, Repr

/-- A store operation and its target (R167). The target of FIXTURE WRITE is the fixture record. -/
inductive StoreOp where
  | save (slot : Fin 4)
  | erase (slot : Fin 4)
  | lock (slot : Fin 4)
  | load (slot : Fin 4)
  | fixtureWrite
  deriving DecidableEq, Repr

inductive StoreState where
  | starting | idle | busy (op : StoreOp)
  deriving DecidableEq, Repr

structure LastResult where
  op : StoreOp
  passed : Bool
  deriving DecidableEq, Repr

inductive BootResult where
  | none | loaded | slotNotValid | planInvalid
  deriving DecidableEq, Repr

/-- The copy a SAVE writes (R171). -/
structure SaveCopy where
  plan : Plan
  label : Vector Byte 8
  deriving DecidableEq, Repr

/-- A message that start-up holds back (R176, log 28): the SETUP of a slot, whose values are those in force
when it is sent, or a SPOTANS. -/
inductive HeldMessage where
  | setup (slot : Nat)
  | spotAns (slot : Nat) (link : Half) (answer : Byte)
  deriving DecidableEq, Repr

/-- An answer: its status and its answer bytes (12.2). -/
structure Answer where
  status : Status
  bytes : List Byte
  deriving DecidableEq, Repr

end Sys2Proof.Machine
end

