-- ==== Sys2Proof/Machine/Defaults.lean ====
section
/-! DEFINITION. Machine/Defaults.lean: the empty plan and the values each entry starts with. -/

namespace Sys2Proof.Machine

/-- The default parameter set (R177). -/
def Params.default : Params where
  sweepLength := 10000
  patternPeriod := 1
  stepCount := 0
  reportGrace := 1000
  spotWindow := 1000
  missLimit := 3
  syncSweeps := 4
  quorum := 1
  parkMode := .release
  dropSet := BitVec.allOnes 18
  unmatched := .q0
  q0Mode := .blocking
  q1Mode := .blocking
  q0Watermark := 32
  q1Watermark := 32

/-- A step entry cleared to its lowest value in every field (R159, R188). -/
def StepEntry.cleared : StepEntry where
  timeMark := 0
  kind := .timed
  form := .driven
  testLink := 0
  talker := 0
  contenderCount := 0
  contenders := Vector.replicate 4 ⟨0, 0⟩
  expectCount := 0
  expects := Vector.replicate 4 0
  quietCount := 0
  quiets := Vector.replicate 4 ⟨0, 0, 0⟩
  stimulus := .high
  window := 0
  settle := 0
  multiplier := 0
  runMask := 0
  rule := .once
  marker := 0
  log := false

/-- An undefined link id, every field at its lowest value. -/
def LinkDef.undefined : LinkDef where
  defined := false
  kind := .lane
  cls := 0
  expected := 0
  source := 0
  sink := 0
  slot := 0
  tapCount := 0
  taps := Vector.replicate 18 0

/-- An undefined class index, every field at its lowest value. -/
def ClassDef.undefined : ClassDef where
  defined := false
  measure := .level
  format := .signed
  range := .low
  low := 0
  high := 0
  margin := 0
  mask := 0
  passQuota := 0
  failThreshold := 0

/-- A filter element of type OFF, its other fields at their lowest value. -/
def FilterElement.off : FilterElement where
  type := .off
  id1 := 0
  id2 := 0
  mask := 0
  kinds := 0
  action := .toQ0

/-- The empty plan (R177). -/
def Plan.empty : Plan where
  params := Params.default
  steps := Vector.replicate 512 StepEntry.cleared
  links := Vector.replicate 512 LinkDef.undefined
  classes := Vector.replicate 32 ClassDef.undefined
  filters := Vector.replicate 32 FilterElement.off

/-- The default coefficients: offset 0 and numerator 32,768 (R130). -/
def Coeff.default : Coeff := ⟨0, 32768⟩

/-- A Probe Table entry after a hard reset (R66). Until start-up loads them, the policy, the coefficients and
the calibration states are those of the empty plan and of a record that is not valid (log 9). -/
def ProbeEntry.reset : ProbeEntry where
  state := .absent
  serial := none
  geoCode := none
  codeMismatch := false
  codeChanged := false
  mainPower := false
  auxPower := false
  fault := none
  current := none
  queued := none
  outstanding := none
  syncCount := 0
  missCount := 0
  setupOutstanding := false
  strayCount := 0
  policy := .drop
  coeffLow := Coeff.default
  coeffHigh := Coeff.default
  calLow := .default
  calHigh := .default

/-- A probe port after a hard reset (R66). -/
def PortState.reset : PortState := ⟨[], 0, none, []⟩

/-- A fresh link record (R90, R94): UNTESTED, every count 0, not withdrawn. -/
def LinkRecord.fresh (generation : Nat) : LinkRecord where
  verdict := .untested
  standing := 0
  streak := 0
  attempts := 0
  inRange := 0
  margin := 0
  fail := 0
  void := 0
  notStarted := 0
  quietChecks := 0
  heard := 0
  withdrawn := false
  partner := none
  firstFailure := none
  lastObservation := none
  definedIn := generation

/-- A session that holds nothing (R130). -/
def Session.reset : Session := ⟨.idle, none, [], none⟩

/-- An empty result queue (R154). -/
def ResultQueue.empty : ResultQueue := ⟨[], 0, false⟩

/-- A label of eight spaces (R167). -/
def blankLabel : Vector Byte 8 := Vector.replicate 8 0x20

/-- A store slot that has been erased (R167, R172). -/
def StoreSlot.erased : StoreSlot := ⟨.empty, false, blankLabel, none⟩

/-- What a fixture record that is not valid is read as, for one probe (R175). -/
def StoredProbe.default : StoredProbe := ⟨Coeff.default, Coeff.default, .default, .default⟩

/-- A fixture record that has never been written (R168). -/
def FixtureRecord.unwritten : FixtureRecord := ⟨Vector.replicate 18 StoredProbe.default, none, false⟩

/-- A result record of one kind, every other field absent (R141). -/
def ResultRecord.blank (kind : RecordKind) (sweep : Word) (time : Nat) : ResultRecord where
  kind := kind
  link := none
  step := none
  marker := none
  sweep := sweep
  time := time
  outcome := none
  value := none
  oldVerdict := none
  newVerdict := none
  reason := none
  slot := none
  newState := none
  ending := none
  tallies := none
  despiteWithdrawal := false
  despiteCancel := false
  urgent := false
  filter := none

end Sys2Proof.Machine
end

