-- ==== Sys2Proof/Machine/State.lean ====
section
/-! DEFINITION. Machine/State.lean: the state of the part, block by block (00, Block diagram), the
reasons a step can stop, and the state after reset. -/

namespace Sys2Proof.Machine

/-- The Sweep Timer (02). The last four fields record where the sweep in progress stands (logs 3, 4). -/
structure SweepTimer where
  run : RunState
  health : Health
  fixtureTime : Nat
  sweepNumber : Word
  sweepTime : Nat
  pattern : Nat
  notStarted : Bool
  /-- A sweep is in progress: it has started and has neither ended nor been broken off (R22). -/
  sweepActive : Bool
  /-- The sweep length has been reached and the sweep start has not been taken yet (R22). -/
  sweepEndDue : Bool
  /-- The lowest step index whose mark has not been reached in this sweep (R2). -/
  nextStep : Nat
  /-- The fixture-time limit has been taken in this run (R35). -/
  limitTaken : Bool
  deriving DecidableEq, Repr

/-- The Step Engine (04): the Open Step Table, the turns and the two window records. -/
structure StepEngine where
  table : Vector (Option OpenStep) 8
  turns : Vector (BitVec 4) 8
  merged : Option MergedWindow
  free : Option FreeWindow
  deriving DecidableEq, Repr

/-- The Probe Registry and the probe ports (03), the calibration session and its write (07). -/
structure ProbeRegistry where
  probes : Vector ProbeEntry 18
  ports : Vector PortState 18
  session : Session
  calWrite : Option CalWrite
  deriving DecidableEq, Repr

/-- The Result Router's queues (08). -/
structure ResultRouter where
  q0 : ResultQueue
  q1 : ResultQueue
  deriving DecidableEq, Repr

/-- Plan Memory (09). -/
structure PlanMemory where
  active : Plan
  shadow : Plan
  applyPending : Bool
  generation : Nat
  deriving DecidableEq, Repr

/-- The Plan Store (10). `slots` and `fixture` outlive a hard reset. `bootResult` is absent until
start-up has set it. `held` lists the messages to probes that start-up holds back, oldest first (R176).
`latestEnd` is the own-clock time by which the operation in progress ends. -/
structure PlanStore where
  slots : Vector StoreSlot 4
  fixture : FixtureRecord
  state : StoreState
  saveCopy : Option SaveCopy
  boot : Option (Fin 4)
  latch : Bool
  lastResult : Option LastResult
  bootResult : Option BootResult
  held : List HeldMessage
  latestEnd : Nat
  deriving DecidableEq, Repr

/-- The Station Port (11). `resetLow` is the level of RESET#; `answer` is the answer of the last
transaction. `csLow` is the level of CS# between two commands, a pin that the station moves: a request
command is a whole transaction, so CS# is low there only when it was low as RESET# rose (R178, R185, log 43). -/
structure StationPort where
  flags : BitVec 12
  enables : BitVec 12
  answer : Option Answer
  resetLow : Bool
  csLow : Bool
  deriving DecidableEq, Repr

/-- The part, and the queue of the commands that wait for it. -/
structure State where
  pending : List Instr
  /-- The MODEL's own counter for free values (log 2). -/
  freeCount : Nat
  /-- The part's own clock, in ticks of 1 microsecond (log 5). -/
  clock : Nat
  timer : SweepTimer
  engine : StepEngine
  registry : ProbeRegistry
  links : Vector LinkRecord 512
  spot : List SpotRequest
  router : ResultRouter
  plans : PlanMemory
  store : PlanStore
  port : StationPort
  deriving DecidableEq, Repr

/-- The faults a step can end in: none. The spec names no behaviour that stops the part, so no
meaning raises a fault, and a claim that no step faults is true by the type (safe). -/
inductive Fault where
  deriving DecidableEq, Repr

/-- The refusals a step can end in. -/
inductive Refusal where
  /-- A command that has no meaning yet; raised by exec's arms alone, and by none of them now (safe). -/
  | notModelled (mnemonic : String)
  deriving DecidableEq, Repr

/-- The Sweep Timer after either reset (R41). -/
def SweepTimer.reset : SweepTimer :=
  ⟨.stopped, .clear, 0, 0, 0, 0, false, false, false, 0, false⟩

/-- The Step Engine after a hard reset (R88). -/
def StepEngine.reset : StepEngine :=
  ⟨Vector.replicate 8 none, Vector.replicate 8 0, none, none⟩

/-- The Probe Registry after a hard reset (R66, R130). -/
def ProbeRegistry.reset : ProbeRegistry :=
  ⟨Vector.replicate 18 ProbeEntry.reset, Vector.replicate 18 PortState.reset, Session.reset, none⟩

/-- Plan Memory between a hard reset and the end of start-up (R156, log 9). -/
def PlanMemory.reset : PlanMemory := ⟨Plan.empty, Plan.empty, false, 0⟩

/-- The latest end of start-up, 30 ms after it began (R176). -/
def startUpTicks : Nat := 30 * Config.ticksPerMs

/-- The Plan Store when start-up begins, with what is kept through power loss (R167, R176). -/
def PlanStore.startUp (slots : Vector StoreSlot 4) (fixture : FixtureRecord) : PlanStore :=
  ⟨slots, fixture, .starting, none, none, false, none, none, [], startUpTicks⟩

/-- The Station Port after a hard reset, with given levels of its pins RESET# and CS# (R180, R185). -/
def StationPort.reset (resetLow csLow : Bool) : StationPort := ⟨0, 0, none, resetLow, csLow⟩

/-- The part after a hard reset, with given levels of RESET# and CS#, keeping the non-volatile store, the
queue of commands and the free counter. -/
def State.hardReset (resetLow csLow : Bool) (slots : Vector StoreSlot 4) (fixture : FixtureRecord)
    (pending : List Instr) (freeCount : Nat) : State where
  pending := pending
  freeCount := freeCount
  clock := 0
  timer := SweepTimer.reset
  engine := StepEngine.reset
  registry := ProbeRegistry.reset
  links := Vector.replicate 512 (LinkRecord.fresh 0)
  spot := []
  router := ⟨ResultQueue.empty, ResultQueue.empty⟩
  plans := PlanMemory.reset
  store := PlanStore.startUp slots fixture
  port := StationPort.reset resetLow csLow

/-- The part right after a hard reset: RESET# has returned high and start-up has begun (R176), the
non-volatile store as delivered (log 8). -/
def State.reset : State :=
  State.hardReset false false (Vector.replicate 4 StoreSlot.erased) FixtureRecord.unwritten [] 0

end Sys2Proof.Machine
end

