-- ==== Sys2Proof/Machine/Flags.lean ====
section
/-! DEFINITION. Machine/Flags.lean: the attention flags, their enables and ATTN# (R180, R181). -/

namespace Sys2Proof.Machine

/-- The bit of a flag in the flag set (12.2). -/
def Flag.bit : Flag → Nat
  | .verdictUrgent => 0
  | .q0Level => 1
  | .q1Level => 2
  | .qLost => 3
  | .health => 4
  | .run => 5
  | .probe => 6
  | .mark => 7
  | .store => 8
  | .apply => 9
  | .cal => 10
  | .spot => 11

/-- The flag set that names one flag. -/
def Flag.mask (f : Flag) : BitVec 12 := 1#12 <<< f.bit

/-- Whether a flag is set. -/
def StationPort.isSet (p : StationPort) (f : Flag) : Bool := p.flags.getLsbD f.bit

/-- A raised flag stays set; raising it again changes nothing (R180). -/
def StationPort.raise (p : StationPort) (f : Flag) : StationPort :=
  { p with flags := p.flags ||| f.mask }

/-- Raise an attention flag of the part (R180). -/
def raise (f : Flag) (s : State) : State := { s with port := s.port.raise f }

/-- Raise a flag when a condition holds. -/
def raiseIf (c : Bool) (f : Flag) (s : State) : State := if c then raise f s else s

/-- ATTN# is driven low while at least one flag is both set and enabled, and is released while
RESET# is low (R180, R185). -/
def State.attnLow (s : State) : Bool := !s.port.resetLow && (s.port.flags &&& s.port.enables) != 0

/-- The twelve bits of a two-byte flag set; its other bits are ignored (12.2). -/
def flagSet (h : Half) : BitVec 12 := h.setWidth 12

end Sys2Proof.Machine
end

