-- ==== Sys2Proof/Machine/Ops.lean ====
section
/-! DEFINITION. Machine/Ops.lean: the named operations over the tables of the state, and handing a
message to a probe port. -/

namespace Sys2Proof.Machine

/-! ## Tables of fixed length -/

/-- Read entry `i`; an index outside the table reads as `d`. -/
def Tab.get {α : Type} {n : Nat} (d : α) (v : Vector α n) (i : Nat) : α := (v[i]?).getD d

/-- Write entry `i`; an index outside the table writes nothing. -/
def Tab.put {α : Type} {n : Nat} (v : Vector α n) (i : Nat) (x : α) : Vector α n :=
  v.setIfInBounds i x

/-- Read the entry of slot `k`, numbered from 1; there is no slot 0. -/
def Tab.getSlot {α : Type} {n : Nat} (d : α) (v : Vector α n) : Nat → α
  | 0 => d
  | i + 1 => Tab.get d v i

/-- Write the entry of slot `k`, numbered from 1; there is no slot 0. -/
def Tab.putSlot {α : Type} {n : Nat} (v : Vector α n) (k : Nat) (x : α) : Vector α n :=
  match k with
  | 0 => v
  | i + 1 => Tab.put v i x

/-- The slot numbers (00, Numbering). -/
def allSlots : List Nat := [1, 2, 3, 4, 5, 6, 7, 8, 9, 10, 11, 12, 13, 14, 15, 16, 17, 18]

/-- The table slots of the Open Step Table (R67). -/
def tableSlots : List (Fin 8) := [0, 1, 2, 3, 4, 5, 6, 7]

/-- The slot number of a probe port. -/
def slotOf (p : Port) : Nat := p.val + 1

/-- Whether a number is a slot number. -/
def isSlot (n : Nat) : Bool := 1 ≤ n && n ≤ 18

/-! ## Parts of a plan -/

def Plan.step (p : Plan) (i : Nat) : StepEntry := Tab.get StepEntry.cleared p.steps i
def Plan.link (p : Plan) (id : Nat) : LinkDef := Tab.get LinkDef.undefined p.links id
def Plan.cls (p : Plan) (i : Nat) : ClassDef := Tab.get ClassDef.undefined p.classes i
def Plan.filter (p : Plan) (i : Nat) : FilterElement := Tab.get FilterElement.off p.filters i

/-- The number of steps of the plan (R1). -/
def Plan.count (p : Plan) : Nat := p.params.stepCount.toNat

/-- The pile-up policy of a slot (R155). -/
def Params.policy (p : Params) (slot : Nat) : Policy :=
  match slot with
  | 0 => .queue
  | i + 1 => if p.dropSet.getLsbD i then .drop else .queue

/-- The endpoints of a link: source and sink, taps, or slot (R89). -/
def LinkDef.endpoints (d : LinkDef) : List Nat :=
  match d.kind with
  | .lane => [d.source.toNat, d.sink.toNat]
  | .busline => (d.taps.toList.take d.tapCount.toNat).map (·.toNat)
  | .strap => [d.slot.toNat]
  | .rail => [d.slot.toNat]

/-- The taps of a BUSLINE (R89). -/
def LinkDef.tapList (d : LinkDef) : List Nat :=
  (d.taps.toList.take d.tapCount.toNat).map (·.toNat)

/-! ## Parts of the state -/

def State.active (s : State) : Plan := s.plans.active
def State.params (s : State) : Params := s.plans.active.params

def State.probe (s : State) (n : Nat) : ProbeEntry :=
  Tab.getSlot ProbeEntry.reset s.registry.probes n

def State.setProbe (s : State) (n : Nat) (e : ProbeEntry) : State :=
  { s with registry := { s.registry with probes := Tab.putSlot s.registry.probes n e } }

/-- Change the entry of one slot. -/
def State.mapProbe (s : State) (n : Nat) (f : ProbeEntry → ProbeEntry) : State :=
  s.setProbe n (f (s.probe n))

def State.portState (s : State) (n : Nat) : PortState :=
  Tab.getSlot PortState.reset s.registry.ports n

def State.setPortState (s : State) (n : Nat) (p : PortState) : State :=
  { s with registry := { s.registry with ports := Tab.putSlot s.registry.ports n p } }

def State.link (s : State) (id : Nat) : LinkRecord := Tab.get (LinkRecord.fresh 0) s.links id

def State.setLink (s : State) (id : Nat) (r : LinkRecord) : State :=
  { s with links := Tab.put s.links id r }

/-- Whether a link id is defined in the active plan (R89). -/
def State.linkDefined (s : State) (id : Nat) : Bool := (s.active.link id).defined

/-- The open step of a table slot. -/
def State.openAt (s : State) (k : Fin 8) : Option OpenStep := Tab.get none s.engine.table k.val

def State.setOpen (s : State) (k : Fin 8) (o : Option OpenStep) : State :=
  { s with engine := { s.engine with table := Tab.put s.engine.table k.val o } }

/-- The turn of a table slot (R67). -/
def State.turn (s : State) (k : Fin 8) : BitVec 4 := Tab.get 0 s.engine.turns k.val

/-- The Open Step Table holds no open step. -/
def State.tableEmpty (s : State) : Bool := tableSlots.all fun k => (s.openAt k).isNone

/-- The occupied table slots, in order. -/
def State.openSlots (s : State) : List (Fin 8) := tableSlots.filter fun k => (s.openAt k).isSome

def State.withTimer (s : State) (t : SweepTimer) : State := { s with timer := t }
def State.withEngine (s : State) (e : StepEngine) : State := { s with engine := e }
def State.withRegistry (s : State) (r : ProbeRegistry) : State := { s with registry := r }
def State.withRouter (s : State) (r : ResultRouter) : State := { s with router := r }
def State.withPlans (s : State) (p : PlanMemory) : State := { s with plans := p }
def State.withStore (s : State) (st : PlanStore) : State := { s with store := st }
def State.withPort (s : State) (p : StationPort) : State := { s with port := p }
def State.withSpot (s : State) (q : List SpotRequest) : State := { s with spot := q }
def State.withSession (s : State) (x : Session) : State :=
  { s with registry := { s.registry with session := x } }

/-- Advance the counter of the free values (log 2). -/
def State.bump (s : State) : State := { s with freeCount := s.freeCount + 1 }

/-- Take the element that the free choice `c` names; the head of a list of one. -/
def freePick {α : Type} (c : Nat) (x : α) (xs : List α) : α :=
  match xs with
  | [] => x
  | _ :: _ => (x :: xs).getD (c % (xs.length + 1)) x

/-! ## The transmit lists -/

/-- The registry hands a message to a port: it joins the transmit list, or is discarded and counted
as a frame error when the list holds 16 (R43). -/
def PortState.hand (p : PortState) (m : Message) : PortState :=
  if p.transmit.length < Config.transmitRoom then { p with transmit := p.transmit ++ [m] }
  else { p with frameErrors := satInc 65535 p.frameErrors }

/-- Hand a message to the port of a slot (R43). -/
def send (n : Nat) (m : Message) (s : State) : State :=
  s.setPortState n ((s.portState n).hand m)

/-- Hand PARK with the active plan's park mode to the port of each probe that is not ABSENT
(R39, R63). -/
def parkAll (s : State) : State :=
  allSlots.foldl
    (fun s n => if (s.probe n).state = .absent then s else send n (.park s.params.parkMode) s) s

/-- SETUP with the values of the active plan is handed to the slot's port, and setup outstanding
becomes yes (R48). -/
def sendSetup (n : Nat) (s : State) : State :=
  (send n (.setup (s.params.policy n) s.params.parkMode) s).mapProbe n
    fun e => { e with setupOutstanding := true }

/-- A fixture time as the four bytes of a message; a time beyond the greatest fixture time is a free
value (12.1, log 15). -/
def wireTime (t : Nat) : Word := if t ≤ maxWord then BitVec.ofNat 32 t else Config.timeBeyondLimit t

end Sys2Proof.Machine
end

