-- ==== Sys2Proof/Machine/Router.lean ====
section
/-! DEFINITION. Machine/Router.lean: the Result Router: matching a record against the Filter List,
its route, and the two result queues (08). -/

namespace Sys2Proof.Machine

/-- The two result queues. -/
inductive QueueId where
  | q0 | q1
  deriving DecidableEq, Repr

/-- The bit of a record kind in a kinds set (12.3). -/
def RecordKind.bit : RecordKind → Nat
  | .verdict => 0
  | .observation => 1
  | .skipped => 2
  | .spotDone => 3
  | .probe => 4
  | .mark => 5

/-- Whether the element's type matches a record's link id (R144). -/
def FilterElement.matchesLink (f : FilterElement) (link : Option Nat) : Bool :=
  match f.type, link with
  | .off, _ => false
  | .any, _ => true
  | _, none => false
  | .range, some id => f.id1.toNat ≤ id && id ≤ f.id2.toNat
  | .pair, some id => id == f.id1.toNat || id == f.id2.toNat
  | .masked, some id => BitVec.ofNat 16 id &&& f.mask == f.id1 &&& f.mask

/-- Whether an element matches a record: it is enabled, the record's kind is in its kinds set, and its
type matches the link id (R143, R144). -/
def FilterElement.isMatch (f : FilterElement) (r : ResultRecord) : Bool :=
  f.kinds.getLsbD r.kind.bit && f.matchesLink r.link

/-- The index of the first enabled element that matches a record (R145). -/
def firstMatch (p : Plan) (r : ResultRecord) : Option Nat :=
  (List.range 32).find? fun i => (p.filter i).isMatch r

/-- What an unmatched record follows (R145). -/
def Route.action : Route → FilterAction
  | .q0 => .toQ0
  | .q1 => .toQ1
  | .discard => .discard

/-- The route of a record under a plan (R145). -/
def routeOf (p : Plan) (r : ResultRecord) : FilterAction :=
  match firstMatch p r with
  | some i => (p.filter i).action
  | none => p.params.unmatched.action

def ResultRouter.queue (r : ResultRouter) : QueueId → ResultQueue
  | .q0 => r.q0
  | .q1 => r.q1

def ResultRouter.setQueue (r : ResultRouter) (id : QueueId) (q : ResultQueue) : ResultRouter :=
  match id with
  | .q0 => { r with q0 := q }
  | .q1 => { r with q1 := q }

def Params.mode (p : Params) : QueueId → QueueMode
  | .q0 => p.q0Mode
  | .q1 => p.q1Mode

def Params.watermark (p : Params) : QueueId → Nat
  | .q0 => p.q0Watermark.toNat
  | .q1 => p.q1Watermark.toNat

/-- The level flag of a queue (R149). -/
def QueueId.levelFlag : QueueId → Flag
  | .q0 => .q0Level
  | .q1 => .q1Level

/-- Count one lost record (R148). -/
def ResultQueue.lose (q : ResultQueue) (r : ResultRecord) : ResultQueue :=
  { q with lost := satInc 65535 q.lost, verdictLost := q.verdictLost || r.kind == .verdict }

/-- Place a record at the tail (R147). -/
def ResultQueue.place (q : ResultQueue) (r : ResultRecord) : ResultQueue :=
  { q with records := q.records ++ [r] }

/-- A queue after a record is offered to it, and whether a record was lost (R147, R148). -/
def ResultQueue.offer (q : ResultQueue) (mode : QueueMode) (r : ResultRecord) : ResultQueue × Bool :=
  if q.records.length < Config.queueRoom then (q.place r, false)
  else match mode, q.records with
    | .overwrite, oldest :: rest => (({ q with records := rest }.lose oldest).place r, true)
    | _, _ => (q.lose r, true)

/-- Offer a record to a queue of the part, with the flags of R148 and R149. -/
def offer (id : QueueId) (r : ResultRecord) (s : State) : State :=
  let q := s.router.queue id
  let after := q.offer (s.params.mode id) r
  raiseIf (!after.2 && after.1.records.length == s.params.watermark id) id.levelFlag
    (raiseIf after.2 .qLost { s with router := s.router.setQueue id after.1 })

/-- The router takes one record: it searches the Filter List, marks the record with its filter index
and urgent flag, and places, offers or drops it (R142, R145, R146). -/
def hand (r : ResultRecord) (s : State) : State :=
  let marked := { r with filter := firstMatch s.active r }
  match routeOf s.active r with
  | .toQ0 => offer .q0 marked s
  | .toQ1 => offer .q1 marked s
  | .discard => s
  | .urgentQ0 => offer .q0 { marked with urgent := true } (raise .verdictUrgent s)
  | .urgentQ1 => offer .q1 { marked with urgent := true } (raise .verdictUrgent s)

/-- The router takes the records of one producer in the order handed (R142). -/
def handAll (rs : List ResultRecord) (s : State) : State := rs.foldl (fun s r => hand r s) s

/-- A record of the present sweep number and sweep time (R141). -/
def State.newRecord (s : State) (kind : RecordKind) : ResultRecord :=
  ResultRecord.blank kind s.timer.sweepNumber s.timer.sweepTime

end Sys2Proof.Machine
end

