-- ==== Sys2Proof/Machine/Participants.lean ====
section
/-! DEFINITION. Machine/Participants.lean: who takes part in a step or a spot test, and the plan
slots (R6 to R10, R20, R119). -/

namespace Sys2Proof.Machine

def StepEntry.contenderList (e : StepEntry) : List ContenderField :=
  e.contenders.toList.take e.contenderCount.toNat

def StepEntry.expectList (e : StepEntry) : List Nat :=
  (e.expects.toList.take e.expectCount.toNat).map (·.toNat)

def StepEntry.quietList (e : StepEntry) : List QuietField :=
  e.quiets.toList.take e.quietCount.toNat

/-- The talker, if present (R188: a byte of 0 is an absent talker). -/
def StepEntry.talkerList (e : StepEntry) : List Nat :=
  if e.talker = 0 then [] else [e.talker.toNat]

/-- Whether the timing kind is TIMED or MERGED, so that the entry is a test (R5). -/
def StepEntry.isTest (e : StepEntry) : Bool :=
  match e.kind with
  | .timed => true
  | .merged => true
  | .mark => false
  | .free => false

/-- The slots a test names, by its form (R10). The quiet slots of a CONTENDED step are no participants. -/
def StepEntry.slots (e : StepEntry) : List Nat :=
  match e.form with
  | .driven => e.talkerList ++ e.expectList ++ e.quietList.map (·.slot.toNat)
  | .contended => e.contenderList.map (·.slot.toNat) ++ e.expectList

/-- The effective settle (R12). -/
def StepEntry.effectiveSettle (e : StepEntry) : Nat := e.settle.toNat * (e.multiplier.toNat + 1)

/-- A participant entry at a start: AWAITED, with no report contents (R71). -/
def Participant.awaiting (slot : Nat) (role : Role) (cls quietLink code : Option Nat) : Participant :=
  ⟨slot, role, cls, quietLink, code, .awaited, none⟩

/-- The participants of a scheduled step in the order of R10; `cls` is the test link's class. -/
def StepEntry.participants (e : StepEntry) (cls : Nat) : List Participant :=
  match e.form with
  | .driven =>
    e.talkerList.map (fun n => .awaiting n .talker none none none)
      ++ e.expectList.map (fun n => .awaiting n .expect (some cls) none none)
      ++ e.quietList.map (fun q =>
          .awaiting q.slot.toNat .quiet (some q.cls.toNat) (some q.link.toNat) none)
  | .contended =>
    e.contenderList.map (fun c =>
        .awaiting c.slot.toNat .contender (some cls) none (some c.code.toNat))
      ++ e.expectList.map (fun n => .awaiting n .expect (some cls) none none)

/-- The form of a spot test (R119). -/
def LinkDef.spotForm (d : LinkDef) : Form :=
  match d.kind with
  | .lane => .driven
  | .busline => .contended
  | .strap => .driven
  | .rail => .driven

/-- The participants of a spot test in the order of R10 (R119). -/
def LinkDef.spotParticipants (d : LinkDef) : List Participant :=
  match d.kind with
  | .lane => [.awaiting d.source.toNat .talker none none none,
      .awaiting d.sink.toNat .expect (some d.cls.toNat) none none]
  | .busline =>
    (d.tapList.take 4).map (fun n => .awaiting n .contender (some d.cls.toNat) none (some n))
      ++ ((d.tapList.drop 4).take 4).map
          (fun n => .awaiting n .expect (some d.cls.toNat) none none)
  | .strap => [.awaiting d.slot.toNat .expect (some d.cls.toNat) none none]
  | .rail => [.awaiting d.slot.toNat .expect (some d.cls.toNat) none none]

/-- The steps of the plan: entries 0 up to step count − 1 (R1). -/
def Plan.stepList (p : Plan) : List StepEntry := p.steps.toList.take p.count

/-- Every slot named by a test of the plan or as an endpoint of a defined link, with repetitions. -/
def Plan.namedSlots (p : Plan) : List Nat :=
  ((p.stepList.filter StepEntry.isTest).flatMap StepEntry.slots)
    ++ ((p.links.toList.filter LinkDef.defined).flatMap LinkDef.endpoints)

/-- The plan slots (R20). -/
def Plan.planSlots (p : Plan) : List Nat :=
  let named := p.namedSlots
  allSlots.filter fun n => named.contains n

/-- How many plan probes are IN_STEP (R27, R38). -/
def State.inStepCount (s : State) : Nat :=
  s.active.planSlots.countP fun n => (s.probe n).state == .inStep

end Sys2Proof.Machine
end

