-- ==== Sys2Proof/Machine/Windows.lean ====
section
/-! DEFINITION. Machine/Windows.lean: due steps that are not started, and the close of the merged and
free windows (R72, R76, R77, R80). -/

namespace Sys2Proof.Machine

/-- Counts of a link record stop at 16,777,215 (R90). -/
def linkTop : Nat := 16777215

/-- The Verdict Unit adds 1 to the not-started count of a defined link (R72, R85). -/
def countNotStarted (id : Nat) (s : State) : State :=
  if s.linkDefined id then
    s.setLink id { s.link id with notStarted := satInc linkTop (s.link id).notStarted }
  else s

/-- The SKIPPED record of a due step not started (R72). -/
def skippedRecord (s : State) (index : Nat) (e : StepEntry) (reason : NotStarted) : ResultRecord :=
  { s.newRecord .skipped with
    link := some e.testLink.toNat, step := some index, marker := some e.marker,
    reason := some reason }

/-- A due step is not started (R72): the link's count, the Sweep Timer's indicator, and the SKIPPED
record when the step is logged. -/
def notStarted (index : Nat) (e : StepEntry) (reason : NotStarted) (s : State) : State :=
  let counted := countNotStarted e.testLink.toNat s
  let marked := counted.withTimer { counted.timer with notStarted := true }
  if e.log then hand (skippedRecord marked index e reason) marked else marked

/-- The pending steps of the merged window in progress. -/
def State.pendingSteps (s : State) : List PendingStep :=
  match s.engine.merged with
  | some w => w.pending
  | none => []

/-- Discard both window records (R76, R80, R87). -/
def discardWindows (s : State) : State :=
  s.withEngine { s.engine with merged := none, free := none }

/-- A merged window closes: every step still pending is not started with reason WINDOW_CLOSED, in list
order, and the record is discarded; a free window's record is discarded (R76, R80). -/
def closeWindows (s : State) : State :=
  discardWindows
    (s.pendingSteps.foldl (fun s p => notStarted p.index p.entry .windowClosed s) s)

/-- The sweep in progress ends or is broken off (R22): its windows close, and no further mark or sweep
start of it comes. -/
def endSweep (s : State) : State :=
  let closed := closeWindows s
  closed.withTimer { closed.timer with sweepActive := false, sweepEndDue := false }

end Sys2Proof.Machine
end

