-- ==== Sys2Proof/Machine/Registry.lean ====
section
/-! DEFINITION. Machine/Registry.lean: changes of probe state, assignments and their ends
(R54 to R59). -/

namespace Sys2Proof.Machine

/-- Every change of a probe's state raises PROBE and hands a PROBE record; keeping the state does
neither (R56). -/
def changeState (n : Nat) (new : ProbeState) (s : State) : State :=
  if (s.probe n).state = new then s
  else
    hand { s.newRecord .probe with slot := some n, newState := some new }
      (raise .probe (s.mapProbe n fun e => { e with state := new }))

/-- A deferred change from QUEUE to DROP is taken when the entry no longer holds a queued assignment
(R59); `policy` is the active plan's policy for the slot. -/
def ProbeEntry.dropQueued (e : ProbeEntry) (policy : Policy) : ProbeEntry :=
  if e.queued.isSome then { e with queued := none, policy := policy } else e

/-- Both assignments become absent (R54). -/
def ProbeEntry.clearAssignments (e : ProbeEntry) (policy : Policy) : ProbeEntry :=
  { e.dropQueued policy with current := none }

/-- Whether an assignment carries a tag. -/
def carries (a : Option Assignment) (t : Tag) : Bool :=
  match a with
  | some a => a.tag == t
  | none => false

/-- The assignment with a tag ends: a current one gives way to the queued one, a queued one leaves the
current one as it is (R58). -/
def ProbeEntry.endAssignment (e : ProbeEntry) (t : Tag) (policy : Policy) : ProbeEntry :=
  if carries e.current t then { e.dropQueued policy with current := e.queued }
  else if carries e.queued t then e.dropQueued policy
  else e

/-- End the assignment with a tag at a slot's probe (R58). -/
def endAssignment (t : Tag) (n : Nat) (s : State) : State :=
  s.mapProbe n fun e => e.endAssignment t (s.params.policy n)

/-- A probe can take an assignment (R57). -/
def ProbeEntry.canTake (e : ProbeEntry) : Bool :=
  e.state == .inStep && (e.current.isNone || (e.policy == .queue && e.queued.isNone))

/-- Both field power flags are on (R53). -/
def ProbeEntry.powered (e : ProbeEntry) : Bool := e.mainPower && e.auxPower

/-- A probe is given an assignment: current when it has none, else queued (R57). -/
def ProbeEntry.give (e : ProbeEntry) (a : Assignment) : ProbeEntry :=
  if e.current.isNone then { e with current := some a } else { e with queued := some a }

/-- A message that its probe's state or its rule does not admit adds 1 to the stray count (R46). -/
def stray (n : Nat) (s : State) : State :=
  s.mapProbe n fun e => { e with strayCount := satInc 65535 e.strayCount }

/-- A defined link is blocked while an endpoint probe is not IN_STEP or lacks field power (R91). -/
def State.blocked (s : State) (id : Nat) : Bool :=
  (s.active.link id).endpoints.any fun n =>
    (s.probe n).state != .inStep || !(s.probe n).powered

end Sys2Proof.Machine
end

