-- ==== Sys2Proof/Machine/Spot.lean ====
section
/-! DEFINITION. Machine/Spot.lean: the Spot Queue: arrival, leaving, cancel, withdrawal, the count of a
closure and the hand-back of an abort (06). -/

namespace Sys2Proof.Machine

/-- The SPOT_DONE record of a request that leaves (R122). -/
def spotDoneRecord (s : State) (r : SpotRequest) (ending : Ending) (despite : Bool) : ResultRecord :=
  { s.newRecord .spotDone with
    link := some r.link, marker := some r.marker, slot := r.requester, ending := some ending,
    tallies := some r.tallies, despiteCancel := despite }

/-- A request that has left the queue hands its SPOT_DONE record and raises SPOT (R122). -/
def spotDone (r : SpotRequest) (ending : Ending) (despite : Bool) (s : State) : State :=
  raise .spot (hand (spotDoneRecord s r ending despite) s)

/-- The request that names a link, if any (R117: at most one). -/
def State.spotFor (s : State) (link : Nat) : Option SpotRequest :=
  s.spot.find? fun r => r.link == link

/-- The queue without the request for a link. -/
def withoutLink (link : Nat) (q : List SpotRequest) : List SpotRequest :=
  q.filter fun r => r.link != link

/-- Set the end pending of the request for a link. -/
def markEnd (link : Nat) (e : Ending) (q : List SpotRequest) : List SpotRequest :=
  q.map fun r => if r.link = link then { r with endPending := some e } else r

/-- The answer to an arriving request (R118). -/
inductive Arrival where
  | accepted | range | state | duplicate | full
  deriving DecidableEq, Repr

/-- A new request (R118). -/
def SpotRequest.arriving (requester : Option Nat) (link repeats : Nat) (marker : Byte) :
    SpotRequest :=
  ⟨requester, link, repeats, marker, ⟨0, 0, 0, 0⟩, none, none⟩

/-- The five conditions of arrival, in order (R118). An id of 512 or more is undefined. -/
def State.arrival (s : State) (requester : Option Nat) (link repeats : Nat) : Arrival :=
  if !(s.linkDefined link && 1 ≤ repeats && repeats ≤ 16) then .range
  else if !(match requester with
      | none => true
      | some n => (s.active.link link).endpoints.contains n) then .range
  else if (s.link link).withdrawn then .state
  else if (s.spotFor link).isSome then .duplicate
  else if s.spot.length < Config.spotRoom then .accepted
  else .full

/-- A request arrives: when accepted it joins the tail, else nothing changes (R118). -/
def arrive (requester : Option Nat) (link repeats : Nat) (marker : Byte) (s : State) : State :=
  match s.arrival requester link repeats with
  | .accepted => s.withSpot (s.spot ++ [.arriving requester link repeats marker])
  | _ => s

/-- End the request for a link by a cancel: a waiting one leaves at once, one in flight takes end
pending CANCELLED unless an end is pending already (R123, R124). -/
def cancelSpot (r : SpotRequest) (s : State) : State :=
  if r.inFlight.isSome then
    if r.endPending.isSome then s else s.withSpot (markEnd r.link .cancelled s.spot)
  else spotDone r .cancelled false (s.withSpot (withoutLink r.link s.spot))

/-- A withdrawal reaches the Spot Queue: a waiting request leaves WITHDRAWN, one in flight takes end
pending WITHDRAWN (R125). -/
def withdrawSpot (link : Nat) (s : State) : State :=
  match s.spotFor link with
  | none => s
  | some r =>
    if r.inFlight.isSome then s.withSpot (markEnd link .withdrawn s.spot)
    else spotDone r .withdrawn false (s.withSpot (withoutLink link s.spot))

/-- An installation leaves link ids undefined: their waiting requests leave WITHDRAWN in queue order,
one in flight takes end pending WITHDRAWN (R126). -/
def installSpot (s : State) : State :=
  let gone := fun (r : SpotRequest) => !s.linkDefined r.link
  let leaving := s.spot.filter fun r => gone r && r.inFlight.isNone
  let staying := s.spot.filter fun r => !(gone r && r.inFlight.isNone)
  let marked := staying.map fun r => if gone r then { r with endPending := some .withdrawn } else r
  leaving.foldl (fun s r => spotDone r .withdrawn false s) (s.withSpot marked)

/-- The tallies after a closure of a group (R121). -/
def Tallies.count (t : Tallies) (g : OutcomeGroup) : Tallies :=
  match g with
  | .pass => { t with inRange := t.inRange + 1 }
  | .margin => { t with margin := t.margin + 1 }
  | .fail => { t with fail := t.fail + 1 }
  | .openGroup => { t with fail := t.fail + 1 }
  | .void => { t with void := t.void + 1 }
  | .heardGroup => t

/-- The request after its spot test closed: no longer in flight, counted unless the closure is marked as
not counted (R121). -/
def SpotRequest.counted (r : SpotRequest) (g : OutcomeGroup) (counts : Bool) : SpotRequest :=
  if counts then
    { r with inFlight := none, tallies := r.tallies.count g, repeats := floorDec r.repeats }
  else { r with inFlight := none }

/-- The Spot Queue takes the closure of the spot test of a tag (R121). -/
def spotClosure (t : Tag) (g : OutcomeGroup) (counts : Bool) (s : State) : State :=
  match s.spot.find? (fun r => r.inFlight == some t) with
  | none => s
  | some r =>
    let after := r.counted g counts
    match r.endPending with
    | some e => spotDone after e true (s.withSpot (withoutLink r.link s.spot))
    | none =>
      if after.repeats = 0 then
        spotDone after .completed false (s.withSpot (withoutLink r.link s.spot))
      else s.withSpot (s.spot.map fun q => if q.link = r.link then after else q)

/-- RUN ABORT hands the request in flight back (R127): its tag becomes absent, and it leaves when an end
is pending. -/
def spotHandBack (s : State) : State :=
  match s.spot.find? (fun r => r.inFlight.isSome) with
  | none => s
  | some r =>
    let after := { r with inFlight := none }
    match r.endPending with
    | some e => spotDone after e false (s.withSpot (withoutLink r.link s.spot))
    | none => s.withSpot (s.spot.map fun q => if q.link = r.link then after else q)

end Sys2Proof.Machine
end

