-- ==== Sys2Proof/Machine/Install.lean ====
section
/-! DEFINITION. Machine/Install.lean: the installation of the shadow as the active plan, and clearing
link records (R93, R94, R165). -/

namespace Sys2Proof.Machine

/-- The VERDICT record of a change that no closure made (R115). -/
def bareVerdictRecord (s : State) (id : Nat) (old new : Verdict) : ResultRecord :=
  { s.newRecord .verdict with link := some id, oldVerdict := some old, newVerdict := some new }

/-- Give a link a record whose verdict is UNTESTED, with a VERDICT record when it was not UNTESTED
before (R93, R94). -/
def freshen (id : Nat) (fresh : LinkRecord) (s : State) : State :=
  let old := (s.link id).verdict
  let after := s.setLink id fresh
  if old = .untested then after else hand (bareVerdictRecord after id old .untested) after

/-- LINK CLEAR's effect on one link: its starting values, the withdrawn flag and the definition kept
(R93). -/
def clearLink (id : Nat) (s : State) : State :=
  freshen id
    { LinkRecord.fresh (s.link id).definedIn with withdrawn := (s.link id).withdrawn } s

/-- Every defined link is cleared, in ascending order of link id (R94). -/
@[irreducible] def clearAllLinks (s : State) : State :=
  (List.range 512).foldl (fun s id => if s.linkDefined id then clearLink id s else s) s

/-- Two definitions of one kind and the same endpoints (R94). -/
def LinkDef.sameLink (a b : LinkDef) : Bool := a.kind == b.kind && a.endpoints == b.endpoints

/-- One link id at an installation: kept, made fresh, or discarded (R94). `s` already holds the new
plan. -/
def installLink (old : Plan) (id : Nat) (s : State) : State :=
  let before := old.link id
  let after := s.active.link id
  let fresh := LinkRecord.fresh s.plans.generation
  if !after.defined then
    if before.defined then s.setLink id (LinkRecord.fresh 0) else s
  else if !before.defined then s.setLink id fresh
  else if before.sameLink after then s
  else freshen id fresh s

@[irreducible] def installLinks (old : Plan) (s : State) : State :=
  (List.range 512).foldl (fun s id => installLink old id s) s

/-- A changed watermark at or below the fill level raises the level flag (R149, log 33). -/
def installLevel (old : Params) (id : QueueId) (s : State) : State :=
  raiseIf
    (old.watermark id != s.params.watermark id
      && s.params.watermark id ≤ (s.router.queue id).records.length)
    id.levelFlag s

/-- The entry takes the plan's policy, except that a change from QUEUE to DROP waits while a queued
assignment is held (R59). -/
def ProbeEntry.takePolicy (e : ProbeEntry) (policy : Policy) : ProbeEntry :=
  if policy = .drop ∧ e.queued.isSome then e else { e with policy := policy }

/-- The registry takes the new plan at one slot: the policy, and SETUP when the park mode or the slot's
policy changes and the probe is not ABSENT (R48, R59). -/
def installProbe (old : Params) (n : Nat) (s : State) : State :=
  let taken := s.mapProbe n fun e => e.takePolicy (s.params.policy n)
  if (taken.probe n).state ≠ .absent
      ∧ (old.parkMode ≠ s.params.parkMode ∨ old.policy n ≠ s.params.policy n) then
    sendSetup n taken
  else taken

def installProbes (old : Params) (s : State) : State :=
  allSlots.foldl (fun s n => installProbe old n s) s

/-- Items 1 and 2 of R165: the generation gains 1 and the shadow is copied into the active plan. -/
def installPlan (s : State) : State :=
  s.withPlans { s.plans with active := s.plans.shadow, generation := s.plans.generation + 1 }

/-- Items 1 to 6 of an installation, in order (R165). -/
def install (s : State) : State :=
  let old := s.active
  installProbes old.params
    (installSpot
      (installLinks old
        (installLevel old.params .q1 (installLevel old.params .q0 (installPlan s)))))

/-- A pending apply reaches its point: it is released, installed, and APPLY is raised (R163). -/
def installPending (s : State) : State :=
  if s.plans.applyPending then
    raise .apply (install (s.withPlans { s.plans with applyPending := false }))
  else s

end Sys2Proof.Machine
end

