-- ==== Sys2Proof/Machine/Operands.lean ====
section
/-! DEFINITION. Machine/Operands.lean: the byte layouts of plan entries, and the codes of their
enumerated fields, read from a request and written into an answer (12.3, R188). -/

namespace Sys2Proof.Machine

/-! ## Bytes -/

/-- Byte `i` of a parameter field; a field shorter than its layout reads as 0 beyond its end. -/
def byteAt (bs : List Byte) (i : Nat) : Byte := bs.getD i 0

/-- A two-byte number, most significant byte first (12). -/
def halfOf (hi lo : Byte) : Half := (hi ++ lo : BitVec (8 + 8))

def halfAt (bs : List Byte) (i : Nat) : Half := halfOf (byteAt bs i) (byteAt bs (i + 1))

/-- The bytes of numbers, most significant first (12). -/
def halfBytes (h : Half) : List Byte := [h.extractLsb' 8 8, h.extractLsb' 0 8]

def wordBytes (w : Word) : List Byte :=
  [w.extractLsb' 24 8, w.extractLsb' 16 8, w.extractLsb' 8 8, w.extractLsb' 0 8]

def threeBytes (t : BitVec 24) : List Byte :=
  [t.extractLsb' 16 8, t.extractLsb' 8 8, t.extractLsb' 0 8]

def natByte (n : Nat) : Byte := BitVec.ofNat 8 n
def natHalf (n : Nat) : List Byte := halfBytes (BitVec.ofNat 16 n)
def natWord (n : Nat) : List Byte := wordBytes (BitVec.ofNat 32 n)
def boolByte (b : Bool) : Byte := if b then 1 else 0

/-! ## Codes (12.1, 12.3): an enumerated byte outside its codes names no value -/

def Policy.toByte : Policy → Byte
  | .queue => 0
  | .drop => 1

def ParkMode.toByte : ParkMode → Byte
  | .release => 0
  | .idle => 1
  | .hold => 2

def ParkMode.ofCode (b : Byte) : Option ParkMode :=
  match b.toNat with
  | 0 => some .release
  | 1 => some .idle
  | 2 => some .hold
  | _ => none

def Route.toByte : Route → Byte
  | .q0 => 0
  | .q1 => 1
  | .discard => 2

def Route.ofCode (b : Byte) : Option Route :=
  match b.toNat with
  | 0 => some .q0
  | 1 => some .q1
  | 2 => some .discard
  | _ => none

def QueueMode.toByte : QueueMode → Byte
  | .blocking => 0
  | .overwrite => 1

def QueueMode.ofCode (b : Byte) : Option QueueMode :=
  match b.toNat with
  | 0 => some .blocking
  | 1 => some .overwrite
  | _ => none

def TimingKind.toByte : TimingKind → Byte
  | .timed => 0
  | .merged => 1
  | .mark => 2
  | .free => 3

def TimingKind.ofCode (b : Byte) : Option TimingKind :=
  match b.toNat with
  | 0 => some .timed
  | 1 => some .merged
  | 2 => some .mark
  | 3 => some .free
  | _ => none

def Form.toByte : Form → Byte
  | .driven => 0
  | .contended => 1

def Form.ofCode (b : Byte) : Option Form :=
  match b.toNat with
  | 0 => some .driven
  | 1 => some .contended
  | _ => none

def Stimulus.toByte : Stimulus → Byte
  | .high => 0
  | .low => 1
  | .toggleSlow => 2
  | .toggleFast => 3
  | .scramble => 4
  | .walk => 5

def Stimulus.ofCode (b : Byte) : Option Stimulus :=
  match b.toNat with
  | 0 => some .high
  | 1 => some .low
  | 2 => some .toggleSlow
  | 3 => some .toggleFast
  | 4 => some .scramble
  | 5 => some .walk
  | _ => none

def RepeatRule.toByte : RepeatRule → Byte
  | .once => 0
  | .always => 1

def RepeatRule.ofCode (b : Byte) : Option RepeatRule :=
  match b.toNat with
  | 0 => some .once
  | 1 => some .always
  | _ => none

/-- A byte coded 0 or 1: log, defined, quick, drive result, wire-off. -/
def boolOfCode (b : Byte) : Option Bool :=
  match b.toNat with
  | 0 => some false
  | 1 => some true
  | _ => none

def LinkKind.toByte : LinkKind → Byte
  | .lane => 0
  | .busline => 1
  | .strap => 2
  | .rail => 3

def LinkKind.ofCode (b : Byte) : Option LinkKind :=
  match b.toNat with
  | 0 => some .lane
  | 1 => some .busline
  | 2 => some .strap
  | 3 => some .rail
  | _ => none

def Measure.toByte : Measure → Byte
  | .level => 0
  | .errors => 1
  | .code => 2
  | .silence => 3

def Measure.ofCode (b : Byte) : Option Measure :=
  match b.toNat with
  | 0 => some .level
  | 1 => some .errors
  | 2 => some .code
  | 3 => some .silence
  | _ => none

def Format.toByte : Format → Byte
  | .signed => 0
  | .unsigned => 1
  | .offset => 2

def Format.ofCode (b : Byte) : Option Format :=
  match b.toNat with
  | 0 => some .signed
  | 1 => some .unsigned
  | 2 => some .offset
  | _ => none

def ProbeRange.toByte : ProbeRange → Byte
  | .low => 0
  | .high => 1

def ProbeRange.ofCode (b : Byte) : Option ProbeRange :=
  match b.toNat with
  | 0 => some .low
  | 1 => some .high
  | _ => none

def FilterType.toByte : FilterType → Byte
  | .range => 0
  | .pair => 1
  | .masked => 2
  | .any => 3
  | .off => 4

def FilterType.ofCode (b : Byte) : Option FilterType :=
  match b.toNat with
  | 0 => some .range
  | 1 => some .pair
  | 2 => some .masked
  | 3 => some .any
  | 4 => some .off
  | _ => none

def FilterAction.toByte : FilterAction → Byte
  | .toQ0 => 0
  | .toQ1 => 1
  | .discard => 2
  | .urgentQ0 => 3
  | .urgentQ1 => 4

def FilterAction.ofCode (b : Byte) : Option FilterAction :=
  match b.toNat with
  | 0 => some .toQ0
  | 1 => some .toQ1
  | 2 => some .discard
  | 3 => some .urgentQ0
  | 4 => some .urgentQ1
  | _ => none

def CalKind.ofCode (b : Byte) : Option CalKind :=
  match b.toNat with
  | 0 => some .offset
  | 1 => some .gain
  | _ => none

def RangeChoice.toByte : RangeChoice → Byte
  | .low => 0
  | .high => 1
  | .both => 2

def RangeChoice.ofCode (b : Byte) : Option RangeChoice :=
  match b.toNat with
  | 0 => some .low
  | 1 => some .high
  | 2 => some .both
  | _ => none

/-! ## Step entry (48 bytes) -/

def contenderAt (bs : List Byte) (i : Nat) : ContenderField := ⟨byteAt bs i, byteAt bs (i + 1)⟩

def quietAt (bs : List Byte) (i : Nat) : QuietField :=
  ⟨byteAt bs i, halfAt bs (i + 1), byteAt bs (i + 3)⟩

def StepEntry.decode (bs : List Byte) : Option StepEntry := do
  let kind ← TimingKind.ofCode (byteAt bs 2)
  let form ← Form.ofCode (byteAt bs 3)
  let stimulus ← Stimulus.ofCode (byteAt bs 38)
  let rule ← RepeatRule.ofCode (byteAt bs 45)
  let log ← boolOfCode (byteAt bs 47)
  return {
    timeMark := halfAt bs 0
    kind := kind
    form := form
    testLink := halfAt bs 4
    talker := byteAt bs 6
    contenderCount := byteAt bs 7
    contenders := #v[contenderAt bs 8, contenderAt bs 10, contenderAt bs 12, contenderAt bs 14]
    expectCount := byteAt bs 16
    expects := #v[byteAt bs 17, byteAt bs 18, byteAt bs 19, byteAt bs 20]
    quietCount := byteAt bs 21
    quiets := #v[quietAt bs 22, quietAt bs 26, quietAt bs 30, quietAt bs 34]
    stimulus := stimulus
    window := halfAt bs 39
    settle := byteAt bs 41
    multiplier := byteAt bs 42
    runMask := halfAt bs 43
    rule := rule
    marker := byteAt bs 46
    log := log }

def StepEntry.encode (e : StepEntry) : List Byte :=
  halfBytes e.timeMark ++ [e.kind.toByte, e.form.toByte] ++ halfBytes e.testLink
    ++ [e.talker, e.contenderCount]
    ++ e.contenders.toList.flatMap (fun c => [c.slot, c.code])
    ++ [e.expectCount] ++ e.expects.toList ++ [e.quietCount]
    ++ e.quiets.toList.flatMap (fun q => [q.slot] ++ halfBytes q.link ++ [q.cls])
    ++ [e.stimulus.toByte] ++ halfBytes e.window ++ [e.settle, e.multiplier] ++ halfBytes e.runMask
    ++ [e.rule.toByte, e.marker, boolByte e.log]

/-! ## Link (27 bytes) -/

def LinkDef.decode (bs : List Byte) : Option LinkDef := do
  let defined ← boolOfCode (byteAt bs 0)
  let kind ← LinkKind.ofCode (byteAt bs 1)
  return {
    defined := defined
    kind := kind
    cls := byteAt bs 2
    expected := halfAt bs 3
    source := byteAt bs 5
    sink := byteAt bs 6
    slot := byteAt bs 7
    tapCount := byteAt bs 8
    taps := #v[byteAt bs 9, byteAt bs 10, byteAt bs 11, byteAt bs 12, byteAt bs 13, byteAt bs 14,
      byteAt bs 15, byteAt bs 16, byteAt bs 17, byteAt bs 18, byteAt bs 19, byteAt bs 20,
      byteAt bs 21, byteAt bs 22, byteAt bs 23, byteAt bs 24, byteAt bs 25, byteAt bs 26] }

def LinkDef.encode (d : LinkDef) : List Byte :=
  [boolByte d.defined, d.kind.toByte, d.cls] ++ halfBytes d.expected
    ++ [d.source, d.sink, d.slot, d.tapCount] ++ d.taps.toList

/-! ## Class (14 bytes) -/

def ClassDef.decode (bs : List Byte) : Option ClassDef := do
  let defined ← boolOfCode (byteAt bs 0)
  let measure ← Measure.ofCode (byteAt bs 1)
  let format ← Format.ofCode (byteAt bs 2)
  let range ← ProbeRange.ofCode (byteAt bs 3)
  return {
    defined := defined
    measure := measure
    format := format
    range := range
    low := halfAt bs 4
    high := halfAt bs 6
    margin := halfAt bs 8
    mask := halfAt bs 10
    passQuota := byteAt bs 12
    failThreshold := byteAt bs 13 }

def ClassDef.encode (c : ClassDef) : List Byte :=
  [boolByte c.defined, c.measure.toByte, c.format.toByte, c.range.toByte] ++ halfBytes c.low
    ++ halfBytes c.high ++ halfBytes c.margin ++ halfBytes c.mask ++ [c.passQuota, c.failThreshold]

/-! ## Filter element (9 bytes) -/

def FilterElement.decode (bs : List Byte) : Option FilterElement := do
  let type ← FilterType.ofCode (byteAt bs 0)
  let action ← FilterAction.ofCode (byteAt bs 8)
  return {
    type := type
    id1 := halfAt bs 1
    id2 := halfAt bs 3
    mask := halfAt bs 5
    kinds := (byteAt bs 7).setWidth 6
    action := action }

def FilterElement.encode (f : FilterElement) : List Byte :=
  [f.type.toByte] ++ halfBytes f.id1 ++ halfBytes f.id2 ++ halfBytes f.mask
    ++ [f.kinds.setWidth 8, f.action.toByte]

/-! ## Parameter set (21 bytes) -/

/-- A slot set of three bytes; bits 18 to 23 are ignored (12). -/
def slotSetAt (bs : List Byte) (i : Nat) : BitVec 18 :=
  (byteAt bs i ++ byteAt bs (i + 1) ++ byteAt bs (i + 2) : BitVec (8 + 8 + 8)).setWidth 18

def Params.decode (bs : List Byte) : Option Params := do
  let parkMode ← ParkMode.ofCode (byteAt bs 12)
  let unmatched ← Route.ofCode (byteAt bs 16)
  let q0Mode ← QueueMode.ofCode (byteAt bs 17)
  let q1Mode ← QueueMode.ofCode (byteAt bs 18)
  return {
    sweepLength := halfAt bs 0
    patternPeriod := byteAt bs 2
    stepCount := halfAt bs 3
    reportGrace := halfAt bs 5
    spotWindow := halfAt bs 7
    missLimit := byteAt bs 9
    syncSweeps := byteAt bs 10
    quorum := byteAt bs 11
    parkMode := parkMode
    dropSet := slotSetAt bs 13
    unmatched := unmatched
    q0Mode := q0Mode
    q1Mode := q1Mode
    q0Watermark := byteAt bs 19
    q1Watermark := byteAt bs 20 }

def Params.encode (p : Params) : List Byte :=
  halfBytes p.sweepLength ++ [p.patternPeriod] ++ halfBytes p.stepCount ++ halfBytes p.reportGrace
    ++ halfBytes p.spotWindow ++ [p.missLimit, p.syncSweeps, p.quorum, p.parkMode.toByte]
    ++ threeBytes (p.dropSet.setWidth 24)
    ++ [p.unmatched.toByte, p.q0Mode.toByte, p.q1Mode.toByte, p.q0Watermark, p.q1Watermark]

/-! ## Targets (R157, 12.3) -/

/-- The part of a plan a request names. -/
inductive Target where
  | params
  | step (index : Nat)
  | link (index : Nat)
  | cls (index : Nat)
  | filter (index : Nat)
  deriving DecidableEq, Repr

/-- The target of a target byte and an index; none when either is outside its range. The index is
ignored for the parameter set (12.3). -/
def Target.ofCode (target : Byte) (index : Half) : Option Target :=
  let i := index.toNat
  match target.toNat with
  | 0 => some .params
  | 1 => if i < 512 then some (.step i) else none
  | 2 => if i < 512 then some (.link i) else none
  | 3 => if i < 32 then some (.cls i) else none
  | 4 => if i < 32 then some (.filter i) else none
  | _ => none

/-- One part of a plan replaced by a content (R157); none when an enumerated field of the content names
none of its values. -/
def Plan.write (p : Plan) (t : Target) (bs : List Byte) : Option Plan :=
  match t with
  | .params => (Params.decode bs).map fun x => { p with params := x }
  | .step i => (StepEntry.decode bs).map fun x => { p with steps := Tab.put p.steps i x }
  | .link i => (LinkDef.decode bs).map fun x => { p with links := Tab.put p.links i x }
  | .cls i => (ClassDef.decode bs).map fun x => { p with classes := Tab.put p.classes i x }
  | .filter i => (FilterElement.decode bs).map fun x => { p with filters := Tab.put p.filters i x }

/-- The bytes of one part of a plan (R158, R188). -/
def Plan.read (p : Plan) : Target → List Byte
  | .params => p.params.encode
  | .step i => (p.step i).encode
  | .link i => (p.link i).encode
  | .cls i => (p.cls i).encode
  | .filter i => (p.filter i).encode

end Sys2Proof.Machine
end

