-- ==== Sys2Proof/Machine/Frames.lean ====
section
/-! DEFINITION. Machine/Frames.lean: the CRCs, the frames of the probe lines and their checks
(12.1, 12.2, R45, R186). -/

namespace Sys2Proof.Machine

/-! ## CRC-8 and CRC-16 -/

/-- One bit of the CRC-8 with polynomial x⁸ + x² + x + 1, most significant bit first (12.2). -/
def crc8Bit (c : Byte) : Byte := if c.msb then (c <<< 1) ^^^ 0x07 else c <<< 1

def crc8Bits : Nat → Byte → Byte
  | 0, c => c
  | n + 1, c => crc8Bits n (crc8Bit c)

/-- The CRC-8 of the station port, started at 00h, without final inversion (12.2). -/
def crc8 (bs : List Byte) : Byte := bs.foldl (fun c b => crc8Bits 8 (c ^^^ b)) 0

/-- One bit of the CRC-16 with polynomial x¹⁶ + x¹² + x⁵ + 1 (R186). -/
def crc16Bit (c : Half) : Half := if c.msb then (c <<< 1) ^^^ 0x1021 else c <<< 1

def crc16Bits : Nat → Half → Half
  | 0, c => c
  | n + 1, c => crc16Bits n (crc16Bit c)

/-- The CRC-16 of a probe frame, started at FFFFh, without final inversion (R186). -/
def crc16 (bs : List Byte) : Half :=
  bs.foldl (fun c b => crc16Bits 8 (c ^^^ (halfOf b 0))) 0xFFFF

/-! ## Frames sent (12.1) -/

/-- The tag byte: bit 7 is 0, bits 6 to 4 the table slot, bits 3 to 0 the turn (12.1). -/
def Tag.byte (t : Tag) : Byte := BitVec.ofNat 8 (t.slot.val * 16 + t.turn.toNat)

/-- The tag of a tag byte; none when bit 7 is set (R186). -/
def Tag.ofByte (b : Byte) : Option Tag :=
  if b.msb then none
  else some ⟨⟨b.toNat / 16 % 8, Nat.mod_lt _ (by decide)⟩, b.setWidth 4⟩

def Message.kindCode : Message → Byte
  | .mark .. => 0x01
  | .setup .. => 0x02
  | .drive .. => 0x03
  | .listen .. => 0x04
  | .contend .. => 0x05
  | .park .. => 0x06
  | .calMeas .. => 0x07
  | .spotAns .. => 0x08

/-- The payload of a message, in the order of 12.1. -/
def Message.payload : Message → List Byte
  | .mark sweep time pattern => wordBytes sweep ++ wordBytes time ++ [pattern]
  | .setup policy parkMode => [policy.toByte, parkMode.toByte]
  | .drive tag stimulus start window =>
    [tag.byte, stimulus.toByte] ++ wordBytes start ++ halfBytes window
  | .listen tag quiet measure range start finish =>
    [tag.byte, boolByte quiet, measure.toByte, range.toByte] ++ wordBytes start ++ wordBytes finish
  | .contend tag code start => [tag.byte, code] ++ wordBytes start
  | .park mode => [mode.toByte]
  | .calMeas full range => [boolByte full, range.toByte]
  | .spotAns link answer => halfBytes link ++ [answer]

/-- The frame of a kind and a payload: kind, length, payload, CRC-16 (12.1). -/
def frameOf (kind : Byte) (payload : List Byte) : List Byte :=
  let body := kind :: natByte payload.length :: payload
  body ++ halfBytes (crc16 body)

def Message.frame (m : Message) : List Byte := frameOf m.kindCode m.payload

/-! ## Frames received (R186) -/

/-- The payload length of a kind a probe may send; none for any other kind byte (12.1). -/
def payloadLength (kind : Byte) : Option Nat :=
  match kind.toNat with
  | 0x81 => some 6
  | 0x82 => some 0
  | 0x83 => some 4
  | 0x84 => some 2
  | 0x85 => some 6
  | 0x86 => some 4
  | 0x87 => some 2
  | 0x88 => some 3
  | 0x89 => some 4
  | 0x8A => some 2
  | _ => none

/-- A tag byte has bit 7 clear. -/
def tagChecks (tag : Byte) : Bool := !tag.msb

/-- The value check of a geographic code (R186). -/
def codeChecks (code : Byte) : Bool := code.toNat ≤ 31

/-- The value checks of DONE. -/
def doneChecks (tag result : Byte) : Bool := tagChecks tag && result.toNat ≤ 1

/-- The value checks of READING. -/
def readingChecks (tag wireOff : Byte) : Bool := tagChecks tag && wireOff.toNat ≤ 1

/-- The value checks of CONTRES: the loss position is checked when the result is LOST. -/
def contresChecks (tag result position wireOff : Byte) : Bool :=
  tagChecks tag && result.toNat ≤ 1 && wireOff.toNat ≤ 1
    && (result.toNat == 0 || position.toNat ≤ 5)

/-- The value checks of a payload, by kind (R186). -/
def valuesCheck (kind : Byte) (payload : List Byte) : Bool :=
  match kind.toNat with
  | 0x81 => codeChecks (byteAt payload 4)
  | 0x84 => doneChecks (byteAt payload 0) (byteAt payload 1)
  | 0x85 => readingChecks (byteAt payload 0) (byteAt payload 5)
  | 0x86 =>
    contresChecks (byteAt payload 0) (byteAt payload 1) (byteAt payload 2) (byteAt payload 3)
  | 0x88 => codeChecks (byteAt payload 2)
  | _ => true

/-- A received frame passes every check of R186: its CRC, its kind, its length and its values. -/
def frameChecks (frame : List Byte) : Bool :=
  match frame with
  | kind :: length :: rest =>
    let payload := rest.take length.toNat
    let crc := rest.drop length.toNat
    match payloadLength kind with
    | none => false
    | some n =>
      length.toNat == n && rest.length == n + 2
        && crc == halfBytes (crc16 (kind :: length :: payload)) && valuesCheck kind payload
  | _ => false

end Sys2Proof.Machine
end

