-- ==== Sys2Proof/Machine/Run.lean ====
section
/-! DEFINITION. Machine/Run.lean: entries into PAUSED, STOPPED and HALTED, the quorum, and the report of
an empty table (R30, R33, R36, R38, R86). -/

namespace Sys2Proof.Machine

def State.setRun (s : State) (r : RunState) : State := s.withTimer { s.timer with run := r }

/-- A change of health raises HEALTH; a level already held changes nothing (R37, R40). -/
def setHealth (h : Health) (s : State) : State :=
  if s.timer.health = h then s else raise .health (s.withTimer { s.timer with health := h })

/-- Entry into PAUSED (R30): PARK, the RUN flag; the sweep is suspended as it stands. -/
def enterPaused (s : State) : State := raise .run (parkAll (s.setRun .paused))

/-- One probe at an entry into STOPPED (R49, R55): its mark is dropped without being settled, an
IN_STEP or SYNCING probe begins again with counts 0, and an IN_STEP one returns to SYNCING. -/
def stopProbe (n : Nat) (s : State) : State :=
  let was := (s.probe n).state
  let dropped := s.mapProbe n fun e => { e with outstanding := none }
  if was = .inStep ∨ was = .syncing then
    changeState n .syncing (dropped.mapProbe n fun e => { e with syncCount := 0, missCount := 0 })
  else dropped

def stopProbes (s : State) : State := allSlots.foldl (fun s n => stopProbe n s) s

/-- Entry into STOPPED from a run (R33): the sweep ends, a pending apply is installed, PARK is sent,
IN_STEP probes return to SYNCING, and RUN is raised (order: log 17). -/
def enterStopped (s : State) : State :=
  raise .run (stopProbes (parkAll (installPending ((endSweep s).setRun .stopped))))

/-- The timer stops in HALTED (R36): the sweep is broken off and PARK is sent. -/
def timerStop (s : State) : State := parkAll (endSweep s)

/-- Entry into HALTED with health SEVERE (R36); its timer's stop is taken by the caller. -/
def enterHalted (s : State) : State := raise .run ((setHealth .severe s).setRun .halted)

/-- The IN_STEP plan probes are fewer than the quorum (R38). -/
def State.quorumLost (s : State) : Bool := s.inStepCount < s.params.quorum.toNat

/-- Whether the quorum is watched at once (R38). -/
def RunState.watchesQuorum : RunState → Bool
  | .running => true
  | .pausing => true
  | _ => false

/-- The Sweep Timer compares the number of IN_STEP plan probes with the quorum (R38). A halt at a sweep
start leaves the timer's stop to the end of that sweep start (R36). -/
def quorumWatch (atSweepStart : Bool) (s : State) : State :=
  if s.timer.run.watchesQuorum && s.quorumLost then
    let halted := enterHalted s
    if !atSweepStart && halted.tableEmpty then timerStop halted else halted
  else s

/-- The Step Engine reports an empty table to the Sweep Timer in a drain state (R86). -/
def reportEmpty (s : State) : State :=
  if s.tableEmpty then
    match s.timer.run with
    | .pausing => enterPaused s
    | .stopping => enterStopped s
    | .halted => timerStop s
    | .stopped => s
    | .syncing => s
    | .running => s
    | .paused => s
  else s

end Sys2Proof.Machine
end

