-- ==== Sys2Proof/Machine/Engine.lean ====
section
/-! DEFINITION. Machine/Engine.lean: starting a test and examining the waiting heads
(R68 to R75, R78, R79). -/

namespace Sys2Proof.Machine

/-- What a test that is about to start is made of: the fields of R67 that do not depend on the start. -/
structure TestPlan where
  source : Source
  form : Form
  testLink : Nat
  marker : Byte
  log : Bool
  window : Nat
  settle : Nat
  stimulus : Stimulus
  participants : List Participant
  deriving DecidableEq, Repr

/-- The test of a step entry under the active plan (R71). -/
def State.stepTest (s : State) (index : Nat) (e : StepEntry) : TestPlan where
  source := .step index
  form := e.form
  testLink := e.testLink.toNat
  marker := e.marker
  log := e.log
  window := e.window.toNat
  settle := e.effectiveSettle
  stimulus := e.stimulus
  participants := e.participants (s.active.link e.testLink.toNat).cls.toNat

/-- The spot test of a request under the active plan (R79, R119). -/
def State.spotTest (s : State) (r : SpotRequest) : TestPlan where
  source := .spot
  form := (s.active.link r.link).spotForm
  testLink := r.link
  marker := r.marker
  log := true
  window := s.params.spotWindow.toNat
  settle := 0
  stimulus := .toggleSlow
  participants := (s.active.link r.link).spotParticipants

/-- The lowest-numbered empty table slot (R68). -/
def State.emptySlot (s : State) : Option (Fin 8) := tableSlots.find? fun k => (s.openAt k).isNone

/-- A link is busy while it is the test link of an open step (R69). -/
def State.linkBusy (s : State) (id : Nat) : Bool :=
  tableSlots.any fun k =>
    match s.openAt k with
    | some o => o.testLink == id
    | none => false

def State.allInStep (s : State) (ps : List Participant) : Bool :=
  ps.all fun p => (s.probe p.slot).state == .inStep

def State.allPowered (s : State) (ps : List Participant) : Bool :=
  ps.all fun p => (s.probe p.slot).powered

def State.allCanTake (s : State) (ps : List Participant) : Bool :=
  ps.all fun p => (s.probe p.slot).canTake

/-- The assignment message of a participant's role (R10), with the times of R12. -/
def assignmentMessage (s : State) (t : Tag) (test : TestPlan) (start : Nat) (p : Participant) :
    Message :=
  let begin := start + Config.assignmentLead
  let cls := s.active.cls (p.cls.getD 0)
  let sampleStart := wireTime (begin + test.settle)
  let sampleEnd := wireTime (begin + test.window)
  match p.role with
  | .talker => .drive t test.stimulus (wireTime begin) (BitVec.ofNat 16 test.window)
  | .expect =>
    match test.form with
    | .driven => .listen t false cls.measure cls.range sampleStart sampleEnd
    | .contended => .listen t false .code cls.range sampleStart sampleEnd
  | .quiet => .listen t true .silence cls.range sampleStart sampleEnd
  | .contender => .contend t (BitVec.ofNat 8 (p.code.getD 0)) (wireTime begin)

/-- One participant's assignment is recorded and its message handed to its port (R57, R71). -/
def assign (t : Tag) (test : TestPlan) (start : Nat) (p : Participant) (s : State) : State :=
  send p.slot (assignmentMessage s t test start p)
    (s.mapProbe p.slot fun e => e.give ⟨t, p.role⟩)

/-- The open step of a test that starts now (R67, R71). -/
def State.openStep (s : State) (test : TestPlan) : OpenStep where
  source := test.source
  form := test.form
  testLink := test.testLink
  marker := test.marker
  log := test.log
  generation := s.plans.generation
  start := s.timer.fixtureTime
  window := test.window
  settle := test.settle
  grace := s.params.reportGrace.toNat
  deadline := s.timer.fixtureTime + Config.assignmentLead + test.window + s.params.reportGrace.toNat
  participants := test.participants
  withdrawn := (s.link test.testLink).withdrawn

/-- The tag a step gets on taking table slot `k`: the slot's turn gains 1, 15 is followed by 0
(R68). -/
def State.nextTag (s : State) (k : Fin 8) : Tag := ⟨k, s.turn k + 1⟩

/-- The step takes table slot `k` and its turn (R68). -/
def takeSlot (k : Fin 8) (o : OpenStep) (s : State) : State :=
  (s.withEngine { s.engine with turns := Tab.put s.engine.turns k.val (s.turn k + 1) }).setOpen k
    (some o)

/-- A start, one event at the Step Engine and the Probe Registry (R71). -/
def startTest (k : Fin 8) (test : TestPlan) (s : State) : State :=
  test.participants.foldl
    (fun r p => assign (s.nextTag k) test s.timer.fixtureTime p r)
    (takeSlot k (s.openStep test) s)

/-! ## Heads -/

/-- What an examination of a merged head finds (R74). -/
inductive HeadResult where
  | waits
  | dropped (reason : NotStarted)
  | starts (slot : Fin 8)
  deriving DecidableEq, Repr

/-- The six conditions of a merged head, in order (R74). -/
def State.mergedHead (s : State) (member : Option (Fin 8)) (test : TestPlan) : HeadResult :=
  if member.isSome then .waits
  else match s.emptySlot with
    | none => .waits
    | some k =>
      if s.linkBusy test.testLink then .waits
      else if !s.allInStep test.participants then .dropped .probeUnavailable
      else if !s.allPowered test.participants then .dropped .fieldPower
      else if !s.allCanTake test.participants then .waits
      else .starts k

def State.setMerged (s : State) (w : MergedWindow) : State :=
  s.withEngine { s.engine with merged := some w }

/-- Examine the merged head, and the next one whenever a head leaves the list (R74); `fuel` bounds the
heads examined. -/
def examineMerged : Nat → State → State
  | 0, s => s
  | fuel + 1, s =>
    match s.engine.merged with
    | none => s
    | some w =>
      match w.pending with
      | [] => s
      | p :: rest =>
        let test := s.stepTest p.index p.entry
        match s.mergedHead w.member test with
        | .waits => s
        | .dropped reason =>
          examineMerged fuel
            (notStarted p.index p.entry reason (s.setMerged { w with pending := rest }))
        | .starts k =>
          examineMerged fuel (startTest k test (s.setMerged ⟨rest, some k⟩))

/-- Set the in-flight tag of the head request (R120). -/
def markInFlight (t : Tag) : List SpotRequest → List SpotRequest
  | [] => []
  | r :: rest => { r with inFlight := some t } :: rest

/-- Examine the free-window head (R78): the head request starts as a spot test, waits, or spends the
window. -/
def examineFree (s : State) : State :=
  match s.engine.free, s.spot with
  | some w, r :: rest =>
    let test := s.spotTest r
    if w.spent || (r :: rest).any (fun q => q.inFlight.isSome) then s
    else match s.emptySlot with
      | none => s
      | some k =>
        if s.linkBusy r.link then s
        else if !(s.allInStep test.participants && s.allPowered test.participants) then
          s.withEngine { s.engine with free := some ⟨true⟩ }
        else if !s.allCanTake test.participants then s
        else startTest k test (s.withSpot (markInFlight (s.nextTag k) s.spot))
  | _, _ => s

/-- One examination of each head that is present, while the run is RUNNING (R75). -/
def examine (s : State) : State :=
  if s.timer.run = .running then examineFree (examineMerged (Config.pendingRoom + 1) s) else s

end Sys2Proof.Machine
end

