-- ==== Sys2Proof/Machine/Judge.lean ====
section
/-! DEFINITION. Machine/Judge.lean: reading a report through its class, the outcome of a closed step,
and the link record after it (R96 to R116). -/

namespace Sys2Proof.Machine

/-! ## Values (R96, R97) -/

/-- The value of a raw reading in a format (R96). -/
def Format.value : Format → Half → Int
  | .signed, r => r.toInt
  | .unsigned, r => r.toNat
  | .offset, r => (r.toNat : Int) - 32768

/-- The ends of a format's domain (R96). -/
def Format.bottom : Format → Int
  | .signed => -32768
  | .unsigned => 0
  | .offset => -32768

def Format.top : Format → Int
  | .signed => 32767
  | .unsigned => 65535
  | .offset => 32767

/-- The nearer end of a domain when a value lies outside it. -/
def clampTo (bottom top v : Int) : Int := if v < bottom then bottom else if top < v then top else v

/-- The corrected value (R97): less the offset, times the numerator, divided by 32,768 toward zero,
clamped to the domain of the format. -/
def Format.correct (f : Format) (c : Coeff) (v : Int) : Int :=
  clampTo f.bottom f.top (Int.tdiv ((v - c.offset) * c.gain) 32768)

/-- A class's limit field read in its domain (R95, 12.3). -/
def ClassDef.limit (c : ClassDef) (h : Half) : Int :=
  match c.measure, c.format with
  | .level, .signed => h.toInt
  | .level, .offset => h.toInt
  | .silence, .signed => h.toInt
  | .silence, .offset => h.toInt
  | _, _ => h.toNat

def ClassDef.lowLimit (c : ClassDef) : Int := c.limit c.low
def ClassDef.highLimit (c : ClassDef) : Int := c.limit c.high

/-- A probe's coefficients for a range (R97). -/
def ProbeEntry.coeff (e : ProbeEntry) : ProbeRange → Coeff
  | .low => e.coeffLow
  | .high => e.coeffHigh

/-- The corrected value of a raw reading of a probe under a class (R97). -/
def ClassDef.corrected (c : ClassDef) (e : ProbeEntry) (raw : Half) : Int :=
  c.format.correct (e.coeff c.range) (c.format.value raw)

/-! ## One report (R98 to R101) -/

/-- The bands of a LEVEL class (R98). -/
def levelOutcome (low high margin v : Int) : TestOutcome :=
  if v < low - margin then .under
  else if v < low then .lowMargin
  else if v ≤ high then .inRange
  else if v ≤ high + margin then .highMargin
  else .over

/-- The outcome of an error count (R99). -/
def errorsOutcome (low high e : Int) : TestOutcome :=
  if e ≤ low then .inRange else if e ≤ high then .highMargin else .over

/-- The outcome of a code under a mask (R99). -/
def codeOutcome (mask raw expected : Half) : TestOutcome :=
  if raw &&& mask = expected &&& mask then .inRange else .mismatch

/-- The outcome of an activity (R100). -/
def quietOutcome (low high a : Int) : TestOutcome :=
  if a ≤ low then .inRange else if a ≤ high then .highMargin else .heard

/-- The groups of the outcomes (R101). -/
def TestOutcome.group : TestOutcome → OutcomeGroup
  | .inRange => .pass
  | .lowMargin => .margin
  | .highMargin => .margin
  | .under => .fail
  | .over => .fail
  | .mismatch => .fail
  | .contention => .fail
  | .openSeen => .openGroup
  | .heard => .heardGroup
  | .voidTalker => .void
  | .voidMissing => .void
  | .voidRedefined => .void

/-- An outcome with the value and the suspect slot it carries. -/
structure Finding where
  outcome : TestOutcome
  value : Option Int
  suspect : Option Nat
  deriving DecidableEq, Repr

/-- A READING of an EXPECT participant judged by a class (R98, R99); none when it cannot be judged
(R102). -/
def judgeReading (c : ClassDef) (e : ProbeEntry) (expected raw errors : Half) (wireOff : Bool) :
    Option Finding :=
  if !c.defined then none
  else match c.measure with
    | .level =>
      if wireOff then some ⟨.openSeen, none, none⟩
      else
        let v := c.corrected e raw
        some ⟨levelOutcome c.lowLimit c.highLimit c.margin.toNat v, some v, none⟩
    | .errors =>
      some ⟨if wireOff then .openSeen else errorsOutcome c.lowLimit c.highLimit errors.toNat,
        some errors.toNat, none⟩
    | .code =>
      some ⟨if wireOff then .openSeen else codeOutcome c.mask raw expected, some raw.toNat, none⟩
    | .silence => none

/-- The finding of a received EXPECT participant of a DRIVEN step; none when it is MISSING or cannot be
judged. -/
def State.expectFinding (s : State) (expected : Half) (p : Participant) : Option Finding :=
  match p.role, p.report, p.cls with
  | .expect, some (.reading raw errors wireOff), some i =>
    judgeReading (s.active.cls i) (s.probe p.slot) expected raw errors wireOff
  | _, _, _ => none

/-- The worst group comes first: open, fail, margin, pass (R101). -/
def worstFirst : List OutcomeGroup := [.openGroup, .fail, .margin, .pass]

/-- The combination of findings (R101): the first one of the worst group present. -/
def combine (fs : List Finding) : Option Finding :=
  worstFirst.findSome? fun g => fs.find? fun f => f.outcome.group == g

/-! ## A closed step (R103 to R108) -/

def void (o : TestOutcome) : Finding := ⟨o, none, none⟩

/-- The talker is MISSING or reports a drive fault (R105). -/
def talkerFailed (ps : List Participant) : Bool :=
  ps.any fun p => p.role == .talker &&
    (match p.report with
      | some (.drive fault) => fault
      | _ => true)

/-- The judgement of a DRIVEN step (R105). -/
def State.judgeDriven (s : State) (o : OpenStep) : Finding :=
  if talkerFailed o.participants then void .voidTalker
  else
    (combine (o.participants.filterMap (s.expectFinding (s.active.link o.testLink).expected))).getD
      (void .voidMissing)

/-- The lowest code of the contenders (R107). -/
def winnerCode (ps : List Participant) : Nat :=
  ((ps.filter (·.role == .contender)).filterMap (·.code)).foldl min 63

/-- The first position, from 5 down to 0, at which two codes differ (R107). -/
def lossPosition (a b : Nat) : Nat :=
  ([5, 4, 3, 2, 1, 0].find? fun i => a.testBit i != b.testBit i).getD 0

/-- A received report disagrees with the arbitration expected (R107, R108). -/
def disagrees (winner : Nat) (p : Participant) : Bool :=
  match p.report with
  | some (.contest lost position _) =>
    let code := p.code.getD 0
    if code = winner then lost else !lost || position != lossPosition code winner
  | some (.reading raw _ _) => raw.toNat != winner
  | _ => false

/-- A received report carries the wire-off flag (R108). -/
def wireOffSeen (p : Participant) : Bool :=
  match p.report with
  | some (.contest _ _ wireOff) => wireOff
  | some (.reading _ _ wireOff) => wireOff
  | _ => false

/-- The judgement of a CONTENDED step (R108). -/
def judgeContended (o : OpenStep) : Finding :=
  let ps := o.participants
  if ps.any fun p => p.role == .contender && p.report.isNone then void .voidMissing
  else match ps.find? wireOffSeen with
    | some p => ⟨.openSeen, none, some p.slot⟩
    | none =>
      match ps.find? (disagrees (winnerCode ps)) with
      | some p => ⟨.contention, none, some p.slot⟩
      | none => ⟨.inRange, none, none⟩

/-- The link has been redefined or removed since the step started (R103, R104, R106). -/
def State.redefined (s : State) (id generation : Nat) : Bool :=
  !s.linkDefined id || generation < (s.link id).definedIn

/-- The closure outcome (R103 items 1 and 2). -/
def State.closureFinding (s : State) (o : OpenStep) : Finding :=
  if s.redefined o.testLink o.generation then void .voidRedefined
  else match o.form with
    | .driven => s.judgeDriven o
    | .contended => judgeContended o

/-! ## The link record (R110 to R113) -/

/-- FAILED, OPEN and BRIDGED are latched (R113). -/
def Verdict.latched : Verdict → Bool
  | .failed => true
  | .opened => true
  | .bridged => true
  | _ => false

/-- The standing count after a closure of a group (R112). -/
def standingAfter (g : OutcomeGroup) (n : Nat) : Nat :=
  match g with
  | .openGroup => satInc 7 n
  | .fail => satInc 7 n
  | .pass => floorDec n
  | _ => n

/-- The clean streak after a closure of a group (R112). -/
def streakAfter (g : OutcomeGroup) (n : Nat) : Nat :=
  match g with
  | .pass => satInc 255 n
  | _ => 0

/-- The verdict after a closure of a group, with the standing count and streak already moved (R112). -/
def verdictAfter (g : OutcomeGroup) (v : Verdict) (standing streak threshold quota : Nat) : Verdict :=
  if v.latched then v
  else match g with
    | .openGroup => .opened
    | .fail =>
      if threshold ≤ standing then .failed
      else match v with
        | .untested => .testing
        | .passed => .testing
        | _ => v
    | .margin => .marginal
    | .pass =>
      if quota ≤ streak then .passed
      else match v with
        | .untested => .testing
        | _ => v
    | _ => v

/-- The first failure is filled once, by the first outcome that is not IN (R111). -/
def LinkRecord.fillFailure (r : LinkRecord) (f : FirstFailure) : LinkRecord :=
  if r.firstFailure.isNone then { r with firstFailure := some f } else r

/-- The link record after a closure (R110 to R112). `cls` is the class its definition names. -/
def LinkRecord.judged (r : LinkRecord) (cls : ClassDef) (f : Finding) (source : Source)
    (sweep : Word) (time : Nat) : LinkRecord :=
  let g := f.outcome.group
  if g = .void then
    { r with void := satInc linkTop r.void, lastObservation := some ⟨sweep, f.outcome, none⟩ }
  else
    let standing := standingAfter g r.standing
    let streak := streakAfter g r.streak
    let moved := { r with
      attempts := satInc linkTop r.attempts
      inRange := if g = .pass then satInc linkTop r.inRange else r.inRange
      margin := if g = .margin then satInc linkTop r.margin else r.margin
      fail := if g = .fail ∨ g = .openGroup then satInc linkTop r.fail else r.fail
      standing := standing
      streak := streak
      verdict := verdictAfter g r.verdict standing streak cls.failThreshold.toNat cls.passQuota.toNat
      lastObservation := some ⟨sweep, f.outcome, f.value⟩ }
    if f.outcome = .inRange then moved
    else moved.fillFailure ⟨sweep, time, source, f.outcome, f.value, f.suspect⟩

/-- The test link's record is updated, unless it was withdrawn while open or redefined (R103 item 3,
R104, R109). -/
def judgeLink (o : OpenStep) (f : Finding) (s : State) : State :=
  if f.outcome = .voidRedefined ∨ o.withdrawn then s
  else
    let cls := s.active.cls (s.active.link o.testLink).cls.toNat
    s.setLink o.testLink
      ((s.link o.testLink).judged cls f o.source s.timer.sweepNumber s.timer.sweepTime)

/-! ## Quiet checks (R106) -/

/-- The outcome and corrected activity of a quiet report; none when it cannot be judged (R100, R102). -/
def judgeQuiet (c : ClassDef) (e : ProbeEntry) (raw : Half) (wireOff : Bool) :
    Option (TestOutcome × Int) :=
  if !c.defined || wireOff then none
  else match c.measure with
    | .silence =>
      let a := c.corrected e raw
      some (quietOutcome c.lowLimit c.highLimit a, a)
    | _ => none

/-- The link record of a quiet link after a check (R106). -/
def LinkRecord.checked (r : LinkRecord) (outcome : TestOutcome) (a : Int) (testLink : Nat)
    (source : Source) (sweep : Word) (time : Nat) : LinkRecord :=
  let counted := { r with quietChecks := satInc linkTop r.quietChecks }
  if outcome = .heard then
    let filled := { counted with heard := satInc linkTop r.heard }.fillFailure
      ⟨sweep, time, source, .heard, some a, none⟩
    if r.verdict.latched then filled
    else { filled with verdict := .bridged, partner := some testLink }
  else counted

/-- The VERDICT record of a change made by a closure (R115). -/
def closureVerdict (s : State) (o : OpenStep) (id : Nat) (old new : Verdict) (outcome : TestOutcome)
    (value : Option Int) : ResultRecord :=
  { s.newRecord .verdict with
    link := some id
    step := match o.source with
      | .step i => some i
      | .spot => none
    marker := some o.marker
    outcome := some outcome
    value := value
    oldVerdict := some old
    newVerdict := some new }

/-- One quiet participant's check: the state after it and the VERDICT record it produces, if any. -/
def quietCheck (o : OpenStep) (p : Participant) (acc : State × List ResultRecord) :
    State × List ResultRecord :=
  let s := acc.1
  match p.role, p.report, p.cls, p.quietLink with
  | .quiet, some (.reading raw _ wireOff), some i, some id =>
    if s.redefined id o.generation || (s.link id).withdrawn then acc
    else match judgeQuiet (s.active.cls i) (s.probe p.slot) raw wireOff with
      | none => acc
      | some (outcome, a) =>
        let old := s.link id
        let new := old.checked outcome a o.testLink o.source s.timer.sweepNumber s.timer.sweepTime
        let after := s.setLink id new
        if old.verdict = new.verdict then (after, acc.2)
        else
          (after, acc.2 ++ [closureVerdict s o id old.verdict new.verdict .heard (some a)])
  | _, _, _, _ => acc

/-- The quiet checks of a DRIVEN step, in participant order; none is taken when the outcome is
VOID_TALKER (R106). -/
def quietChecks (o : OpenStep) (f : Finding) (s : State) : State × List ResultRecord :=
  match o.form with
  | .contended => (s, [])
  | .driven =>
    if f.outcome = .voidTalker then (s, [])
    else o.participants.foldl (fun acc p => quietCheck o p acc) (s, [])

/-! ## Records (R114, R115) -/

/-- An OBSERVATION record is produced (R114). -/
def observes (o : OpenStep) (f : Finding) : Bool :=
  o.log || (o.withdrawn && f.outcome != .voidRedefined)

/-- The OBSERVATION record of a closure (R114). -/
def observation (s : State) (o : OpenStep) (f : Finding) : ResultRecord :=
  { s.newRecord .observation with
    link := some o.testLink
    step := match o.source with
      | .step i => some i
      | .spot => none
    marker := some o.marker
    outcome := some f.outcome
    value := f.value
    slot := f.suspect
    despiteWithdrawal := o.withdrawn }

/-- The records of a closure in the order of R115. `before` is the state the closure was taken in. -/
def closureRecords (before after : State) (o : OpenStep) (f : Finding) (quiet : List ResultRecord) :
    List ResultRecord :=
  let old := (before.link o.testLink).verdict
  let new := (after.link o.testLink).verdict
  (if observes o f then [observation before o f] else [])
    ++ (if old = new then [] else [closureVerdict before o o.testLink old new f.outcome f.value])
    ++ quiet

/-- The Verdict Unit judges a closed step (R103), and hands a spot test's outcome to the Spot Queue
(R116). `k` is the table slot the step held. -/
def judgeClosed (t : Tag) (o : OpenStep) (s : State) : State :=
  let f := s.closureFinding o
  let judged := judgeLink o f s
  let checked := quietChecks o f judged
  let recorded := handAll (closureRecords s judged o f checked.2) checked.1
  match o.source with
  | .step _ => recorded
  | .spot => spotClosure t f.outcome.group (!o.withdrawn) recorded

end Sys2Proof.Machine
end

