-- ==== Sys2Proof/Machine/Closure.lean ====
section
/-! DEFINITION. Machine/Closure.lean: missed answers, the closure of an open step, and the acceptance of
a report (R51, R52, R54, R60 to R62, R81 to R83, R87). -/

namespace Sys2Proof.Machine

/-! ## Missed answers and exits -/

/-- A probe that has left IN_STEP has its assignments cleared, and the Sweep Timer compares the quorum
(R54). The examination of the heads is the caller's, at the end of its event (log 18). -/
def leaveInStep (atSweepStart : Bool) (n : Nat) (s : State) : State :=
  quorumWatch atSweepStart
    (s.mapProbe n fun e => e.clearAssignments (s.params.policy n))

/-- A SYNCING or IN_STEP probe whose miss count has reached the miss limit enters LOST (R51, R52). -/
def loseProbe (atSweepStart : Bool) (n : Nat) (s : State) : State :=
  let was := (s.probe n).state
  let lost := changeState n .lost s
  if was = .inStep then leaveInStep atSweepStart n lost else lost

/-- The miss count gains 1, and the probe enters LOST when the count reaches the miss limit (R51). -/
def addMiss (atSweepStart : Bool) (n : Nat) (s : State) : State :=
  let counted := s.mapProbe n fun e => { e with missCount := satInc 8 e.missCount }
  let e := counted.probe n
  if (e.state = .syncing ∨ e.state = .inStep)
      ∧ counted.params.missLimit.toNat ≤ e.missCount then
    loseProbe atSweepStart n counted
  else counted

/-! ## Closure (R83) -/

/-- Every entry still AWAITED becomes MISSING. -/
def Participant.settle (p : Participant) : Participant :=
  if p.state = .awaited then { p with state := .missing } else p

def OpenStep.settled (o : OpenStep) : OpenStep :=
  { o with participants := o.participants.map Participant.settle }

/-- A MISSING participant whose probe is IN_STEP has its miss counted (R51, R83). -/
def countMissing (p : Participant) (s : State) : State :=
  if p.state = .missing ∧ (s.probe p.slot).state = .inStep then addMiss false p.slot s else s

/-- The table slot becomes empty, keeping its turn, and is no longer the member of the merged window in
progress (R83 items 6 and 7). -/
def freeSlot (k : Fin 8) (s : State) : State :=
  let emptied := s.setOpen k none
  match emptied.engine.merged with
  | some w => if w.member = some k then emptied.setMerged { w with member := none } else emptied
  | none => emptied

/-- A closure, early or at the deadline, of the open step `o` in table slot `k`: the nine effects of
R83, in order. The MISSING participants are counted in participant order (log 45). -/
def closeStep (k : Fin 8) (o : OpenStep) (s : State) : State :=
  let tag : Tag := ⟨k, s.turn k⟩
  let closed := o.settled
  let missed := closed.participants.foldl (fun s p => countMissing p s) s
  let ended := closed.participants.foldl (fun s p => endAssignment tag p.slot s) missed
  reportEmpty (examine (freeSlot k (judgeClosed tag closed ended)))

/-! ## Reports (R60, R61, R81) -/

/-- The kind of report a role answers with (R60). -/
def Role.reports : Role → Report → Bool
  | .talker, .drive _ => true
  | .expect, .reading _ _ _ => true
  | .quiet, .reading _ _ _ => true
  | .contender, .contest _ _ _ => true
  | _, _ => false

/-- The report of a slot fits a participant entry that awaits it (R60 items 3 and 4). -/
def Participant.awaits (p : Participant) (n : Nat) (r : Report) : Bool :=
  p.slot == n && p.state == .awaited && p.role.reports r

/-- The open step that accepts a report, if any (R60). -/
def State.acceptor (s : State) (n : Nat) (t : Tag) (r : Report) : Option OpenStep :=
  let e := s.probe n
  if e.state == .inStep && s.turn t.slot == t.turn && (carries e.current t || carries e.queued t) then
    match s.openAt t.slot with
    | some o => if o.participants.any (fun p => p.awaits n r) then some o else none
    | none => none
  else none

/-- The participant entry becomes RECEIVED with the report's contents (R61). -/
def OpenStep.receive (o : OpenStep) (n : Nat) (r : Report) : OpenStep :=
  { o with participants := o.participants.map fun p =>
      if p.awaits n r then { p with state := .received, report := some r } else p }

/-- No entry is AWAITED. -/
def OpenStep.complete (o : OpenStep) : Bool := o.participants.all fun p => p.state != .awaited

/-- An accepted report (R61): its contents are stored, the sender's miss count becomes 0, its
assignment ends, and the step closes at once if no entry remains AWAITED (R81). -/
def acceptReport (n : Nat) (t : Tag) (r : Report) (o : OpenStep) (s : State) : State :=
  let received := o.receive n r
  let stored := s.setOpen t.slot (some received)
  let ended := endAssignment t n (stored.mapProbe n fun e => { e with missCount := 0 })
  if received.complete then closeStep t.slot received ended else examine ended

/-- A report taken by the registry: accepted, or stray (R60, R62). -/
def takeReport (n : Nat) (t : Tag) (r : Report) (s : State) : State :=
  match s.acceptor n t r with
  | some o => acceptReport n t r o s
  | none => stray n s

/-! ## Discarding open steps (R87, R88) -/

/-- Every open step is removed without closure; the turns are kept (R87). -/
def emptyTable (s : State) : State :=
  s.withEngine { s.engine with table := Vector.replicate 8 none }

/-- Every assignment of every probe is cleared, and no queued one becomes current (R58, R87). -/
def clearAllAssignments (s : State) : State :=
  allSlots.foldl (fun s n => s.mapProbe n fun e => e.clearAssignments (s.params.policy n)) s

end Sys2Proof.Machine
end

