-- ==== Sys2Proof/Machine/Sweep.lean ====
section
/-! DEFINITION. Machine/Sweep.lean: the tick, the sweep start, the marks of the Step List, deadlines and
the fixture-time limit (R13 to R27, R35, R37, R49 to R51, R70, R73, R82). -/

namespace Sys2Proof.Machine

/-! ## When time runs (R21) -/

/-- The run state lets fixture time run (R21). -/
def State.timerRuns (s : State) : Bool :=
  match s.timer.run with
  | .syncing => true
  | .running => true
  | .pausing => true
  | .stopping => true
  | .halted => !s.tableEmpty
  | .stopped => false
  | .paused => false

def State.sweepLength (s : State) : Nat := s.params.sweepLength.toNat

/-- Sweep time gains 1, or its sweep start becomes due when it would reach the sweep length (R22,
log 4). -/
def SweepTimer.tickSweep (t : SweepTimer) (length : Nat) : SweepTimer :=
  if !t.sweepActive || t.sweepEndDue then t
  else if t.sweepTime + 1 < length then { t with sweepTime := t.sweepTime + 1 }
  else { t with sweepEndDue := true }

/-- One tick of fixture time, which stops at its greatest value (R21). -/
def SweepTimer.tick (t : SweepTimer) (length : Nat) : SweepTimer :=
  if t.fixtureTime < maxWord then
    { t with fixtureTime := t.fixtureTime + 1 }.tickSweep length
  else t

/-- One tick of the clock: the part's own clock gains 1, and fixture time where it runs. Nothing moves
while RESET# is low (R185). -/
def tick (s : State) : State :=
  if s.port.resetLow then s
  else
    let clocked := { s with clock := s.clock + 1 }
    if s.timerRuns then clocked.withTimer (s.timer.tick s.sweepLength) else clocked

/-! ## Sweep starts (R25) -/

/-- The missed marks of the old sweep are counted when the run is SYNCING or RUNNING as the sweep start
is taken (R51). -/
def RunState.countsMisses : RunState → Bool
  | .syncing => true
  | .running => true
  | _ => false

/-- The outstanding mark of one probe is settled as unanswered: a SYNCING probe's sync count becomes 0
(R50), and the miss may count (R51). -/
def settleMark (counts : Bool) (n : Nat) (s : State) : State :=
  let e := s.probe n
  if e.outstanding.isNone then s
  else
    let dropped := s.mapProbe n fun e =>
      { e with
        outstanding := none
        syncCount := if e.state = .syncing then 0 else e.syncCount }
    if counts && (e.state == .syncing || e.state == .inStep) then addMiss true n dropped else dropped

/-- The outstanding marks are settled in slot order, and the PROBE records of the probes that this makes LOST
come in it (log 45). -/
def settleMarks (counts : Bool) (s : State) : State :=
  allSlots.foldl (fun s n => settleMark counts n s) s

/-- A probe in this state is sent MARK (R25, R49). -/
def ProbeState.marked : ProbeState → Bool
  | .syncing => true
  | .inStep => true
  | .lost => true
  | _ => false

/-- MARK is handed to one probe's port and its outstanding mark becomes the new sweep number (R49). -/
def sendMark (n : Nat) (s : State) : State :=
  if (s.probe n).state.marked then
    (send n (.mark s.timer.sweepNumber (wireTime s.timer.fixtureTime)
        (BitVec.ofNat 8 s.timer.pattern)) s).mapProbe n
      fun e => { e with outstanding := some s.timer.sweepNumber }
  else s

def sendMarks (s : State) : State := allSlots.foldl (fun s n => sendMark n s) s

/-- The pattern counter gains 1, and is 0 at the period (R24). -/
def stepPattern (pattern period : Nat) : Nat := if pattern + 1 < period then pattern + 1 else 0

/-- The pattern count of a new sweep (R24): 0 from SYNCING, else one more. -/
def nextPattern (before : RunState) (pattern period : Nat) : Nat :=
  if before = .syncing then 0 else stepPattern pattern period

/-- The counters of a new sweep (R22 to R25); `before` is the run state in which the sweep start is
taken. -/
def advance (before : RunState) (s : State) : State :=
  s.withTimer { s.timer with
    sweepNumber := s.timer.sweepNumber + 1
    sweepTime := 0
    sweepActive := true
    sweepEndDue := false
    nextStep := 0
    pattern := nextPattern before s.timer.pattern s.params.patternPeriod.toNat }

/-- Entry into RUNNING raises RUN (R27, R31, R40). -/
def enterRunning (s : State) : State := raise .run (s.setRun .running)

/-- The sync judgement halts the run (R27, R36): the pattern counter advances at the sweep start that
enters HALTED (R25; it stood at 0 through SYNCING). -/
def haltSyncing (s : State) : State :=
  enterHalted (s.withTimer { s.timer with
    pattern := stepPattern s.timer.pattern s.params.patternPeriod.toNat })

/-- The sync judgement of a sweep start taken in SYNCING (R27). -/
def syncJudgement (s : State) : State :=
  let plan := s.active.planSlots
  if s.inStepCount = plan.length then enterRunning s
  else if s.timer.sweepNumber.toNat < s.params.syncSweeps.toNat then s
  else if s.params.quorum.toNat ≤ s.inStepCount then enterRunning s
  else haltSyncing s

/-- A plan slot's probe is not IN_STEP, or is IN_STEP with a field power flag off (R37). -/
def State.planProbeMissing (s : State) : Bool :=
  s.active.planSlots.any fun n => (s.probe n).state != .inStep || !(s.probe n).powered

/-- Health recomputed from the sweep just ended (R37). -/
def recomputeHealth (s : State) : State :=
  setHealth
    (if s.planProbeMissing then .degraded else if s.timer.notStarted then .warn else .clear) s

/-- The judgements of a sweep start, by the run state in which it is taken (R25, R27, R37). When the
quorum comparison has halted the run, health is not recomputed. -/
def sweepJudgement (before : RunState) (s : State) : State :=
  match before with
  | .syncing => syncJudgement s
  | .running => if s.timer.run = .running then recomputeHealth s else s
  | _ => s

/-- Each sweep start clears the not-started indicator (R37). -/
def clearIndicator (s : State) : State := s.withTimer { s.timer with notStarted := false }

/-- The quorum comparison that follows an installation at a sweep start (R38, R165 item 7). -/
def installAtSweepStart (s : State) : State :=
  if s.plans.applyPending then quorumWatch true (installPending s) else s

/-- The timer of a run halted at this sweep start stops after its MARKs when the table is empty
(R25, R36). -/
def stopIfHalted (s : State) : State :=
  if s.timer.run = .halted && s.tableEmpty then timerStop s else s

/-- A sweep start taken because sweep time would reach the sweep length (R25): the old sweep's windows
close, a pending apply is installed, the counters advance, the judgements are made, the marks of the
old sweep are settled, and the MARKs of the new one are sent. -/
def sweepStart (s : State) : State :=
  let before := s.timer.run
  let judged := clearIndicator (sweepJudgement before (advance before
    (installAtSweepStart (endSweep s))))
  stopIfHalted (sendMarks (settleMarks before.countsMisses judged))

/-- A sweep start is due: the sweep length has been reached while time runs, before the limit (R22,
R35). -/
def State.sweepStartDue (s : State) : Bool :=
  !s.port.resetLow && s.timer.sweepActive && s.timer.sweepEndDue && s.timerRuns
    && s.timer.fixtureTime < maxWord

/-- The sweep start of RUN START, at fixture time 0 with every counter 0 (R26). -/
def firstSweep (s : State) : State :=
  sendMarks (s.withTimer { SweepTimer.reset with
    run := .syncing, health := s.timer.health, sweepActive := true })

/-- The sweep start of RUN RESUME (R31): the suspended sweep is broken off and a whole sweep begins in
RUNNING at the held fixture time. -/
def resumeSweep (s : State) : State :=
  sendMarks (settleMarks false (clearIndicator (enterRunning (advance .paused
    (installPending (endSweep s))))))

/-! ## Marks (R2, R13 to R19) -/

/-- The mark of step `i` is reached now (R2). -/
def State.markReached (s : State) (i : Nat) : Bool :=
  !s.port.resetLow && s.timer.sweepActive && !s.timer.sweepEndDue && s.timerRuns
    && s.timer.nextStep == i && i < s.active.count
    && (s.active.step i).timeMark.toNat == s.timer.sweepTime

/-- The mark of a step of a given kind is reached now. -/
def State.kindReached (s : State) (i : Nat) (k : TimingKind) : Bool :=
  s.markReached i && (s.active.step i).kind == k

/-- The mark of step `i` has been reached in this sweep. -/
def passMark (i : Nat) (s : State) : State := s.withTimer { s.timer with nextStep := i + 1 }

/-- The run mask allows an entry in the present sweep (R13). -/
def State.maskAllows (s : State) (e : StepEntry) : Bool := e.runMask.getLsbD s.timer.pattern

/-- A ONCE step is retired while its test link's verdict is PASSED (R14). -/
def State.retired (s : State) (e : StepEntry) : Bool :=
  e.rule == .once && (s.link e.testLink.toNat).verdict == .passed

/-- A step whose mark is reached in RUNNING is due (R15). -/
def State.due (s : State) (e : StepEntry) : Bool :=
  s.timer.run == .running && s.maskAllows e && !s.retired e
    && !(s.link e.testLink.toNat).withdrawn

/-- A MARK or FREE entry acts in the present sweep (R13, R16, R19). -/
def State.acts (s : State) (e : StepEntry) : Bool := s.timer.run == .running && s.maskAllows e

/-- What the examination of a timed step gives: a table slot, or the reason it is not started (R70). -/
def State.timedCheck (s : State) (test : TestPlan) : Except NotStarted (Fin 8) :=
  match s.emptySlot with
  | none => .error .openFull
  | some k =>
    if s.linkBusy test.testLink then .error .linkBusy
    else if !s.allInStep test.participants then .error .probeUnavailable
    else if !s.allPowered test.participants then .error .fieldPower
    else if !s.allCanTake test.participants then .error .probeBusy
    else .ok k

/-- A due TIMED step starts at its mark, or is not started (R70). -/
def timedStep (i : Nat) (e : StepEntry) (s : State) : State :=
  let test := s.stepTest i e
  match s.timedCheck test with
  | .ok k => startTest k test s
  | .error reason => notStarted i e reason s

/-- The mark of TIMED step `i` (R70): the windows close first (R76, R80). -/
def timedMark (i : Nat) (s : State) : State :=
  let e := s.active.step i
  let passed := passMark i (closeWindows s)
  if passed.due e then timedStep i e passed else passed

/-- The merged window in progress, created empty at its first entry's mark (R73); the free window
closes (R19, R80). -/
def openMerged (s : State) : State :=
  s.withEngine { s.engine with
    free := none
    merged := match s.engine.merged with
      | some w => some w
      | none => some ⟨[], none⟩ }

/-- A due MERGED step joins the tail of the pending list and is offered for examination, or is CROWDED
(R73, R75). -/
def mergedStep (i : Nat) (e : StepEntry) (s : State) : State :=
  match s.engine.merged with
  | none => s
  | some w =>
    if w.pending.length < Config.pendingRoom then
      examineMerged (Config.pendingRoom + 1)
        (s.setMerged { w with pending := w.pending ++ [⟨i, e⟩] })
    else notStarted i e .crowded s

/-- The mark of MERGED step `i` (R73). -/
def mergedMark (i : Nat) (s : State) : State :=
  let e := s.active.step i
  let passed := passMark i (openMerged s)
  if passed.due e then mergedStep i e passed else passed

/-- A MARK entry acts: the MARK flag, and a MARK record when it is logged (R16). -/
def markAction (e : StepEntry) (s : State) : State :=
  let raised := raise .mark s
  if e.log then hand { raised.newRecord .mark with marker := some e.marker } raised else raised

/-- The mark of MARK entry `i` (R16). -/
def markEntry (i : Nat) (s : State) : State :=
  let e := s.active.step i
  let passed := passMark i (closeWindows s)
  if passed.acts e then markAction e passed else passed

/-- The mark of FREE entry `i` (R19): a free window opens and its head is examined (R75). -/
def freeEntry (i : Nat) (s : State) : State :=
  let e := s.active.step i
  let passed := passMark i (closeWindows s)
  if passed.acts e then
    examineFree (passed.withEngine { passed.engine with free := some ⟨false⟩ })
  else passed

/-! ## Deadlines and the limit (R35, R82) -/

/-- The deadline of an open step has come: fixture time has reached it (R82). One beyond the limit is
taken at the limit, within FIXTURE_TIME_LIMIT alone (log 26). -/
def State.deadlineReached (s : State) (o : OpenStep) : Bool := o.deadline ≤ s.timer.fixtureTime

/-- The deadline of some open step has come. -/
def State.deadlineWaits (s : State) : Bool :=
  tableSlots.any fun k =>
    match s.openAt k with
    | some o => s.deadlineReached o
    | none => false

/-- The deadline of the step with a tag (R82): the step closes if it is still open; an early closure or a
discard has left the slot empty or to another turn, and the deadline then has no effect (R81). -/
def deadlineEvent (k : Fin 8) (turn : BitVec 4) (s : State) : State :=
  match s.openAt k with
  | some o =>
    if !s.port.resetLow && s.turn k == turn && s.deadlineReached o then closeStep k o s else s
  | none => s

/-- An event that the present fixture time has brought waits to be taken: a sweep start, a mark or a
deadline. -/
def State.timeEventWaits (s : State) : Bool :=
  s.sweepStartDue || s.markReached s.timer.nextStep || s.deadlineWaits

/-- The next tick takes fixture time to its limit, and every event of the present fixture time has been
taken (R35, log 26). The limit does not arise in SYNCING (R35). -/
def State.limitReached (s : State) : Bool :=
  !s.port.resetLow && s.timerRuns && s.timer.run != .syncing && !s.timer.limitTaken
    && maxWord ≤ s.timer.fixtureTime + 1 && !s.timeEventWaits

/-- Close the open steps one after another, in an order that is a free value (R35, R82, log 26);
`fuel` bounds their number. -/
def closeAll : Nat → State → State
  | 0, s => s
  | fuel + 1, s =>
    match s.openSlots with
    | [] => s
    | k :: ks =>
      let chosen := freePick (Config.eventChoice s.freeCount) k ks
      match s.openAt chosen with
      | some o => closeAll fuel (closeStep chosen o s.bump)
      | none => s

/-- RUNNING or PAUSING becomes STOPPING at the limit, and STOPPED at once when the table is empty
(R35). -/
def limitRun (s : State) : State :=
  match s.timer.run with
  | .running => reportEmpty (s.setRun .stopping)
  | .pausing => reportEmpty (s.setRun .stopping)
  | _ => s

/-- Fixture time reaches its limit (R35), at the tick that this event is: RUN is raised, the sweep ends,
the run moves towards STOPPED, and every open step has its deadline taken. -/
def limitEvent (s : State) : State :=
  let ended := endSweep (raise .run (tick s))
  closeAll 8 (limitRun (ended.withTimer { ended.timer with limitTaken := true }))

end Sys2Proof.Machine
end

