-- ==== Sys2Proof/Machine/Calibration.lean ====
section
/-! DEFINITION. Machine/Calibration.lean: the calibration session, captures, candidates and the
coefficients (07). -/

namespace Sys2Proof.Machine

/-- The slots of a slot set, ascending; bits 18 to 23 are ignored (12). -/
def slotsOf (set : BitVec 24) : List Nat := allSlots.filter fun n => set.getLsbD (n - 1)

/-- The capture deadline is 50 ms after the capture began (R130). -/
def captureTicks : Nat := 50 * Config.ticksPerMs

/-- The affected ranges of a candidate (R130). -/
def Selection.affected (x : Selection) : RangeChoice :=
  if x.quick then .both else match x.range with
    | .low => .low
    | .high => .high

def RangeChoice.covers : RangeChoice → ProbeRange → Bool
  | .low, .low => true
  | .high, .high => true
  | .both, _ => true
  | _, _ => false

/-- A capture entry of a new selection or a new capture: not outstanding, no result. -/
def CaptureEntry.fresh (n : Nat) : CaptureEntry := ⟨n, false, none⟩

/-- Change the capture entry of one slot. -/
def mapCapture (n : Nat) (f : CaptureEntry → CaptureEntry) (cs : List CaptureEntry) :
    List CaptureEntry :=
  cs.map fun c => if c.slot = n then f c else c

/-- The capture entry of a slot. -/
def Session.capture (x : Session) (n : Nat) : Option CaptureEntry :=
  x.captures.find? fun c => c.slot == n

/-- Whether the slot's capture entry has CALMEAS outstanding while the session is CAPTURING (R133). -/
def Session.awaits (x : Session) (n : Nat) : Bool :=
  x.state == .capturing && x.captures.any fun c => c.slot == n && c.outstanding

/-- A capture entry that is no longer outstanding, with a result. -/
def CaptureEntry.finish (r : CaptureResult) (c : CaptureEntry) : CaptureEntry :=
  { c with outstanding := false, result := some r }

/-- The capture ends when no CALMEAS is outstanding: the session is HELD and CAL is raised (R134). -/
def endCapture (s : State) : State :=
  let x := s.registry.session
  if x.captures.any fun c => c.outstanding then s
  else raise .cal (s.withSession { x with state := .held, deadline := none })

/-- The entry of a slot whose CALMEAS is outstanding gets its result, and the capture may end (R134). -/
def finishCapture (n : Nat) (r : CaptureResult) (s : State) : State :=
  let x := s.registry.session
  endCapture (s.withSession { x with captures := mapCapture n (CaptureEntry.finish r) x.captures })

/-- A selected probe leaves SYNCING during a capture (R134). -/
def leaveSyncing (n : Nat) (s : State) : State :=
  if s.registry.session.awaits n then finishCapture n (.failed .leftSyncing) s else s

/-- The nearest whole number to a quotient of positive numbers, a half rounded up (R133). -/
def roundDiv (a b : Nat) : Nat := (2 * a + b) / (2 * b)

/-- The candidate a calibration reading gives, or OUT_OF_BOUNDS (R133). `f` is the offset in use. -/
def candidate (kind : CalKind) (r f : Int) : CaptureResult :=
  match kind with
  | .offset => if -4096 ≤ r ∧ r ≤ 4096 then .candidate r else .failed .outOfBounds
  | .gain =>
    let d := r - f
    let g := roundDiv (32768 * 24000) d.toNat
    if 0 < d ∧ 16384 ≤ g ∧ g ≤ 49152 then .candidate g else .failed .outOfBounds

/-- A CALREAD is taken (R133); one that the session does not await is stray. -/
def takeCalRead (n : Nat) (raw : Half) (s : State) : State :=
  let e := s.probe n
  match s.registry.session.selection with
  | some x =>
    if e.state = .syncing ∧ s.registry.session.awaits n then
      finishCapture n (candidate x.kind raw.toInt (e.coeff x.range).offset) s
    else stray n s
  | none => stray n s

/-- One selected slot at the start of a capture (R132): CALMEAS to a SYNCING probe, NOT_SYNCING for
another. -/
def captureSlot (x : Selection) (n : Nat) (s : State) : State :=
  let session := s.registry.session
  if (s.probe n).state = .syncing then
    send n (.calMeas (x.kind == .gain) x.range)
      (s.withSession { session with
        captures := mapCapture n (fun c => { c with outstanding := true }) session.captures })
  else
    s.withSession { session with
      captures := mapCapture n (CaptureEntry.finish (.failed .notSyncing)) session.captures }

/-- A capture of a selection begins: CAPTURING with its deadline 50 ms on, entries reset, CALMEAS sent
(R132). -/
def beginCapture (x : Selection) (s : State) : State :=
  x.slots.foldl (fun s n => captureSlot x n s)
    (s.withSession { s.registry.session with
      state := .capturing
      captures := x.slots.map CaptureEntry.fresh
      deadline := some (s.clock + captureTicks) })

/-- The capture deadline (R134): every entry still outstanding is NO_ANSWER, and the capture ends. -/
def captureDeadlineEvent (s : State) : State :=
  let x := s.registry.session
  endCapture (s.withSession { x with
    captures := x.captures.map fun c =>
      if c.outstanding then c.finish (.failed .noAnswer) else c })

/-- The capture deadline has come (R130, R134). -/
def State.captureDue (s : State) : Bool :=
  !s.port.resetLow && s.registry.session.state == .capturing
    && (match s.registry.session.deadline with
      | some d => d ≤ s.clock
      | none => false)

/-! ## Coefficients -/

/-- Put a candidate into one coefficient (R136). -/
def Coeff.put (c : Coeff) (kind : CalKind) (v : Int) : Coeff :=
  match kind with
  | .offset => { c with offset := v }
  | .gain => { c with gain := v.toNat }

/-- Change the coefficients of the chosen ranges. -/
def ProbeEntry.mapCoeff (e : ProbeEntry) (r : RangeChoice) (f : Coeff → Coeff) : ProbeEntry :=
  { e with
    coeffLow := if r.covers .low then f e.coeffLow else e.coeffLow
    coeffHigh := if r.covers .high then f e.coeffHigh else e.coeffHigh }

/-- A capture entry that holds a candidate puts it into use at its probe (R136). -/
def putCandidate (x : Selection) (c : CaptureEntry) (s : State) : State :=
  match c.result with
  | some (.candidate v) => s.mapProbe c.slot fun e => e.mapCoeff x.affected fun k => k.put x.kind v
  | _ => s

/-- The slots whose entries hold candidates. -/
def candidateSlots (cs : List CaptureEntry) : List Nat :=
  cs.filterMap fun c =>
    match c.result with
    | some (.candidate _) => some c.slot
    | _ => none

/-! ## The fixture record write (R137, R168) -/

/-- The stored state of a range (R137): the target where the write affects it, else the state itself, a
CAL_BAD one by whether its coefficients are the defaults. -/
def storedState (w : Option CalWrite) (n : Nat) (r : ProbeRange) (c : Coeff) (st : CalState) :
    CalState :=
  match w with
  | some w =>
    if w.slots.contains n && w.ranges.covers r then w.target
    else match st with
      | .bad => if c = Coeff.default then .default else .calibrated
      | _ => st
  | none =>
    match st with
    | .bad => if c = Coeff.default then .default else .calibrated
    | _ => st

/-- What a fixture record write stores for one probe (R137). -/
def storedProbe (w : Option CalWrite) (n : Nat) (e : ProbeEntry) : StoredProbe where
  coeffLow := e.coeffLow
  coeffHigh := e.coeffHigh
  calLow := storedState w n .low e.coeffLow e.calLow
  calHigh := storedState w n .high e.coeffHigh e.calHigh

/-- The state of a range when a write has failed (R137). -/
def failedState (w : Option CalWrite) (n : Nat) (r : ProbeRange) (st : CalState) : CalState :=
  match w with
  | some w =>
    if w.slots.contains n && w.ranges.covers r then .bad
    else match st with
      | .calibrated => .bad
      | _ => st
  | none =>
    match st with
    | .calibrated => .bad
    | _ => st

/-- The per-range states of one probe after a write (R137). -/
def ProbeEntry.afterWrite (e : ProbeEntry) (w : Option CalWrite) (n : Nat) (passed : Bool) :
    ProbeEntry :=
  if passed then
    { e with calLow := storedState w n .low e.coeffLow e.calLow,
             calHigh := storedState w n .high e.coeffHigh e.calHigh }
  else
    { e with calLow := failedState w n .low e.calLow, calHigh := failedState w n .high e.calHigh }

end Sys2Proof.Machine
end

