-- ==== Sys2Proof/Machine/Validate.lean ====
section
/-! DEFINITION. Machine/Validate.lean: the validation of a plan at APPLY and at start-up (R162). -/

namespace Sys2Proof.Machine

/-- The parts of a plan an offending entry is named by (R162, codes in 12.2). -/
inductive PlanPart where
  | parameters | cls | link | filter | step
  deriving DecidableEq, Repr

/-- The error kinds (R162, codes in 12.2). -/
inductive PlanError where
  | markOrder | markRange | linkUndefined | formMismatch | slotRange | duplicateParticipant
  | classUndefined | classKind | paramRange
  deriving DecidableEq, Repr

/-- The first offending entry and its error kind. -/
structure PlanFault where
  part : PlanPart
  index : Nat
  error : PlanError
  deriving DecidableEq, Repr

/-- The first check of a list that fails gives its error. -/
def firstFailure (checks : List (Bool × PlanError)) : Option PlanError :=
  (checks.find? fun c => !c.1).map (·.2)

def between (low high n : Nat) : Bool := low ≤ n && n ≤ high

/-- Every parameter but the quorum lies within its range (R155). -/
def Params.inRange (p : Params) : Bool :=
  between 1000 65535 p.sweepLength.toNat
    && between 1 16 p.patternPeriod.toNat
    && between 0 512 p.stepCount.toNat
    && between 50 20000 p.reportGrace.toNat
    && between 10 60000 p.spotWindow.toNat
    && between 1 8 p.missLimit.toNat
    && between 2 64 p.syncSweeps.toNat
    && between 1 64 p.q0Watermark.toNat
    && between 1 64 p.q1Watermark.toNat

/-- The limits of a LEVEL or SILENCE class lie in the domain of its format (R160, R162). -/
def ClassDef.limitsInDomain (c : ClassDef) : Bool :=
  match c.measure with
  | .level => decide (c.format.bottom ≤ c.lowLimit ∧ c.highLimit ≤ c.format.top)
  | .silence => decide (c.format.bottom ≤ c.lowLimit ∧ c.highLimit ≤ c.format.top)
  | .errors => true
  | .code => true

/-- The numeric fields of a defined class lie in their ranges (R95, R160, R162). -/
def ClassDef.inRange (c : ClassDef) : Bool :=
  decide (c.lowLimit ≤ c.highLimit) && c.limitsInDomain && between 0 32767 c.margin.toNat
    && between 1 15 c.passQuota.toNat && between 1 7 c.failThreshold.toNat

/-- Strictly ascending. -/
def ascending : List Nat → Bool
  | [] => true
  | a :: rest =>
    match rest with
    | [] => true
    | b :: _ => a < b && ascending rest

/-- A list with no repetition. -/
def distinct : List Nat → Bool
  | [] => true
  | a :: rest => !rest.contains a && distinct rest

/-- The checks of a defined link, in order (R162). A tap count above 18 is refused whatever the kind (R188);
the other fields that the kind does not use are not checked (R89, log 46). -/
def LinkDef.checks (p : Plan) (d : LinkDef) : List (Bool × PlanError) :=
  [ (d.endpoints.all isSlot && (d.kind != .lane || d.source != d.sink), .slotRange),
    (d.tapCount.toNat ≤ 18 && (d.kind != .busline || (2 ≤ d.tapCount.toNat && ascending d.tapList)),
      .paramRange),
    ((p.cls d.cls.toNat).defined, .classUndefined) ]

/-- The ids of an enabled filter element are at most 511 (R160, R162); every mask is accepted (log 44). -/
def FilterElement.inRange (f : FilterElement) : Bool := f.id1.toNat ≤ 511 && f.id2.toNat ≤ 511

/-- List lengths within R4, for the lists the form reads, and the quiet list of either form
(R188, log 24). -/
def StepEntry.countsInRange (e : StepEntry) : Bool :=
  (match e.form with
    | .driven => true
    | .contended => between 2 4 e.contenderCount.toNat)
    && e.expectCount.toNat ≤ 4 && e.quietCount.toNat ≤ 4

/-- Contenders' codes are 0 to 63 and distinct (R7). -/
def StepEntry.codesInRange (e : StepEntry) : Bool :=
  match e.form with
  | .driven => true
  | .contended =>
    let codes := e.contenderList.map (·.code.toNat)
    codes.all (fun c => c ≤ 63) && distinct codes

/-- Numeric ranges of a test (R162). -/
def StepEntry.inRange (e : StepEntry) : Bool :=
  between 10 60000 e.window.toNat && e.multiplier.toNat ≤ 15
    && e.effectiveSettle < e.window.toNat && e.countsInRange && e.codesInRange

/-- The test link and each quiet link, of either form, are defined (R162, log 24). -/
def StepEntry.linksDefined (p : Plan) (e : StepEntry) : Bool :=
  (p.link e.testLink.toNat).defined && e.quietList.all fun q => (p.link q.link.toNat).defined

/-- The row of R8 that the form and the kind of the test link require. -/
def StepEntry.suits (e : StepEntry) (d : LinkDef) : Bool :=
  match e.form, d.kind with
  | .driven, .lane => e.talkerList == [d.source.toNat] && e.expectList == [d.sink.toNat]
  | .driven, .busline =>
    !e.talkerList.isEmpty && e.talkerList.all (d.tapList.contains ·)
      && between 1 4 e.expectList.length && e.expectList.all (d.tapList.contains ·)
  | .driven, .strap => e.talkerList.isEmpty && e.expectList == [d.slot.toNat]
  | .driven, .rail => e.talkerList.isEmpty && e.expectList == [d.slot.toNat]
  | .contended, .busline =>
    between 2 4 e.contenderList.length
      && (e.contenderList.map (·.slot.toNat)).all (d.tapList.contains ·)
      && e.expectList.length ≤ 4 && e.expectList.all (d.tapList.contains ·)
  | .contended, _ => false

/-- A quiet listener's link differs from the test link, and has the listener's slot as its sink or as a
tap (R9). -/
def QuietField.suits (p : Plan) (testLink : Half) (q : QuietField) : Bool :=
  let d := p.link q.link.toNat
  q.link != testLink &&
    (match d.kind with
      | .lane => d.sink == q.slot
      | .busline => d.tapList.contains q.slot.toNat
      | .strap => false
      | .rail => false)

/-- Form, talker, listeners and quiet listeners are as R8 and R9 require. -/
def StepEntry.formFits (p : Plan) (e : StepEntry) : Bool :=
  e.suits (p.link e.testLink.toNat)
    && (match e.form with
      | .driven => e.quietList.all (QuietField.suits p e.testLink)
      | .contended => e.quietList.isEmpty)

/-- The measures suit their use (R6, R7, R9). -/
def StepEntry.measuresFit (p : Plan) (e : StepEntry) : Bool :=
  (p.cls (p.link e.testLink.toNat).cls.toNat).measure != .silence
    && e.quietList.all fun q => (p.cls q.cls.toNat).measure == .silence

/-- Every slot of the lists validation looks at is 1 to 18: the participants' slots (R162), and those of the
counted quiet list of either form (R188; above 18 in a CONTENDED step, log 24). -/
def StepEntry.slotsInRange (e : StepEntry) : Bool :=
  e.slots.all isSlot && e.quietList.all fun q => isSlot q.slot.toNat

/-- The checks of a TIMED or MERGED step after its time mark, in order (R162). -/
def StepEntry.testChecks (p : Plan) (e : StepEntry) : List (Bool × PlanError) :=
  [ (e.inRange, .paramRange),
    (e.slotsInRange, .slotRange),
    (distinct e.slots, .duplicateParticipant),
    (e.linksDefined p, .linkUndefined),
    (e.formFits p, .formMismatch),
    (e.quietList.all (fun q => (p.cls q.cls.toNat).defined), .classUndefined),
    (e.measuresFit p, .classKind) ]

/-- The checks of a step's time mark (R1, R162); `previous` is the previous step, if any. -/
def StepEntry.markChecks (p : Plan) (previous : Option StepEntry) (e : StepEntry) :
    List (Bool × PlanError) :=
  [ (e.timeMark.toNat < p.params.sweepLength.toNat, .markRange),
    (match previous with
      | some b => b.timeMark.toNat < e.timeMark.toNat
      | none => true, .markOrder) ]

/-- The error of one step (R162). -/
def StepEntry.error (p : Plan) (previous : Option StepEntry) (e : StepEntry) : Option PlanError :=
  firstFailure (e.markChecks p previous ++ (if e.isTest then e.testChecks p else []))

/-- The first fault of the steps from index `i` on. -/
def stepFaults (p : Plan) : Nat → Option StepEntry → List StepEntry → Option PlanFault
  | _, _, [] => none
  | i, previous, e :: rest =>
    match e.error p previous with
    | some k => some ⟨.step, i, k⟩
    | none => stepFaults p (i + 1) (some e) rest

/-- The first fault of a list of entries, each with its own check. -/
def entryFaults {α : Type} (part : PlanPart) (check : α → Option PlanError) :
    Nat → List α → Option PlanFault
  | _, [] => none
  | i, x :: rest =>
    match check x with
    | some k => some ⟨part, i, k⟩
    | none => entryFaults part check (i + 1) rest

def ClassDef.error (c : ClassDef) : Option PlanError :=
  if c.defined then firstFailure [(c.inRange, .paramRange)] else none

def LinkDef.error (p : Plan) (d : LinkDef) : Option PlanError :=
  if d.defined then firstFailure (d.checks p) else none

def FilterElement.error (f : FilterElement) : Option PlanError :=
  if f.type = .off then none else firstFailure [(f.inRange, .paramRange)]

/-- The quorum lies from 1 to the number of plan slots (R20). -/
def Plan.quorumInRange (p : Plan) : Bool := between 1 p.planSlots.length p.params.quorum.toNat

/-- The validation of a plan under a plan generation: the first failing check, in the order of R162. A fault
of PARAMETERS has index 0 (log 41). -/
def Plan.validate (p : Plan) (generation : Nat) : Option PlanFault :=
  if !(decide (generation < maxWord) && p.params.inRange) then some ⟨.parameters, 0, .paramRange⟩
  else
    (entryFaults .cls ClassDef.error 0 p.classes.toList).or
      ((entryFaults .link (LinkDef.error p) 0 p.links.toList).or
        ((entryFaults .filter FilterElement.error 0 p.filters.toList).or
          ((stepFaults p 0 none p.stepList).or
            (if p.quorumInRange then none else some ⟨.parameters, 0, .paramRange⟩))))

end Sys2Proof.Machine
end

