-- ==== Sys2Proof/Machine/Answers.lean ====
section
/-! DEFINITION. Machine/Answers.lean: the answer bytes of the read requests and the 16 bytes of a result
record (12.2, 12.4, R182, R183, R187 to R189). -/

namespace Sys2Proof.Machine

/-! ## Codes of an answer -/

/-- The status codes (12.2). -/
def Status.toByte : Status → Byte
  | .done => 0x00
  | .accepted => 0x01
  | .empty => 0x02
  | .busy => 0x03
  | .state => 0x04
  | .range => 0x05
  | .invalid => 0x06
  | .held => 0x07
  | .locked => 0x08
  | .full => 0x09
  | .duplicate => 0x0A
  | .noLatch => 0x0B
  | .unknown => 0x0C
  | .crc => 0x0D

/-- An answer without answer bytes. -/
def Answer.bare (st : Status) : Answer := ⟨st, []⟩

/-- The answer bytes behind a DONE (R187). -/
def Answer.doneWith (bytes : List Byte) : Answer := ⟨.done, bytes⟩

/-- Whether no count and no answer bytes follow the status (R179, 12.2). -/
def Status.alone : Status → Bool
  | .unknown => true
  | .crc => true
  | _ => false

/-- The bytes clocked out: status, count, answer bytes, CRC-8; after CRC and UNKNOWN the CRC-8 follows
the status (12.2). -/
def Answer.wire (a : Answer) : List Byte :=
  let body := if a.status.alone then [a.status.toByte]
    else a.status.toByte :: natByte a.bytes.length :: a.bytes
  body ++ [crc8 body]

/-- Byte `i` that the station clocks out of an answer; bytes after the CRC-8 read as 00h (12.2). -/
def Answer.clocked (a : Answer) (i : Nat) : Byte := byteAt a.wire i

def RunState.toByte : RunState → Byte
  | .stopped => 0
  | .syncing => 1
  | .running => 2
  | .pausing => 3
  | .paused => 4
  | .stopping => 5
  | .halted => 6

def Health.toByte : Health → Byte
  | .clear => 0
  | .warn => 1
  | .degraded => 2
  | .severe => 3

def SessionState.toByte : SessionState → Byte
  | .idle => 0
  | .capturing => 1
  | .held => 2
  | .writing => 3

def ProbeState.toByte : ProbeState → Byte
  | .absent => 0
  | .unconfigured => 1
  | .syncing => 2
  | .inStep => 3
  | .lost => 4
  | .faulted => 5

def Role.toByte : Role → Byte
  | .talker => 0
  | .expect => 1
  | .quiet => 2
  | .contender => 3

def CalState.toByte : CalState → Byte
  | .default => 0
  | .calibrated => 1
  | .bad => 2

def Verdict.toByte : Verdict → Byte
  | .untested => 0
  | .testing => 1
  | .marginal => 2
  | .passed => 3
  | .failed => 4
  | .opened => 5
  | .bridged => 6

/-- The outcome codes (12.4); 0 is no outcome. -/
def TestOutcome.toByte : TestOutcome → Byte
  | .inRange => 1
  | .lowMargin => 2
  | .highMargin => 3
  | .under => 4
  | .over => 5
  | .mismatch => 6
  | .contention => 7
  | .heard => 8
  | .openSeen => 9
  | .voidTalker => 10
  | .voidMissing => 11
  | .voidRedefined => 12

def PlanPart.toByte : PlanPart → Byte
  | .parameters => 0
  | .cls => 1
  | .link => 2
  | .filter => 3
  | .step => 4

def PlanError.toByte : PlanError → Byte
  | .markOrder => 0
  | .markRange => 1
  | .linkUndefined => 2
  | .formMismatch => 3
  | .slotRange => 4
  | .duplicateParticipant => 5
  | .classUndefined => 6
  | .classKind => 7
  | .paramRange => 8

/-- The four bytes of an APPLY refused with INVALID (12.2). -/
def PlanFault.encode (f : PlanFault) : List Byte :=
  [f.part.toByte] ++ natHalf f.index ++ [f.error.toByte]

/-- A count of three bytes. -/
def natThree (n : Nat) : List Byte := threeBytes (BitVec.ofNat 24 n)

/-- A corrected value in four bytes of two's complement (R187). R187 gives no code for an absent one; the
model sends 0 (log 41). -/
def valueBytes (v : Option Int) : List Byte := wordBytes (BitVec.ofInt 32 (v.getD 0))

/-! ## STATUS READ (R182, R187) -/

def StoreOp.toByte : StoreOp → Byte
  | .save _ => 1
  | .erase _ => 2
  | .lock _ => 3
  | .load _ => 4
  | .fixtureWrite => 5

/-- The target of an operation: 0 to 3 a store slot, 4 the fixture record (R187). -/
def StoreOp.target : StoreOp → Byte
  | .save n => natByte n.val
  | .erase n => natByte n.val
  | .lock n => natByte n.val
  | .load n => natByte n.val
  | .fixtureWrite => 4

/-- Store state, store operation and store target (R187). -/
def StoreState.encode : StoreState → List Byte
  | .starting => [0, 0, 0xFF]
  | .idle => [1, 0, 0xFF]
  | .busy op => [2, op.toByte, op.target]

def SlotState.toByte : SlotState → Byte
  | .empty => 0
  | .valid => 1
  | .invalid => 2

/-- A store slot in STATUS READ, or as not yet read (R187). -/
def StoreSlot.encode (starting : Bool) (x : StoreSlot) : List Byte :=
  if starting then [0xFF, 0] ++ List.replicate 8 0
  else [x.state.toByte, boolByte x.locked] ++ x.label.toList

/-- The last result; absent as operation 0, target FFh, result 0 (R187, log 41). -/
def LastResult.encode : Option LastResult → List Byte
  | none => [0, 0xFF, 0]
  | some r => [r.op.toByte, r.op.target, boolByte (!r.passed)]

def bootByte : Option (Fin 4) → Byte
  | none => 0xFF
  | some n => natByte n.val

def BootResult.toByte : BootResult → Byte
  | .none => 0
  | .loaded => 1
  | .slotNotValid => 2
  | .planInvalid => 3

def bootResultByte : Option BootResult → Byte
  | none => 0xFF
  | some r => r.toByte

/-- The store is STARTING. -/
def State.starting (s : State) : Bool := s.store.state == .starting

/-- Boot slot, record-valid flag and boot result, or as not yet read (R182, R187). -/
def State.bootBytes (s : State) : List Byte :=
  if s.starting then [0xFE, 0xFF, 0xFF]
  else [bootByte s.store.boot, boolByte s.store.fixture.valid, bootResultByte s.store.bootResult]

/-- The run group; STOPPED, CLEAR and 0 while the store is STARTING (R182, log 40). -/
def State.runBytes (s : State) : List Byte :=
  if s.starting then List.replicate 10 0
  else [s.timer.run.toByte, s.timer.health.toByte] ++ wordBytes s.timer.sweepNumber
    ++ natWord s.timer.fixtureTime

/-- The fill levels; 0 while the store is STARTING (R182, log 40). -/
def State.fillBytes (s : State) : List Byte :=
  if s.starting then [0, 0, 0]
  else [natByte s.router.q0.records.length, natByte s.router.q1.records.length, natByte s.spot.length]

/-- The 73 answer bytes of STATUS READ (R187). -/
def State.statusBytes (s : State) : List Byte :=
  s.runBytes
    ++ [boolByte s.plans.applyPending] ++ natWord s.plans.generation
    ++ s.store.state.encode ++ [boolByte s.store.latch]
    ++ s.store.slots.toList.flatMap (StoreSlot.encode s.starting)
    ++ LastResult.encode s.store.lastResult
    ++ s.bootBytes
    ++ [s.registry.session.state.toByte]
    ++ halfBytes (s.port.flags.setWidth 16) ++ halfBytes (s.port.enables.setWidth 16)
    ++ s.fillBytes

/-! ## CAPABILITY READ (R183, R187) -/

/-- The 16 answer bytes of CAPABILITY READ. -/
def capabilityBytes : List Byte :=
  [18] ++ natHalf 512 ++ natHalf 512
    ++ [32, 32, 8, natByte Config.pendingRoom, natByte Config.spotRoom, 2, natByte Config.queueRoom,
      9, 4, 12, Config.siliconRevision]

/-! ## Plan reads (R158, R188) -/

/-- The answer of ACTIVE READ: the parameter set with the plan generation, a link with its defined-in
generation (R188). -/
def State.activeBytes (s : State) (t : Target) : List Byte :=
  s.active.read t ++
    (match t with
      | .params => natWord s.plans.generation
      | .link id => natWord (if s.linkDefined id then (s.link id).definedIn else 0)
      | .step _ => []
      | .cls _ => []
      | .filter _ => [])

/-! ## LINK READ (R91, R187) -/

/-- Bit 0 present and bit 1 value present. -/
def presentByte (value : Option Int) : Byte := if value.isSome then 3 else 1

def Source.encode : Source → List Byte
  | .step i => natHalf i
  | .spot => [0xFF, 0xFF]

def FirstFailure.encode : Option FirstFailure → List Byte
  | none => List.replicate 15 0
  | some f =>
    [presentByte f.value] ++ wordBytes f.sweep ++ natHalf f.time ++ f.source.encode
      ++ [f.outcome.toByte] ++ valueBytes f.value ++ [natByte (f.suspect.getD 0)]

def LastObservation.encode : Option LastObservation → List Byte
  | none => List.replicate 10 0
  | some o => [presentByte o.value] ++ wordBytes o.sweep ++ [o.outcome.toByte] ++ valueBytes o.value

def partnerBytes : Option Nat → List Byte
  | none => [0xFF, 0xFF]
  | some id => natHalf id

/-- The live state of a link (R187). -/
def LinkRecord.encode (r : LinkRecord) : List Byte :=
  [r.verdict.toByte, natByte r.standing, natByte r.streak]
    ++ natThree r.attempts ++ natThree r.inRange ++ natThree r.margin ++ natThree r.fail
    ++ natThree r.void ++ natThree r.notStarted ++ natThree r.quietChecks ++ natThree r.heard
    ++ [boolByte r.withdrawn] ++ partnerBytes r.partner
    ++ FirstFailure.encode r.firstFailure ++ LastObservation.encode r.lastObservation

/-- The 87 answer bytes of LINK READ (R187). -/
def State.linkBytes (s : State) (id : Nat) : List Byte :=
  s.activeBytes (.link id) ++ (s.link id).encode ++ [boolByte (s.blocked id)]

/-! ## PROBE READ (R65, R140, R187) -/

/-- One bit of a byte of flags. -/
def flagBit (b : Bool) (n : Nat) : Nat := if b then 2 ^ n else 0

def ProbeEntry.flagByte (e : ProbeEntry) : Byte :=
  natByte (flagBit e.serial.isSome 0 + flagBit e.codeMismatch 1 + flagBit e.codeChanged 2
    + flagBit e.mainPower 3 + flagBit e.auxPower 4 + flagBit e.setupOutstanding 5
    + flagBit (e.policy == .drop) 6)

/-- Tag and role; the tag of an absent assignment is FFh, its role byte 0 (R187, log 41). -/
def Assignment.encode : Option Assignment → List Byte
  | none => [0xFF, 0]
  | some a => [a.tag.byte, a.role.toByte]

/-- An outstanding mark; the sweep number of an absent one is 0 (R187, log 41). -/
def markBytes : Option Word → List Byte
  | none => List.replicate 5 0
  | some w => 1 :: wordBytes w

def Coeff.encode (c : Coeff) (st : CalState) : List Byte :=
  halfBytes (BitVec.ofInt 16 c.offset) ++ natHalf c.gain ++ [st.toByte]

def CaptureFailure.code : CaptureFailure → Nat
  | .notSyncing => 0
  | .noAnswer => 1
  | .leftSyncing => 2
  | .outOfBounds => 3

/-- The result bits 3 to 2 and reason bits 6 to 4 of a capture entry; the reason bits are 0 when the result
is absent or a candidate (R187, log 41). -/
def CaptureResult.bits : Option CaptureResult → Nat
  | none => 0
  | some (.candidate _) => 4
  | some (.failed reason) => 8 + 16 * reason.code

/-- The candidate and its affected ranges, 0 when there is none (R187, log 41). -/
def CaptureResult.candidateBytes (x : Selection) : Option CaptureResult → List Byte
  | some (.candidate v) => halfBytes (BitVec.ofInt 16 v) ++ [x.affected.toByte]
  | _ => [0, 0, 0]

/-- The capture entry of a slot, absent outside the selection (R140, R187). -/
def Session.captureBytes (x : Session) (n : Nat) : List Byte :=
  match x.selection, x.capture n with
  | some sel, some c =>
    natByte (1 + flagBit c.outstanding 1 + CaptureResult.bits c.result)
      :: CaptureResult.candidateBytes sel c.result
  | _, _ => [0, 0, 0, 0]

/-- The 37 answer bytes of PROBE READ (R187). -/
def State.probeBytes (s : State) (n : Nat) : List Byte :=
  let e := s.probe n
  [e.state.toByte, e.flagByte] ++ wordBytes (e.serial.getD 0)
    ++ [e.geoCode.getD 0xFF, e.fault.getD 0]
    ++ Assignment.encode e.current ++ Assignment.encode e.queued ++ markBytes e.outstanding
    ++ [natByte e.syncCount, natByte e.missCount] ++ natHalf e.strayCount
    ++ natHalf (s.portState n).frameErrors
    ++ e.coeffLow.encode e.calLow ++ e.coeffHigh.encode e.calHigh
    ++ s.registry.session.captureBytes n

/-! ## QUEUE STATUS and SPOT LIST (R129, R152, R187, 12.2) -/

/-- The 6 answer bytes of QUEUE STATUS. -/
def State.queueBytes (s : State) (id : QueueId) : List Byte :=
  let q := s.router.queue id
  [natByte q.records.length, (s.params.mode id).toByte, natByte (s.params.watermark id)]
    ++ natHalf q.lost ++ [boolByte q.verdictLost]

def endPendingBits : Option Ending → Nat
  | none => 0
  | some .completed => 0
  | some .cancelled => 64
  | some .withdrawn => 128

/-- The 9 bytes of one request in SPOT LIST (12.2). -/
def SpotRequest.encode (r : SpotRequest) : List Byte :=
  [natByte (r.requester.getD 0)] ++ natHalf r.link
    ++ [natByte r.repeats, r.marker, natByte r.tallies.inRange, natByte r.tallies.margin,
      natByte r.tallies.fail,
      natByte (r.tallies.void % 32 + flagBit r.inFlight.isSome 5 + endPendingBits r.endPending)]

def spotListBytes (q : List SpotRequest) : List Byte :=
  natByte q.length :: q.flatMap SpotRequest.encode

/-! ## The result record (12.4, R189) -/

def RecordKind.code : RecordKind → Nat
  | .verdict => 1
  | .observation => 2
  | .skipped => 3
  | .spotDone => 4
  | .probe => 5
  | .mark => 6

def NotStarted.code : NotStarted → Nat
  | .openFull => 0
  | .linkBusy => 1
  | .probeUnavailable => 2
  | .fieldPower => 3
  | .probeBusy => 4
  | .crowded => 5
  | .windowClosed => 6

def Ending.code : Ending → Nat
  | .completed => 0
  | .cancelled => 1
  | .withdrawn => 2

/-- A present bit above a field of 9 bits. -/
def ninePresent : Option Nat → Nat
  | none => 0
  | some x => 512 + x % 512

/-- Bytes 0 to 3 as one number (12.4). -/
def ResultRecord.head (r : ResultRecord) : Nat :=
  r.kind.code * 2 ^ 29 + flagBit r.urgent 28 + flagBit r.despiteWithdrawal 27
    + flagBit r.despiteCancel 26 + ninePresent r.link * 2 ^ 16 + ninePresent r.step * 2 ^ 6
    + (r.slot.getD 0) % 32 * 2 + flagBit r.marker.isSome 0

/-- A value present bit above 17 bits of two's complement. -/
def valuePresent : Option Int → Nat
  | none => 0
  | some v => 2 ^ 17 + (BitVec.ofInt 17 v).toNat

def outcomeCode : Option TestOutcome → Nat
  | none => 0
  | some o => o.toByte.toNat

def verdictCode : Option Verdict → Nat
  | none => 0
  | some v => v.toByte.toNat

def tallyBits (t : Tallies) : Nat :=
  t.inRange % 32 * 2 ^ 25 + t.margin % 32 * 2 ^ 20 + t.fail % 32 * 2 ^ 15 + t.void % 32 * 2 ^ 10

/-- Bytes 12 to 15 as one number, by kind (12.4). -/
def ResultRecord.tail (r : ResultRecord) : Nat :=
  match r.kind with
  | .verdict =>
    outcomeCode r.outcome * 2 ^ 28 + valuePresent r.value * 2 ^ 10 + verdictCode r.oldVerdict * 2 ^ 7
      + verdictCode r.newVerdict * 2 ^ 4
  | .observation => outcomeCode r.outcome * 2 ^ 28 + valuePresent r.value * 2 ^ 10
  | .skipped => (r.reason.map NotStarted.code).getD 0 * 2 ^ 29
  | .spotDone => (r.ending.map Ending.code).getD 0 * 2 ^ 30 + (r.tallies.map tallyBits).getD 0
  | .probe => (r.newState.map fun st => st.toByte.toNat).getD 0 * 2 ^ 29
  | .mark => 0

/-- The 16 bytes of a result record (R189). -/
def ResultRecord.encode (r : ResultRecord) : List Byte :=
  natWord r.head ++ [r.marker.getD 0, natByte (r.filter.getD 63)] ++ wordBytes r.sweep
    ++ natHalf r.time ++ natWord r.tail

end Sys2Proof.Machine
end

