-- ==== Sys2Proof/Machine/Port.lean ====
section
/-! DEFINITION. Machine/Port.lean: taking a station request: the CRC, the STARTING store, and the answer
(R178, R179). -/

namespace Sys2Proof.Machine

/-- The answer of a transaction stands on the port (R178). -/
def State.answered (s : State) (a : Answer) : State := s.withPort { s.port with answer := some a }

/-- What a request that passed the port's checks does: the state after it, and its answer. -/
structure Reply where
  state : State
  answer : Answer

/-- The request is refused and changes nothing. -/
def refuse (st : Status) (s : State) : Reply := ⟨s, Answer.bare st⟩

/-- The request has its effect and is answered without answer bytes. -/
def reply (st : Status) (s : State) : Reply := ⟨s, Answer.bare st⟩

/-- The request changes nothing and returns bytes. -/
def readOut (bytes : List Byte) (s : State) : Reply := ⟨s, Answer.doneWith bytes⟩

/-- The CRC-8 of a request covers the command byte and the parameters (R178). -/
def requestCrc (command : Byte) (params : List Byte) : Byte := crc8 (command :: params)

/-- A request passed on to its block: the effect, and the answer on the port. -/
def Reply.finish (r : Reply) : State := r.state.answered r.answer

/-- CS# rises at the end of a transaction (R178). -/
def State.raiseCs (s : State) : State := s.withPort { s.port with csLow := false }

/-- MISO is in high impedance: CS# is high, or RESET# is low (R178, R185). -/
def State.misoReleased (s : State) : Bool := !s.port.csLow || s.port.resetLow

/-- A request that is taken whatever the store state: STATUS READ and CAPABILITY READ (R179). Nothing is
taken while RESET# is low, nor in the transaction whose CS# was low as RESET# rose (R185). -/
def takeAlways (command : Byte) (params : List Byte) (crc : Byte) (effect : State → Reply) (s : State) :
    State :=
  if s.port.resetLow then s
  else if s.port.csLow then s.raiseCs
  else if requestCrc command params = crc then (effect s).finish
  else s.answered (Answer.bare .crc)

/-- Every other request is refused with BUSY while the store is STARTING (R179 item 3). -/
def takeRequest (command : Byte) (params : List Byte) (crc : Byte) (effect : State → Reply) (s : State) :
    State :=
  takeAlways command params crc (fun s => if s.starting then refuse .busy s else effect s) s

/-- The outcome of every command of the part: a next state. -/
abbrev Result := Host.Outcome State Fault Refusal

end Sys2Proof.Machine
end

