-- ==== Sys2Proof/Machine/Editing.lean ====
section
/-! DEFINITION. Machine/Editing.lean: the requests on the plans (R157 to R164). -/

namespace Sys2Proof.Machine

/-- A STORE LOAD is filling the shadow (R173). -/
def State.loading (s : State) : Bool :=
  match s.store.state with
  | .busy (.load _) => true
  | _ => false

/-- The parameter bytes that name a target (12.2). -/
def targetBytes (target : Byte) (index : Half) : List Byte := target :: halfBytes index

/-! ## SHADOW WRITE, SHADOW READ, ACTIVE READ, SHADOW CLEAR -/

/-- The shadow with one part replaced; none when the target or an enumerated field is out of range
(R157). -/
def State.shadowWritten (s : State) (target : Byte) (index : Half) (content : List Byte) : Option Plan :=
  match Target.ofCode target index with
  | some t => s.plans.shadow.write t content
  | none => none

/-- SHADOW WRITE's effect (R157). -/
def shadowWrite (target : Byte) (index : Half) (content : List Byte) (s : State) : Reply :=
  if s.loading then refuse .busy s
  else if s.plans.applyPending then refuse .held s
  else match s.shadowWritten target index content with
    | some p => reply .done (s.withPlans { s.plans with shadow := p })
    | none => refuse .range s

/-- SHADOW WRITE (R157). -/
def execShadowWrite (target : Byte) (index : Half) (content : Vector Byte 48) (crc : Byte) (s : State) :
    Host.Outcome State Fault Refusal :=
  .next
    (takeRequest 0x10 (targetBytes target index ++ content.toList) crc
      (shadowWrite target index content.toList) s)

/-- SHADOW READ's effect (R158, log 22). -/
def shadowRead (target : Byte) (index : Half) (s : State) : Reply :=
  if s.loading then refuse .busy s
  else match Target.ofCode target index with
    | some t => readOut (s.plans.shadow.read t) s
    | none => refuse .range s

/-- SHADOW READ (R158). -/
def execShadowRead (target : Byte) (index : Half) (crc : Byte) (s : State) :
    Host.Outcome State Fault Refusal :=
  .next (takeRequest 0x11 (targetBytes target index) crc (shadowRead target index) s)

/-- ACTIVE READ's effect (R158). -/
def activeRead (target : Byte) (index : Half) (s : State) : Reply :=
  match Target.ofCode target index with
  | some t => readOut (s.activeBytes t) s
  | none => refuse .range s

/-- ACTIVE READ (R158). -/
def execActiveRead (target : Byte) (index : Half) (crc : Byte) (s : State) :
    Host.Outcome State Fault Refusal :=
  .next (takeRequest 0x12 (targetBytes target index) crc (activeRead target index) s)

/-- SHADOW CLEAR's effect (R159). -/
def shadowClear (s : State) : Reply :=
  if s.loading then refuse .busy s
  else if s.plans.applyPending then refuse .held s
  else reply .done (s.withPlans { s.plans with shadow := Plan.empty })

/-- SHADOW CLEAR (R159). -/
def execShadowClear (crc : Byte) (s : State) : Host.Outcome State Fault Refusal :=
  .next (takeRequest 0x13 [] crc shadowClear s)

/-! ## LIVE EDIT (R160) -/

/-- What a live edit is refused with, or the plan it makes. -/
inductive Edit where
  | refused (st : Status)
  | taken (p : Plan)

/-- A class entry replaced in the active plan (R160 items 2 to 5). -/
def editClass (p : Plan) (i : Nat) (content : List Byte) : Edit :=
  match ClassDef.decode content with
  | none => .refused .range
  | some c =>
    if !(p.cls i).defined || !c.defined then .refused .range
    else if c.measure ≠ (p.cls i).measure then .refused .invalid
    else if !c.inRange then .refused .invalid
    else .taken { p with classes := Tab.put p.classes i c }

/-- A filter element replaced in the active plan (R160 items 2 and 5). -/
def editFilter (p : Plan) (i : Nat) (content : List Byte) : Edit :=
  match FilterElement.decode content with
  | none => .refused .range
  | some f =>
    if !f.inRange then .refused .invalid
    else .taken { p with filters := Tab.put p.filters i f }

/-- A live edit of the active plan; a target other than a class or a filter element is outside its codes
(12.2, log 22). -/
def editActive (p : Plan) (target : Byte) (index : Half) (content : List Byte) : Edit :=
  match Target.ofCode target index with
  | some (.cls i) => editClass p i content
  | some (.filter i) => editFilter p i content
  | _ => .refused .range

/-- LIVE EDIT's effect (R160). -/
def liveEdit (target : Byte) (index : Half) (content : List Byte) (s : State) : Reply :=
  match editActive s.active target index content with
  | .refused st => refuse st s
  | .taken p => reply .done (s.withPlans { s.plans with active := p })

/-- LIVE EDIT (R160). -/
def execLiveEdit (target : Byte) (index : Half) (content : Vector Byte 14) (crc : Byte) (s : State) :
    Host.Outcome State Fault Refusal :=
  .next
    (takeRequest 0x14 (targetBytes target index ++ content.toList) crc
      (liveEdit target index content.toList) s)

/-! ## APPLY and APPLY CANCEL (R161 to R164) -/

/-- APPLY's effect (R161). -/
def applyShadow (s : State) : Reply :=
  if s.loading then refuse .busy s
  else if s.plans.applyPending then refuse .held s
  else match s.plans.shadow.validate s.plans.generation with
    | some f => ⟨s, ⟨.invalid, f.encode⟩⟩
    | none =>
      if s.timer.run = .stopped then reply .done (install s)
      else reply .accepted (s.withPlans { s.plans with applyPending := true })

/-- APPLY (R161). -/
def execApply (crc : Byte) (s : State) : Host.Outcome State Fault Refusal :=
  .next (takeRequest 0x15 [] crc applyShadow s)

/-- APPLY CANCEL's effect (R164). -/
def cancelApply (s : State) : Reply :=
  if s.plans.applyPending then reply .done (s.withPlans { s.plans with applyPending := false })
  else refuse .state s

/-- APPLY CANCEL (R164). -/
def execApplyCancel (crc : Byte) (s : State) : Host.Outcome State Fault Refusal :=
  .next (takeRequest 0x16 [] crc cancelApply s)

end Sys2Proof.Machine
end

