-- ==== Sys2Proof/Machine/Reads.lean ====
section
/-! DEFINITION. Machine/Reads.lean: STATUS READ, CAPABILITY READ, LINK READ, PROBE READ, and the requests
on the result queues and the attention flags (R65, R91, R150 to R152, R181 to R183). -/

namespace Sys2Proof.Machine

/-! ## STATUS READ and CAPABILITY READ -/

/-- STATUS READ (R182). -/
def execStatusRead (crc : Byte) (s : State) : Host.Outcome State Fault Refusal :=
  .next (takeAlways 0x01 [] crc (fun s => readOut s.statusBytes s) s)

/-- CAPABILITY READ (R183). -/
def execCapabilityRead (crc : Byte) (s : State) : Host.Outcome State Fault Refusal :=
  .next (takeAlways 0x02 [] crc (readOut capabilityBytes) s)

/-! ## Links and probes -/

/-- A request on a link id: an undefined id, or one above 511, is refused with RANGE (R89). -/
def onLink (link : Half) (effect : Nat → State → Reply) (s : State) : Reply :=
  if s.linkDefined link.toNat then effect link.toNat s else refuse .range s

/-- LINK READ (R91). -/
def execLinkRead (link : Half) (crc : Byte) (s : State) : Host.Outcome State Fault Refusal :=
  .next (takeRequest 0x30 (halfBytes link) crc (onLink link fun id s => readOut (s.linkBytes id) s) s)

/-- PROBE READ's effect (R65). -/
def probeRead (slot : Byte) (s : State) : Reply :=
  if isSlot slot.toNat then readOut (s.probeBytes slot.toNat) s else refuse .range s

/-- PROBE READ (R65). -/
def execProbeRead (slot crc : Byte) (s : State) : Host.Outcome State Fault Refusal :=
  .next (takeRequest 0x34 [slot] crc (probeRead slot) s)

/-! ## Result queues -/

/-- The queue of a queue byte (12.2). -/
def QueueId.ofByte (b : Byte) : Option QueueId :=
  match b.toNat with
  | 0 => some .q0
  | 1 => some .q1
  | _ => none

/-- A request on a queue: a number other than 0 or 1 is refused with RANGE (R150 to R152). -/
def onQueue (queue : Byte) (effect : QueueId → State → Reply) (s : State) : Reply :=
  match QueueId.ofByte queue with
  | some id => effect id s
  | none => refuse .range s

/-- QUEUE POP's effect: the oldest record is removed and returned (R150, R189). -/
def popQueue (id : QueueId) (s : State) : Reply :=
  match (s.router.queue id).records with
  | [] => refuse .empty s
  | r :: rest =>
    ⟨s.withRouter (s.router.setQueue id { s.router.queue id with records := rest }),
      Answer.doneWith r.encode⟩

/-- QUEUE POP (R150). -/
def execQueuePop (queue crc : Byte) (s : State) : Host.Outcome State Fault Refusal :=
  .next (takeRequest 0x40 [queue] crc (onQueue queue popQueue) s)

/-- QUEUE STATUS (R152). -/
def execQueueStatus (queue crc : Byte) (s : State) : Host.Outcome State Fault Refusal :=
  .next (takeRequest 0x41 [queue] crc (onQueue queue fun id s => readOut (s.queueBytes id) s) s)

/-- QUEUE FLUSH's effect (R151). -/
def flushQueue (id : QueueId) (s : State) : Reply :=
  reply .done (s.withRouter (s.router.setQueue id ResultQueue.empty))

/-- QUEUE FLUSH (R151). -/
def execQueueFlush (queue crc : Byte) (s : State) : Host.Outcome State Fault Refusal :=
  .next (takeRequest 0x42 [queue] crc (onQueue queue flushQueue) s)

/-! ## Attention -/

/-- ATTN ENABLE's effect: each enable takes the value named for it (R181). -/
def enableFlags (set : Half) (s : State) : Reply :=
  reply .done (s.withPort { s.port with enables := flagSet set })

/-- ATTN ENABLE (R181). -/
def execAttnEnable (set : Half) (crc : Byte) (s : State) : Host.Outcome State Fault Refusal :=
  .next (takeRequest 0x70 (halfBytes set) crc (enableFlags set) s)

/-- ATTN CLEAR's effect: each flag named in the set is cleared (R181). -/
def clearFlags (set : Half) (s : State) : Reply :=
  reply .done (s.withPort { s.port with flags := s.port.flags &&& ~~~flagSet set })

/-- ATTN CLEAR (R181). -/
def execAttnClear (set : Half) (crc : Byte) (s : State) : Host.Outcome State Fault Refusal :=
  .next (takeRequest 0x71 (halfBytes set) crc (clearFlags set) s)

/-! ## A command byte that names no request (R179) -/

/-- The command bytes that name a request (12.2). -/
def requestCommands : List Byte :=
  [0x01, 0x02, 0x10, 0x11, 0x12, 0x13, 0x14, 0x15, 0x16, 0x20, 0x21, 0x22, 0x23, 0x24]
    ++ [0x30, 0x31, 0x32, 0x33, 0x34, 0x40, 0x41, 0x42, 0x48, 0x49, 0x4A, 0x50, 0x51, 0x52, 0x53]
    ++ [0x60, 0x61, 0x62, 0x63, 0x64, 0x65, 0x70, 0x71, 0x7F]

/-- Whether a command byte names a request. -/
def namesRequest (command : Byte) : Bool := requestCommands.contains command

/-- A command byte that names no request: the byte after it is taken as the CRC, and the answer is CRC or
UNKNOWN (R179). A byte that names a request is no such command (log 13). -/
def execUnknownCommand (command next : Byte) (s : State) : Host.Outcome State Fault Refusal :=
  .next
    (if namesRequest command then s else takeAlways command [] next (refuse .unknown) s)

end Sys2Proof.Machine
end

