-- ==== Sys2Proof/Machine/LinkRequests.lean ====
section
/-! DEFINITION. Machine/LinkRequests.lean: LINK CLEAR, WITHDRAW and RESTORE, and the requests on the Spot
Queue (R92, R93, R118, R123, R129). -/

namespace Sys2Proof.Machine

/-- LINK CLEAR (R93). -/
def execLinkClear (link : Half) (crc : Byte) (s : State) : Host.Outcome State Fault Refusal :=
  .next
    (takeRequest 0x31 (halfBytes link) crc (onLink link fun id s => reply .done (clearLink id s)) s)

/-- Set or clear a link's withdrawn flag (R92). -/
def setWithdrawn (id : Nat) (b : Bool) (s : State) : State :=
  s.setLink id { s.link id with withdrawn := b }

/-- The open step testing a link is flagged withdrawn while open (R84). -/
def OpenStep.withdraw (id : Nat) (o : OpenStep) : OpenStep :=
  if o.testLink = id then { o with withdrawn := true } else o

/-- The Step Engine takes a withdrawal (R84). -/
def withdrawOpen (id : Nat) (s : State) : State :=
  s.withEngine { s.engine with table := s.engine.table.map fun o => o.map (OpenStep.withdraw id) }

/-- A link that was not withdrawn is withdrawn; the Step Engine and the Spot Queue take it (R92). -/
def withdrawLink (id : Nat) (s : State) : State :=
  if (s.link id).withdrawn then s
  else withdrawSpot id (withdrawOpen id (setWithdrawn id true s))

/-- LINK WITHDRAW (R92). -/
def execLinkWithdraw (link : Half) (crc : Byte) (s : State) : Host.Outcome State Fault Refusal :=
  .next
    (takeRequest 0x32 (halfBytes link) crc (onLink link fun id s => reply .done (withdrawLink id s)) s)

/-- LINK RESTORE (R92). -/
def execLinkRestore (link : Half) (crc : Byte) (s : State) : Host.Outcome State Fault Refusal :=
  .next
    (takeRequest 0x33 (halfBytes link) crc
      (onLink link fun id s => reply .done (setWithdrawn id false s)) s)

/-! ## The Spot Queue -/

/-- The status that answers an arrival from the station (R118). -/
def Arrival.status : Arrival → Status
  | .accepted => .accepted
  | .range => .range
  | .state => .state
  | .duplicate => .duplicate
  | .full => .full

/-- SPOT REQUEST's effect (R118). -/
def spotRequest (link : Half) (repeats marker : Byte) (s : State) : Reply :=
  reply (s.arrival none link.toNat repeats.toNat).status
    (arrive none link.toNat repeats.toNat marker s)

/-- SPOT REQUEST (R118). -/
def execSpotRequest (link : Half) (repeats marker crc : Byte) (s : State) :
    Host.Outcome State Fault Refusal :=
  .next
    (takeRequest 0x48 (halfBytes link ++ [repeats, marker]) crc (spotRequest link repeats marker) s)

/-- SPOT CANCEL's effect (R123). -/
def spotCancel (link : Half) (s : State) : Reply :=
  if 511 < link.toNat then refuse .range s
  else match s.spotFor link.toNat with
    | none => refuse .empty s
    | some r => reply (if r.inFlight.isSome then .accepted else .done) (cancelSpot r s)

/-- SPOT CANCEL (R123). -/
def execSpotCancel (link : Half) (crc : Byte) (s : State) : Host.Outcome State Fault Refusal :=
  .next (takeRequest 0x49 (halfBytes link) crc (spotCancel link) s)

/-- SPOT LIST (R129). -/
def execSpotList (crc : Byte) (s : State) : Host.Outcome State Fault Refusal :=
  .next (takeRequest 0x4A [] crc (fun s => readOut (spotListBytes s.spot) s) s)

end Sys2Proof.Machine
end

