-- ==== Sys2Proof/Machine/StoreRequests.lean ====
section
/-! DEFINITION. Machine/StoreRequests.lean: the store requests, the start of a fixture record write, and
the ends of the store operations (R168 to R174). -/

namespace Sys2Proof.Machine

/-! ## Operations -/

/-- The bound of an operation, in milliseconds (R168, R171 to R173). -/
def StoreOp.limit : StoreOp → Nat
  | .save _ => 250
  | .erase _ => 120
  | .lock _ => 10
  | .load _ => 20
  | .fixtureWrite => 40

/-- The store becomes BUSY with an operation that starts now (R170). -/
def startStoreOp (op : StoreOp) (s : State) : State :=
  s.withStore { s.store with
    state := .busy op, latestEnd := s.clock + op.limit * Config.ticksPerMs }

/-- An operation ends: IDLE, the last result, and STORE (R170). -/
def endStoreOp (op : StoreOp) (passed : Bool) (s : State) : State :=
  raise .store (s.withStore { s.store with state := .idle, lastResult := some ⟨op, passed⟩ })

/-- A fixture record write begins for a calibration, or for STORE SET BOOT (R136, R138, R168, R174). -/
def startFixtureWrite (w : Option CalWrite) (s : State) : State :=
  startStoreOp .fixtureWrite (s.withRegistry { s.registry with calWrite := w })

def State.storeSlot (s : State) (n : Fin 4) : StoreSlot := Tab.get StoreSlot.erased s.store.slots n.val

def State.setStoreSlot (s : State) (n : Fin 4) (x : StoreSlot) : State :=
  s.withStore { s.store with slots := Tab.put s.store.slots n.val x }

def State.setLatch (s : State) (b : Bool) : State := s.withStore { s.store with latch := b }

/-- The store is IDLE. -/
def State.storeIdle (s : State) : Bool := s.store.state == .idle

/-- The store slot of a slot byte. -/
def storeSlotOf (b : Byte) : Option (Fin 4) := if h : b.toNat < 4 then some ⟨b.toNat, h⟩ else none

/-! ## The requests (R169, R170) -/

/-- STORE WRITE ENABLE (R169). -/
def execStoreWriteEnable (crc : Byte) (s : State) : Host.Outcome State Fault Refusal :=
  .next (takeRequest 0x60 [] crc (fun s => reply .done (s.setLatch true)) s)

/-- The checks of SAVE, ERASE and LOCK from the slot byte to the locked flag (R170 items 2 to 5).
`fits` is the label check of a SAVE. -/
def guardedStore (slot : Byte) (fits : Bool) (effect : Fin 4 → State → Reply) (s : State) : Reply :=
  match storeSlotOf slot with
  | none => refuse .range s
  | some n =>
    if !fits then refuse .range s
    else if !s.storeIdle then refuse .busy s
    else if !s.store.latch then refuse .noLatch s
    else if (s.storeSlot n).locked then reply .locked (s.setLatch false)
    else effect n s

/-- Every label character lies from 20h to 7Eh (R167, R170). -/
def labelFits (label : Vector Byte 8) : Bool :=
  label.toList.all fun c => 0x20 ≤ c.toNat && c.toNat ≤ 0x7E

/-- A slot whose save or erase has begun: INVALID, no content, its label kept (R171, R172). -/
def StoreSlot.givenUp (x : StoreSlot) : StoreSlot := { x with state := .invalid, content := none }

/-- A SAVE starts (R171). -/
def startSave (label : Vector Byte 8) (n : Fin 4) (s : State) : State :=
  let given := (s.setLatch false).setStoreSlot n (s.storeSlot n).givenUp
  startStoreOp (.save n) (given.withStore { given.store with saveCopy := some ⟨s.plans.shadow, label⟩ })

/-- STORE SAVE (R171). -/
def execStoreSave (slot : Byte) (label : Vector Byte 8) (crc : Byte) (s : State) :
    Host.Outcome State Fault Refusal :=
  .next
    (takeRequest 0x61 (slot :: label.toList) crc
      (guardedStore slot (labelFits label) fun n s => reply .accepted (startSave label n s)) s)

/-- An ERASE starts (R172). -/
def startErase (n : Fin 4) (s : State) : State :=
  startStoreOp (.erase n) ((s.setLatch false).setStoreSlot n (s.storeSlot n).givenUp)

/-- STORE ERASE (R172). -/
def execStoreErase (slot crc : Byte) (s : State) : Host.Outcome State Fault Refusal :=
  .next
    (takeRequest 0x63 [slot] crc (guardedStore slot true fun n s => reply .accepted (startErase n s)) s)

/-- A LOCK starts on a VALID slot (R170 item 6, R172). -/
def lockSlot (n : Fin 4) (s : State) : Reply :=
  if (s.storeSlot n).state ≠ .valid then refuse .invalid s
  else reply .accepted (startStoreOp (.lock n) (s.setLatch false))

/-- STORE LOCK (R172). -/
def execStoreLock (slot crc : Byte) (s : State) : Host.Outcome State Fault Refusal :=
  .next (takeRequest 0x64 [slot] crc (guardedStore slot true lockSlot) s)

/-- STORE LOAD's effect (R170, R173). -/
def storeLoad (slot : Byte) (s : State) : Reply :=
  match storeSlotOf slot with
  | none => refuse .range s
  | some n =>
    if !s.storeIdle then refuse .busy s
    else if (s.storeSlot n).state ≠ .valid then refuse .invalid s
    else if s.plans.applyPending then refuse .held s
    else reply .accepted (startStoreOp (.load n) s)

/-- STORE LOAD (R173). -/
def execStoreLoad (slot crc : Byte) (s : State) : Host.Outcome State Fault Refusal :=
  .next (takeRequest 0x62 [slot] crc (storeLoad slot) s)

/-- The boot slot of a slot byte: 0 to 3, or FFh for none (12.2). -/
def bootSlotOf (b : Byte) : Option (Option (Fin 4)) :=
  if b = 0xFF then some none else (storeSlotOf b).map some

/-- STORE SET BOOT's effect (R170, R174). -/
def storeSetBoot (slot : Byte) (s : State) : Reply :=
  match bootSlotOf slot with
  | none => refuse .range s
  | some b =>
    if !s.storeIdle then refuse .busy s
    else reply .accepted (startFixtureWrite none (s.withStore { s.store with boot := b }))

/-- STORE SET BOOT (R174). -/
def execStoreSetBoot (slot crc : Byte) (s : State) : Host.Outcome State Fault Refusal :=
  .next (takeRequest 0x65 [slot] crc (storeSetBoot slot) s)

/-! ## The ends of operations -/

/-- The operation is in progress, and the part is not held in reset (log 3). -/
def State.performs (s : State) (op : StoreOp) : Bool :=
  !s.port.resetLow && s.store.state == .busy op

/-- The slot after a SAVE of a copy (R171). -/
def StoreSlot.saved (x : StoreSlot) (copy : Option SaveCopy) (passed : Bool) : StoreSlot :=
  match passed, copy with
  | true, some c => { x with state := .valid, label := c.label, content := some c.plan }
  | _, _ => x

/-- The slot that the SAVE in progress writes, if one is in progress. -/
def State.saving (s : State) : Option (Fin 4) :=
  match s.port.resetLow, s.store.state with
  | false, .busy (.save n) => some n
  | _, _ => none

/-- The slot that the ERASE in progress empties. -/
def State.erasing (s : State) : Option (Fin 4) :=
  match s.port.resetLow, s.store.state with
  | false, .busy (.erase n) => some n
  | _, _ => none

/-- The slot that the LOCK in progress locks. -/
def State.locking (s : State) : Option (Fin 4) :=
  match s.port.resetLow, s.store.state with
  | false, .busy (.lock n) => some n
  | _, _ => none

/-- The slot that the LOAD in progress copies. -/
def State.filling (s : State) : Option (Fin 4) :=
  match s.port.resetLow, s.store.state with
  | false, .busy (.load n) => some n
  | _, _ => none

/-- A SAVE ends (R171). -/
def saveEnd (n : Fin 4) (passed : Bool) (s : State) : State :=
  let written := s.setStoreSlot n ((s.storeSlot n).saved s.store.saveCopy passed)
  endStoreOp (.save n) passed (written.withStore { written.store with saveCopy := none })

/-- SAVE_END (R171). -/
def execSaveEnd (passed : Bool) (s : State) : Host.Outcome State Fault Refusal :=
  .next (match s.saving with
    | some n => saveEnd n passed s
    | none => s)

/-- An ERASE ends: EMPTY with a label of eight spaces, or still INVALID (R172). -/
def eraseEnd (n : Fin 4) (passed : Bool) (s : State) : State :=
  endStoreOp (.erase n) passed (if passed then s.setStoreSlot n StoreSlot.erased else s)

/-- ERASE_END (R172). -/
def execEraseEnd (passed : Bool) (s : State) : Host.Outcome State Fault Refusal :=
  .next (match s.erasing with
    | some n => eraseEnd n passed s
    | none => s)

/-- A LOCK ends: locked on success (R172). -/
def lockEnd (n : Fin 4) (passed : Bool) (s : State) : State :=
  endStoreOp (.lock n) passed
    (if passed then s.setStoreSlot n { s.storeSlot n with locked := true } else s)

/-- LOCK_END (R172). -/
def execLockEnd (passed : Bool) (s : State) : Host.Outcome State Fault Refusal :=
  .next (match s.locking with
    | some n => lockEnd n passed s
    | none => s)

/-- A LOAD ends: the shadow holds the slot's content; a load does not fail (R173). A VALID slot has
content. -/
def loadEnd (n : Fin 4) (s : State) : State :=
  endStoreOp (.load n) true
    (s.withPlans { s.plans with shadow := (s.storeSlot n).content.getD s.plans.shadow })

/-- LOAD_END (R173). -/
def execLoadEnd (s : State) : Host.Outcome State Fault Refusal :=
  .next (match s.filling with
    | some n => loadEnd n s
    | none => s)

/-! ## The end of a fixture record write (R137, R168) -/

/-- The per-range states of every probe change as R137 gives. -/
def settleCalStates (passed : Bool) (s : State) : State :=
  let w := s.registry.calWrite
  allSlots.foldl (fun s n => s.mapProbe n fun e => e.afterWrite w n passed) s

/-- The record a completed write holds (R137, R168). -/
def writtenRecord (s : State) : FixtureRecord where
  probes := Vector.ofFn fun i => storedProbe s.registry.calWrite (i.val + 1) (s.probe (i.val + 1))
  boot := s.store.boot
  valid := true

/-- The fixture record after a write: written whole, or no longer valid (R168). -/
def recordAfter (passed : Bool) (s : State) : FixtureRecord :=
  if passed then writtenRecord s else { s.store.fixture with valid := false }

/-- A write made for calibration is over: a session still WRITING is IDLE with no selection, and CAL is
raised (R137, R168). -/
def releaseSession (s : State) : State :=
  if s.registry.calWrite.isNone then s
  else
    let session := s.registry.session
    let released := if session.state = .writing then Session.reset else session
    raise .cal (s.withRegistry { s.registry with session := released, calWrite := none })

/-- A fixture record write ends (R168). -/
def fixtureWriteEnd (passed : Bool) (s : State) : State :=
  let written := s.withStore { s.store with fixture := recordAfter passed s }
  releaseSession (endStoreOp .fixtureWrite passed (settleCalStates passed written))

/-- FIXTURE_WRITE_END (R168). -/
def execFixtureWriteEnd (passed : Bool) (s : State) : Host.Outcome State Fault Refusal :=
  .next (if s.performs .fixtureWrite then fixtureWriteEnd passed s else s)

end Sys2Proof.Machine
end

