-- ==== Sys2Proof/Machine/CalRequests.lean ====
section
/-! DEFINITION. Machine/CalRequests.lean: CAL SELECT, CAPTURE, ACCEPT and REVERT, and the capture deadline
(R131 to R138). -/

namespace Sys2Proof.Machine

/-- The run is STOPPED and the session is IDLE or HELD (R131, R132, R138). -/
def State.calibrates (s : State) : Bool :=
  s.timer.run == .stopped
    && (s.registry.session.state == .idle || s.registry.session.state == .held)

/-- The selection that the parameters spell; none when the slot set is empty or a byte is outside its
codes (R131, 12.2). -/
def selectionOf (slots : BitVec 24) (kind range quick : Byte) : Option Selection := do
  let k ← CalKind.ofCode kind
  let r ← ProbeRange.ofCode range
  let q ← boolOfCode quick
  if slotsOf slots = [] then none else return ⟨slotsOf slots, k, r, q⟩

/-- A new selection (R131): the session is IDLE and its entries are remade. -/
def Session.selected (x : Selection) : Session := ⟨.idle, some x, x.slots.map CaptureEntry.fresh, none⟩

/-- CAL SELECT's effect (R131). -/
def calSelect (slots : BitVec 24) (kind range quick : Byte) (s : State) : Reply :=
  if !s.calibrates then refuse .state s
  else match selectionOf slots kind range quick with
    | some x => reply .done (s.withSession (Session.selected x))
    | none => refuse .range s

/-- CAL SELECT (R131). -/
def execCalSelect (slots : BitVec 24) (kind range quick crc : Byte) (s : State) :
    Host.Outcome State Fault Refusal :=
  .next
    (takeRequest 0x50 (threeBytes slots ++ [kind, range, quick]) crc (calSelect slots kind range quick) s)

/-- A capture entry still waits for its CALREAD. -/
def Session.waiting (x : Session) : Bool := x.captures.any fun c => c.outstanding

/-- CAL CAPTURE's effect (R132). -/
def calCapture (s : State) : Reply :=
  match s.calibrates, s.registry.session.selection with
  | true, some x =>
    let begun := beginCapture x s
    if begun.registry.session.waiting then reply .accepted begun else reply .done (endCapture begun)
  | _, _ => refuse .state s

/-- CAL CAPTURE (R132). -/
def execCalCapture (crc : Byte) (s : State) : Host.Outcome State Fault Refusal :=
  .next (takeRequest 0x51 [] crc calCapture s)

/-- The session enters WRITING, and the fixture record write begins (R136, R138). -/
def beginCalWrite (w : CalWrite) (s : State) : State :=
  startFixtureWrite (some w) (s.withSession ⟨.writing, none, [], none⟩)

/-- The candidates of the session are put into use and written (R136). -/
def acceptCandidates (x : Selection) (s : State) : State :=
  let captures := s.registry.session.captures
  beginCalWrite ⟨candidateSlots captures, x.affected, .calibrated⟩
    (captures.foldl (fun s c => putCandidate x c s) s)

/-- CAL ACCEPT's effect (R136). -/
def calAccept (s : State) : Reply :=
  match s.registry.session.state, s.registry.session.selection with
  | .held, some x =>
    if candidateSlots s.registry.session.captures = [] then refuse .invalid s
    else if !s.storeIdle then refuse .busy s
    else reply .accepted (acceptCandidates x s)
  | _, _ => refuse .state s

/-- CAL ACCEPT (R136). -/
def execCalAccept (crc : Byte) (s : State) : Host.Outcome State Fault Refusal :=
  .next (takeRequest 0x52 [] crc calAccept s)

/-- The slots and ranges a revert names; none when the set is empty or the byte is outside its codes
(R138, 12.2). -/
def revertOf (slots : BitVec 24) (ranges : Byte) : Option CalWrite :=
  match RangeChoice.ofCode ranges with
  | some r => if slotsOf slots = [] then none else some ⟨slotsOf slots, r, .default⟩
  | none => none

/-- The chosen coefficients become the defaults, and the write begins (R138). -/
def revertCoefficients (w : CalWrite) (s : State) : State :=
  beginCalWrite w
    (w.slots.foldl (fun s n => s.mapProbe n fun e => e.mapCoeff w.ranges fun _ => Coeff.default) s)

/-- CAL REVERT's effect (R138). -/
def calRevert (slots : BitVec 24) (ranges : Byte) (s : State) : Reply :=
  if !s.calibrates then refuse .state s
  else match revertOf slots ranges with
    | none => refuse .range s
    | some w => if !s.storeIdle then refuse .busy s else reply .accepted (revertCoefficients w s)

/-- CAL REVERT (R138). -/
def execCalRevert (slots : BitVec 24) (ranges crc : Byte) (s : State) :
    Host.Outcome State Fault Refusal :=
  .next (takeRequest 0x53 (threeBytes slots ++ [ranges]) crc (calRevert slots ranges) s)

/-- CAPTURE_DEADLINE (R134). -/
def execCaptureDeadline (s : State) : Host.Outcome State Fault Refusal :=
  .next (if s.captureDue then captureDeadlineEvent s else s)

end Sys2Proof.Machine
end

