-- ==== Sys2Proof/Machine/ProbeMessages.lean ====
section
/-! DEFINITION. Machine/ProbeMessages.lean: the messages of the probes and the probe lines
(R43, R45 to R50, R53, R60 to R64, R124, R133, R186). -/

namespace Sys2Proof.Machine

/-! ## The line -/

/-- The probe has sent the latest frame on its line (R43). -/
def hearProbe (n : Nat) (s : State) : State :=
  s.setPortState n { s.portState n with lastFrame := some .probe }

/-- A discarded frame adds 1 to the port's frame-error count (R45). -/
def PortState.countError (p : PortState) : PortState :=
  { p with frameErrors := satInc 65535 p.frameErrors }

/-- A received frame is discarded (R45). -/
def discardFrame (n : Nat) (s : State) : State :=
  let heard := hearProbe n s
  heard.setPortState n (heard.portState n).countError

/-- A message of the probe in slot `n`: one whose fields fail their value check is a discarded frame
(R186); one that the probe's state does not admit is stray (R46); any other is taken. -/
def receive (n : Nat) (checks : Bool) (admits : ProbeState → Bool) (effect : State → State) (s : State) :
    State :=
  if s.port.resetLow then s
  else if !checks then discardFrame n s
  else
    let heard := hearProbe n s
    if admits (heard.probe n).state then effect heard else stray n heard

/-- The states of R46 that admit each kind of message. -/
def ProbeState.configured : ProbeState → Bool
  | .absent => false
  | _ => true

def ProbeState.acknowledges : ProbeState → Bool
  | .syncing => true
  | .inStep => true
  | .lost => true
  | _ => false

def ProbeState.reports : ProbeState → Bool
  | .inStep => true
  | _ => false

def ProbeState.calibrates : ProbeState → Bool
  | .syncing => true
  | _ => false

def ProbeState.asks : ProbeState → Bool
  | .syncing => true
  | .inStep => true
  | _ => false

/-! ## HELLO (R47) -/

/-- Main and aux power of a power flags byte (12.1). -/
def mainOn (power : Byte) : Bool := power.getLsbD 0
def auxOn (power : Byte) : Bool := power.getLsbD 1

/-- The fields a HELLO sets, but for the state and the SETUP (R47). `policy` is the active plan's for the
slot. -/
def ProbeEntry.registered (e : ProbeEntry) (n : Nat) (policy : Policy) (serial : Word)
    (code power : Byte) : ProbeEntry :=
  { e.clearAssignments policy with
    serial := some serial
    geoCode := some code
    codeMismatch := code.toNat != n
    codeChanged := false
    mainPower := mainOn power
    auxPower := auxOn power
    fault := none
    outstanding := none
    syncCount := 0
    missCount := 0 }

/-- The SETUP that a HELLO calls for is sent, or held back until start-up ends (R47, R176). -/
def helloSetup (n : Nat) (s : State) : State :=
  if s.starting then
    (s.mapProbe n fun e => { e with setupOutstanding := true }).withStore
      { s.store with held := s.store.held ++ [.setup n] }
  else sendSetup n s

/-- A message has changed a probe that was in state `before` with power flags `main` and `aux`: a capture
loses a probe that left SYNCING (R134), an exit from IN_STEP and a change of the power flags reach the
Sweep Timer and the Step Engine (R54). -/
def probeChanged (n : Nat) (before : ProbeEntry) (s : State) : State :=
  let now := s.probe n
  let left :=
    if before.state = .syncing ∧ now.state ≠ .syncing then leaveSyncing n s else s
  let exited := before.state = .inStep ∧ now.state ≠ .inStep
  let watched := if exited then leaveInStep false n left else left
  if exited ∨ before.mainPower ≠ now.mainPower ∨ before.auxPower ≠ now.auxPower then examine watched
  else watched

/-- A HELLO is taken (R47). -/
def takeHello (n : Nat) (serial : Word) (code power : Byte) (s : State) : State :=
  probeChanged n (s.probe n)
    (helloSetup n
      (changeState n .unconfigured
        (s.mapProbe n fun e => e.registered n (s.params.policy n) serial code power)))

/-- HELLO (R47). -/
def execHello (port : Port) (serial : Word) (code power : Byte) (s : State) :
    Host.Outcome State Fault Refusal :=
  .next
    (receive (slotOf port) (codeChecks code) (fun _ => true)
      (takeHello (slotOf port) serial code power) s)

/-! ## SETUPACK and MARKACK (R48, R49, R50, R52) -/

/-- A SETUPACK is taken when a SETUP is outstanding, and configures an UNCONFIGURED probe (R48). -/
def takeSetupAck (n : Nat) (s : State) : State :=
  let e := s.probe n
  if !e.setupOutstanding then stray n s
  else
    let acked := s.mapProbe n fun e => { e with setupOutstanding := false }
    if e.state = .unconfigured then
      changeState n .syncing
        (acked.mapProbe n fun e => { e with outstanding := none, syncCount := 0, missCount := 0 })
    else acked

/-- SETUPACK (R48). -/
def execSetupAck (port : Port) (s : State) : Host.Outcome State Fault Refusal :=
  .next (receive (slotOf port) true ProbeState.configured (takeSetupAck (slotOf port)) s)

/-- A probe after a timely MARKACK, but for its state (R49, R50, R52). -/
def ProbeEntry.acked (e : ProbeEntry) : ProbeEntry :=
  { e with
    outstanding := none
    missCount := 0
    syncCount := match e.state with
      | .syncing => e.syncCount + 1
      | .lost => 1
      | _ => e.syncCount }

/-- The state a timely MARKACK takes a probe to (R50, R52). -/
def ProbeEntry.stateAfterAck (e : ProbeEntry) : ProbeState :=
  match e.state with
  | .syncing => if 2 ≤ e.syncCount + 1 then .inStep else .syncing
  | .lost => .syncing
  | st => st

/-- A MARKACK is timely when it answers the outstanding mark, and is stray otherwise (R49). -/
def takeMarkAck (n : Nat) (sweep : Word) (s : State) : State :=
  let e := s.probe n
  if e.outstanding = some sweep then changeState n e.stateAfterAck (s.mapProbe n ProbeEntry.acked)
  else stray n s

/-- MARKACK (R49). -/
def execMarkAck (port : Port) (sweep : Word) (s : State) : Host.Outcome State Fault Refusal :=
  .next (receive (slotOf port) true ProbeState.acknowledges (takeMarkAck (slotOf port) sweep) s)

/-! ## STATUS (R53) -/

/-- The fields a STATUS sets, but for the state (R53). -/
def ProbeEntry.noted (e : ProbeEntry) (power fault code : Byte) : ProbeEntry :=
  { e with
    mainPower := mainOn power
    auxPower := auxOn power
    codeChanged := e.codeChanged || e.geoCode != some code
    fault := if fault = 0 then e.fault else some fault }

/-- A STATUS is taken (R53). -/
def takeStatus (n : Nat) (power fault code : Byte) (s : State) : State :=
  let noted := s.mapProbe n fun e => e.noted power fault code
  probeChanged n (s.probe n) (if fault = 0 then noted else changeState n .faulted noted)

/-- STATUS (R53). -/
def execStatusReport (port : Port) (power fault code : Byte) (s : State) :
    Host.Outcome State Fault Refusal :=
  .next
    (receive (slotOf port) (codeChecks code) ProbeState.configured
      (takeStatus (slotOf port) power fault code) s)

/-! ## Reports (R60 to R62) -/

/-- A report whose tag byte has passed its check (R60). -/
def takeTagged (n : Nat) (tag : Byte) (r : Report) (s : State) : State :=
  match Tag.ofByte tag with
  | some t => takeReport n t r s
  | none => s

/-- DONE (R61). -/
def execDoneReport (port : Port) (tag result : Byte) (s : State) : Host.Outcome State Fault Refusal :=
  .next
    (receive (slotOf port) (doneChecks tag result) ProbeState.reports
      (takeTagged (slotOf port) tag (.drive (result == 1))) s)

/-- READING (R61). -/
def execReadingReport (port : Port) (tag : Byte) (raw errors : Half) (wireOff : Byte) (s : State) :
    Host.Outcome State Fault Refusal :=
  .next
    (receive (slotOf port) (readingChecks tag wireOff) ProbeState.reports
      (takeTagged (slotOf port) tag (.reading raw errors (wireOff == 1))) s)

/-- CONTRES (R61). -/
def execContresReport (port : Port) (tag result position wireOff : Byte) (s : State) :
    Host.Outcome State Fault Refusal :=
  .next
    (receive (slotOf port) (contresChecks tag result position wireOff) ProbeState.reports
      (takeTagged (slotOf port) tag (.contest (result == 1) position.toNat (wireOff == 1))) s)

/-! ## CALREAD, SPOTASK, SPOTDROP (R64, R124, R133) -/

/-- CALREAD (R133). -/
def execCalRead (port : Port) (raw : Half) (s : State) : Host.Outcome State Fault Refusal :=
  .next (receive (slotOf port) true ProbeState.calibrates (takeCalRead (slotOf port) raw) s)

/-- The answer code of SPOTANS (12.1). -/
def Arrival.toByte : Arrival → Byte
  | .accepted => 0
  | .range => 1
  | .state => 2
  | .duplicate => 3
  | .full => 4

/-- The SPOTANS that answers a SPOTASK is handed to the port, or held back until start-up ends
(R64, R176, log 28). -/
def sendSpotAns (n : Nat) (link : Half) (answer : Byte) (s : State) : State :=
  if s.starting then
    s.withStore { s.store with held := s.store.held ++ [.spotAns n link answer] }
  else send n (.spotAns link answer) s

/-- A SPOTASK is handed to the Spot Queue and answered by one SPOTANS (R64, R118), also during start-up,
where that SPOTANS is held back (R176, log 28). -/
def takeSpotAsk (n : Nat) (link : Half) (repeats marker : Byte) (s : State) : State :=
  sendSpotAns n link (s.arrival (some n) link.toNat repeats.toNat).toByte
    (arrive (some n) link.toNat repeats.toNat marker s)

/-- SPOTASK (R64). -/
def execSpotAsk (port : Port) (link : Half) (repeats marker : Byte) (s : State) :
    Host.Outcome State Fault Refusal :=
  .next
    (receive (slotOf port) true ProbeState.asks (takeSpotAsk (slotOf port) link repeats marker) s)

/-- A SPOTDROP cancels the probe's own request for the link (R124). -/
def takeSpotDrop (n : Nat) (link : Half) (s : State) : State :=
  match s.spotFor link.toNat with
  | some r => if r.requester = some n then cancelSpot r s else s
  | none => s

/-- SPOTDROP (R124). -/
def execSpotDrop (port : Port) (link : Half) (s : State) : Host.Outcome State Fault Refusal :=
  .next (receive (slotOf port) true ProbeState.asks (takeSpotDrop (slotOf port) link) s)

/-! ## Frames (R43, R45) -/

/-- FRAME_ERROR: a received frame that fails a check is discarded (R45). The bytes of a frame that passes
every check are no such event (log 13). -/
def execFrameError (port : Port) (frame : List Byte) (s : State) : Host.Outcome State Fault Refusal :=
  .next
    (if s.port.resetLow || frameChecks frame then s else discardFrame (slotOf port) s)

/-- The line is free: the oldest message of the transmit list is sent, unless both ends have a frame
waiting and the part sent the last one (R43, log 14). -/
def PortState.serve (p : PortState) (waiting : Bool) : PortState :=
  match p.transmit with
  | [] => p
  | m :: rest =>
    if waiting && p.lastFrame == some .part then p
    else { p with transmit := rest, lastFrame := some .part, sent := m.frame }

/-- PROBE_FRAME_SEND (R43). No message goes to any probe during start-up (R176). -/
def execProbeFrameSend (port : Port) (waiting : Bool) (s : State) : Host.Outcome State Fault Refusal :=
  .next
    (if s.port.resetLow || s.starting then s
    else s.setPortState (slotOf port) ((s.portState (slotOf port)).serve waiting))

end Sys2Proof.Machine
end

