-- ==== Sys2Proof/Machine/Resets.lean ====
section
/-! DEFINITION. Machine/Resets.lean: the soft reset, the hard reset and start-up (R41, R66, R88, R128,
R139, R154, R175 to R177, R184, R185). -/

namespace Sys2Proof.Machine

/-! ## SOFT RESET -/

/-- A Probe Table entry after a soft reset (R66). `policy` is the active plan's, for a deferred change
(R59). -/
def ProbeEntry.softReset (e : ProbeEntry) (policy : Policy) : ProbeEntry :=
  let cleared := { e.clearAssignments policy with outstanding := none, missCount := 0 }
  if e.state = .inStep ∨ e.state = .syncing then { cleared with state := .syncing, syncCount := 0 }
  else cleared

/-- Every entry takes the soft reset, with no flag and no record (R56, R66). -/
def softResetProbes (s : State) : State :=
  allSlots.foldl (fun s n => s.mapProbe n fun e => e.softReset (s.params.policy n)) s

/-- Every transmit list is emptied (R66). -/
def emptyTransmit (s : State) : State :=
  s.withRegistry { s.registry with
    ports := s.registry.ports.map fun p => { p with transmit := [] } }

/-- The Step Engine after a soft reset: empty, every turn advanced (R88). -/
def StepEngine.softReset (e : StepEngine) : StepEngine where
  table := Vector.replicate 8 none
  turns := e.turns.map fun t => t + 1
  merged := none
  free := none

/-- The blocks but the Probe Registry take the soft reset (R41, R88, R128, R154, R156, R175, R180). The
calibration session is IDLE; a write in progress runs on (R139). -/
def softResetBlocks (s : State) : State :=
  { s with
    timer := SweepTimer.reset
    engine := s.engine.softReset
    spot := []
    router := ⟨ResultQueue.empty, ResultQueue.empty⟩
    plans := { s.plans with applyPending := false }
    store := { s.store with latch := false, lastResult := none }
    port := { s.port with flags := 0 }
    registry := { s.registry with session := Session.reset } }

/-- A soft reset, one event (R184): PARK follows the emptied transmit lists (R66). -/
def softReset (s : State) : State := parkAll (emptyTransmit (softResetProbes (softResetBlocks s)))

/-- SOFT RESET (R184). -/
def execSoftReset (crc : Byte) (s : State) : Host.Outcome State Fault Refusal :=
  .next (takeRequest 0x7F [] crc (fun s => reply .done (softReset s)) s)

/-! ## The hard reset (R175, R185) -/

/-- The store slots as a hard reset leaves them: a LOCK in progress has completed or not, a free value
(R175, log 6). A SAVE or ERASE in progress has its slot INVALID already (R171, R172). -/
def State.slotsAfterCut (s : State) : Vector StoreSlot 4 :=
  match s.store.state with
  | .busy (.lock n) =>
    Tab.put s.store.slots n.val
      { s.storeSlot n with locked := (s.storeSlot n).locked || Config.interruptedLock s.freeCount }
  | _ => s.store.slots

/-- The fixture record as a hard reset leaves it: not valid when a write was in progress (R168, R175). -/
def State.fixtureAfterCut (s : State) : FixtureRecord :=
  match s.store.state with
  | .busy .fixtureWrite => { s.store.fixture with valid := false }
  | _ => s.store.fixture

/-- HARD_RESET (R185): RESET# is low, what is kept through power loss is kept, and CS# is as the station
drives it (log 43). -/
def execHardReset (s : State) : Host.Outcome State Fault Refusal :=
  .next (State.hardReset true s.port.csLow s.slotsAfterCut s.fixtureAfterCut s.pending (s.freeCount + 1))

/-- START_UP_BEGIN: RESET# returns high, and start-up begins (R176); a CS# that is low then stays low until
its transaction, which is not taken, has ended (R185). -/
def execStartUpBegin (s : State) : Host.Outcome State Fault Refusal :=
  .next (if s.port.resetLow then s.withPort { s.port with resetLow := false } else s)

/-! ## The end of start-up (R176, R177) -/

/-- Item 1: a slot whose content is damaged is INVALID; a locked slot is found VALID (R167). -/
def StoreSlot.checked (x : StoreSlot) (damaged : Bool) : StoreSlot :=
  if damaged ∧ x.state = .valid ∧ ¬ x.locked then x.givenUp else x

def checkSlots (damaged : BitVec 4) (slots : Vector StoreSlot 4) : Vector StoreSlot 4 :=
  Vector.ofFn fun i => (slots.get i).checked (damaged.getLsbD i.val)

/-- What the fixture record holds for a slot's probe; a record that is not valid holds the defaults
(R175). -/
def FixtureRecord.probe (f : FixtureRecord) (n : Nat) : StoredProbe :=
  if f.valid then Tab.getSlot StoredProbe.default f.probes n else StoredProbe.default

/-- The boot slot a record gives; none when it is not valid (R175). -/
def FixtureRecord.bootSlot (f : FixtureRecord) : Option (Fin 4) := if f.valid then f.boot else none

/-- A Probe Table entry takes its stored coefficients and states (R176 item 2). -/
def ProbeEntry.load (e : ProbeEntry) (x : StoredProbe) : ProbeEntry :=
  { e with coeffLow := x.coeffLow, coeffHigh := x.coeffHigh, calLow := x.calLow, calHigh := x.calHigh }

/-- The boot result with the shadow and the active plan it gives (R176 items 3 and 4). -/
structure Boot where
  result : BootResult
  shadow : Plan
  active : Plan

/-- The plan of a VALID boot slot, validated under generation 0 (R176). -/
def bootPlan (p : Plan) : Boot :=
  match p.validate 0 with
  | none => ⟨.loaded, p, p⟩
  | some _ => ⟨.planInvalid, p, Plan.empty⟩

/-- The plan chosen at start-up (R176 items 3 and 4). -/
def chooseBoot (boot : Option (Fin 4)) (slots : Vector StoreSlot 4) : Boot :=
  match boot with
  | none => ⟨.none, Plan.empty, Plan.empty⟩
  | some n =>
    match (slots.get n).state, (slots.get n).content with
    | .valid, some p => bootPlan p
    | _, _ => ⟨.slotNotValid, Plan.empty, Plan.empty⟩

/-- Items 1 to 4: the store and Plan Memory after start-up's checks. -/
def loadStore (damaged : BitVec 4) (s : State) : State :=
  let slots := checkSlots damaged s.store.slots
  let boot := s.store.fixture.bootSlot
  let chosen := chooseBoot boot slots
  (s.withStore { s.store with slots := slots, boot := boot, bootResult := some chosen.result }).withPlans
    ⟨chosen.active, chosen.shadow, false, 0⟩

/-- Items 2 and 5 at one slot: coefficients, calibration states and the pile-up policy. -/
def loadProbe (n : Nat) (s : State) : State :=
  s.mapProbe n fun e =>
    { e.load (s.store.fixture.probe n) with policy := s.params.policy n }

/-- Item 5: the blocks take the active plan; every link is UNTESTED (R90). -/
def loadBlocks (s : State) : State :=
  let loaded := allSlots.foldl (fun s n => loadProbe n s) s
  { loaded with links := Vector.replicate 512 (LinkRecord.fresh 0) }

/-- A message held back is handed to its port (R176). -/
def sendHeld (m : HeldMessage) (s : State) : State :=
  match m with
  | .setup n => sendSetup n s
  | .spotAns n link answer => send n (.spotAns link answer) s

/-- The messages held back are handed to their ports, in the order held (R176, log 28). -/
def releaseHeld (s : State) : State :=
  s.store.held.foldl (fun s m => sendHeld m s) (s.withStore { s.store with held := [] })

/-- Start-up ends (R176): items 1 to 6 in order. -/
def startUpEnd (damaged : BitVec 4) (s : State) : State :=
  let set := releaseHeld (loadBlocks (loadStore damaged s))
  raise .store (set.withStore { set.store with state := .idle })

/-- START_UP_END (R176). -/
def execStartUpEnd (damaged : BitVec 4) (s : State) : Host.Outcome State Fault Refusal :=
  .next (if s.starting && !s.port.resetLow then startUpEnd damaged s else s)

end Sys2Proof.Machine
end

