-- ==== Sys2Proof/Machine/RunRequests.lean ====
section
/-! DEFINITION. Machine/RunRequests.lean: RUN START, PAUSE, RESUME, STOP and ABORT (R26 to R34). -/

namespace Sys2Proof.Machine

/-! ## RUN START (R26) -/

/-- The calibration session lets a run start (R26 item 3). -/
def SessionState.allowsRun : SessionState → Bool
  | .idle => true
  | .held => true
  | .capturing => false
  | .writing => false

/-- Every defined link is cleared when the fresh option is set (R26, R94). -/
def freshClear (fresh : Byte) (s : State) : State := if fresh = 1 then clearAllLinks s else s

/-- A run begins: any selection and candidates are discarded, the links are cleared with the fresh option,
health becomes CLEAR, and the first sweep start is taken (R26, R135). -/
def beginRun (fresh : Byte) (s : State) : State :=
  firstSweep (setHealth .clear (freshClear fresh (s.withSession Session.reset)))

/-- RUN START's effect (R26). -/
def runStart (fresh : Byte) (s : State) : Reply :=
  if 1 < fresh.toNat then refuse .range s
  else if s.timer.run ≠ .stopped then refuse .state s
  else if !s.registry.session.state.allowsRun then refuse .state s
  else if s.active.count = 0 then refuse .invalid s
  else reply .done (beginRun fresh s)

/-- RUN START (R26). -/
def execRunStart (fresh crc : Byte) (s : State) : Host.Outcome State Fault Refusal :=
  .next (takeRequest 0x20 [fresh] crc (runStart fresh) s)

/-! ## RUN PAUSE and RUN RESUME (R29, R31) -/

/-- RUN PAUSE's effect (R29, R30). -/
def runPause (s : State) : Reply :=
  if s.timer.run ≠ .running then refuse .state s
  else if s.tableEmpty then reply .done (enterPaused (s.setRun .pausing))
  else reply .accepted (s.setRun .pausing)

/-- RUN PAUSE (R29). -/
def execRunPause (crc : Byte) (s : State) : Host.Outcome State Fault Refusal :=
  .next (takeRequest 0x21 [] crc runPause s)

/-- RUN RESUME's effect (R31). -/
def runResume (s : State) : Reply :=
  if s.timer.run ≠ .paused then refuse .state s else reply .done (resumeSweep s)

/-- RUN RESUME (R31). -/
def execRunResume (crc : Byte) (s : State) : Host.Outcome State Fault Refusal :=
  .next (takeRequest 0x22 [] crc runResume s)

/-! ## RUN STOP (R32) -/

/-- Whether RUN STOP is taken in a run state (R32). -/
def RunState.canStop : RunState → Bool
  | .stopped => false
  | .stopping => false
  | _ => true

/-- RUN STOP's effect (R32). -/
def runStop (s : State) : Reply :=
  if !s.timer.run.canStop then refuse .state s
  else if s.tableEmpty then reply .done (enterStopped s)
  else reply .accepted (s.setRun .stopping)

/-- RUN STOP (R32). -/
def execRunStop (crc : Byte) (s : State) : Host.Outcome State Fault Refusal :=
  .next (takeRequest 0x23 [] crc runStop s)

/-! ## RUN ABORT (R34, R87) -/

/-- Every open step is discarded without closure: assignments cleared, the pending list emptied without
records, the spot request in flight handed back (R87, R127). -/
def discardOpenSteps (s : State) : State :=
  discardWindows (spotHandBack (clearAllAssignments (emptyTable s)))

/-- RUN ABORT's effect (R34). -/
def runAbort (s : State) : Reply :=
  if s.timer.run = .stopped then refuse .state s
  else reply .done (enterStopped (discardOpenSteps s))

/-- RUN ABORT (R34). -/
def execRunAbort (crc : Byte) (s : State) : Host.Outcome State Fault Refusal :=
  .next (takeRequest 0x24 [] crc runAbort s)

end Sys2Proof.Machine
end

