-- ==== Sys2Proof/Machine/TimeEvents.lean ====
section
/-! DEFINITION. Machine/TimeEvents.lean: the commands that the clock brings: sweep starts, marks,
deadlines and the fixture-time limit. One that is not due has no effect (log 3). -/

namespace Sys2Proof.Machine

/-- SWEEP_START (R25). -/
def execSweepStart (s : State) : Host.Outcome State Fault Refusal :=
  .next (if s.sweepStartDue then sweepStart s else s)

/-- TIMED_MARK (R70). -/
def execTimedMark (index : Nat) (s : State) : Host.Outcome State Fault Refusal :=
  .next (if s.kindReached index .timed then timedMark index s else s)

/-- MERGED_MARK (R73). -/
def execMergedMark (index : Nat) (s : State) : Host.Outcome State Fault Refusal :=
  .next (if s.kindReached index .merged then mergedMark index s else s)

/-- MARK_ENTRY (R16). -/
def execMarkEntry (index : Nat) (s : State) : Host.Outcome State Fault Refusal :=
  .next (if s.kindReached index .mark then markEntry index s else s)

/-- FREE_ENTRY (R19). -/
def execFreeEntry (index : Nat) (s : State) : Host.Outcome State Fault Refusal :=
  .next (if s.kindReached index .free then freeEntry index s else s)

/-- DEADLINE (R82). -/
def execDeadline (slot : Fin 8) (turn : BitVec 4) (s : State) : Host.Outcome State Fault Refusal :=
  .next (deadlineEvent slot turn s)

/-- FIXTURE_TIME_LIMIT (R35). -/
def execFixtureTimeLimit (s : State) : Host.Outcome State Fault Refusal :=
  .next (if s.limitReached then limitEvent s else s)

end Sys2Proof.Machine
end

