-- ==== Sys2Proof/Machine/Dispatch.lean ====
section
/-! DEFINITION. Machine/Dispatch.lean: the meaning of every command, one arm per constructor. -/

namespace Sys2Proof.Machine

/-- The effect of a command on everything but the queue. -/
def exec (i : Instr) (s : State) : Host.Outcome State Fault Refusal :=
  match i with
  | .statusRead crc => Sys2Proof.Machine.execStatusRead crc s
  | .capabilityRead crc => Sys2Proof.Machine.execCapabilityRead crc s
  | .shadowWrite target index content crc => Sys2Proof.Machine.execShadowWrite target index content crc s
  | .shadowRead target index crc => Sys2Proof.Machine.execShadowRead target index crc s
  | .activeRead target index crc => Sys2Proof.Machine.execActiveRead target index crc s
  | .shadowClear crc => Sys2Proof.Machine.execShadowClear crc s
  | .liveEdit target index content crc => Sys2Proof.Machine.execLiveEdit target index content crc s
  | .applyPlan crc => Sys2Proof.Machine.execApply crc s
  | .applyCancel crc => Sys2Proof.Machine.execApplyCancel crc s
  | .runStart fresh crc => Sys2Proof.Machine.execRunStart fresh crc s
  | .runPause crc => Sys2Proof.Machine.execRunPause crc s
  | .runResume crc => Sys2Proof.Machine.execRunResume crc s
  | .runStop crc => Sys2Proof.Machine.execRunStop crc s
  | .runAbort crc => Sys2Proof.Machine.execRunAbort crc s
  | .linkRead link crc => Sys2Proof.Machine.execLinkRead link crc s
  | .linkClear link crc => Sys2Proof.Machine.execLinkClear link crc s
  | .linkWithdraw link crc => Sys2Proof.Machine.execLinkWithdraw link crc s
  | .linkRestore link crc => Sys2Proof.Machine.execLinkRestore link crc s
  | .probeRead slot crc => Sys2Proof.Machine.execProbeRead slot crc s
  | .queuePop queue crc => Sys2Proof.Machine.execQueuePop queue crc s
  | .queueStatus queue crc => Sys2Proof.Machine.execQueueStatus queue crc s
  | .queueFlush queue crc => Sys2Proof.Machine.execQueueFlush queue crc s
  | .spotRequest link repeats marker crc => Sys2Proof.Machine.execSpotRequest link repeats marker crc s
  | .spotCancel link crc => Sys2Proof.Machine.execSpotCancel link crc s
  | .spotList crc => Sys2Proof.Machine.execSpotList crc s
  | .calSelect slots kind range quick crc => Sys2Proof.Machine.execCalSelect slots kind range quick crc s
  | .calCapture crc => Sys2Proof.Machine.execCalCapture crc s
  | .calAccept crc => Sys2Proof.Machine.execCalAccept crc s
  | .calRevert slots ranges crc => Sys2Proof.Machine.execCalRevert slots ranges crc s
  | .storeWriteEnable crc => Sys2Proof.Machine.execStoreWriteEnable crc s
  | .storeSave slot label crc => Sys2Proof.Machine.execStoreSave slot label crc s
  | .storeErase slot crc => Sys2Proof.Machine.execStoreErase slot crc s
  | .storeLock slot crc => Sys2Proof.Machine.execStoreLock slot crc s
  | .storeLoad slot crc => Sys2Proof.Machine.execStoreLoad slot crc s
  | .storeSetBoot slot crc => Sys2Proof.Machine.execStoreSetBoot slot crc s
  | .attnEnable set crc => Sys2Proof.Machine.execAttnEnable set crc s
  | .attnClear set crc => Sys2Proof.Machine.execAttnClear set crc s
  | .softReset crc => Sys2Proof.Machine.execSoftReset crc s
  | .unknownCommand command next => Sys2Proof.Machine.execUnknownCommand command next s
  | .hello port serial code power => Sys2Proof.Machine.execHello port serial code power s
  | .setupAck port => Sys2Proof.Machine.execSetupAck port s
  | .markAck port sweep => Sys2Proof.Machine.execMarkAck port sweep s
  | .statusReport port power fault code => Sys2Proof.Machine.execStatusReport port power fault code s
  | .doneReport port tag result => Sys2Proof.Machine.execDoneReport port tag result s
  | .readingReport port tag raw errors wireOff => Sys2Proof.Machine.execReadingReport port tag raw errors wireOff s
  | .contresReport port tag result position wireOff => Sys2Proof.Machine.execContresReport port tag result position wireOff s
  | .calRead port raw => Sys2Proof.Machine.execCalRead port raw s
  | .spotAsk port link repeats marker => Sys2Proof.Machine.execSpotAsk port link repeats marker s
  | .spotDrop port link => Sys2Proof.Machine.execSpotDrop port link s
  | .frameError port frame => Sys2Proof.Machine.execFrameError port frame s
  | .probeFrameSend port waiting => Sys2Proof.Machine.execProbeFrameSend port waiting s
  | .sweepStart => Sys2Proof.Machine.execSweepStart s
  | .timedMark index => Sys2Proof.Machine.execTimedMark index s
  | .mergedMark index => Sys2Proof.Machine.execMergedMark index s
  | .markEntry index => Sys2Proof.Machine.execMarkEntry index s
  | .freeEntry index => Sys2Proof.Machine.execFreeEntry index s
  | .deadline slot turn => Sys2Proof.Machine.execDeadline slot turn s
  | .fixtureTimeLimit => Sys2Proof.Machine.execFixtureTimeLimit s
  | .captureDeadline => Sys2Proof.Machine.execCaptureDeadline s
  | .saveEnd passed => Sys2Proof.Machine.execSaveEnd passed s
  | .eraseEnd passed => Sys2Proof.Machine.execEraseEnd passed s
  | .lockEnd passed => Sys2Proof.Machine.execLockEnd passed s
  | .loadEnd => Sys2Proof.Machine.execLoadEnd s
  | .fixtureWriteEnd passed => Sys2Proof.Machine.execFixtureWriteEnd passed s
  | .hardReset => Sys2Proof.Machine.execHardReset s
  | .startUpBegin => Sys2Proof.Machine.execStartUpBegin s
  | .startUpEnd damaged => Sys2Proof.Machine.execStartUpEnd damaged s

end Sys2Proof.Machine
end

