-- ==== Sys2Proof/Machine/Idle.lean ====
section
/-! DEFINITION. Machine/Idle.lean: what the part does when no command waits: it takes an event that is due,
and else one tick passes (logs 1, 2, 5). -/

namespace Sys2Proof.Machine

/-- The limit, when the next tick reaches it (R35). -/
def State.dueLimit (s : State) : List Instr := if s.limitReached then [.fixtureTimeLimit] else []

/-- The deadlines that have come (R82). -/
def State.dueDeadlines (s : State) : List Instr :=
  tableSlots.filterMap fun k =>
    match s.openAt k with
    | some o => if !s.port.resetLow && s.deadlineReached o then some (.deadline k (s.turn k)) else none
    | none => none

/-- The sweep start, when the sweep length has been reached (R25). -/
def State.dueSweep (s : State) : List Instr := if s.sweepStartDue then [.sweepStart] else []

/-- The command that brings the mark of a step of a timing kind. -/
def TimingKind.event (k : TimingKind) (i : Nat) : Instr :=
  match k with
  | .timed => .timedMark i
  | .merged => .mergedMark i
  | .mark => .markEntry i
  | .free => .freeEntry i

/-- The mark that is reached now (R2). -/
def State.dueMark (s : State) : List Instr :=
  if s.markReached s.timer.nextStep then
    [(s.active.step s.timer.nextStep).kind.event s.timer.nextStep]
  else []

/-- The capture deadline, when it has come (R134). -/
def State.dueCapture (s : State) : List Instr := if s.captureDue then [.captureDeadline] else []

/-- The end of a store operation, with free results (R171 to R176, log 5). -/
def StoreState.ending (st : StoreState) (choice : Nat) : List Instr :=
  match st with
  | .idle => []
  | .starting => [.startUpEnd (Config.slotDamage choice)]
  | .busy (.save _) => [.saveEnd (Config.storeVerify choice)]
  | .busy (.erase _) => [.eraseEnd (Config.storeVerify choice)]
  | .busy (.lock _) => [.lockEnd (Config.storeVerify choice)]
  | .busy (.load _) => [.loadEnd]
  | .busy .fixtureWrite => [.fixtureWriteEnd (Config.storeVerify choice)]

/-- The store operation in progress has run to its latest time. -/
def State.dueStore (s : State) : List Instr :=
  if !s.port.resetLow && s.store.latestEnd ≤ s.clock then s.store.state.ending s.freeCount else []

/-- The events that are due now. -/
def State.dueEvents (s : State) : List Instr :=
  s.dueLimit ++ s.dueDeadlines ++ s.dueSweep ++ s.dueMark ++ s.dueCapture ++ s.dueStore

/-- No command waits: an event that is due is taken, which one being a free value, and with none due one
tick passes (log 1). -/
def idle (s : State) : Host.Outcome State Fault Refusal :=
  match s.dueEvents with
  | [] => .next (tick s)
  | c :: cs => exec (freePick (Config.eventChoice s.freeCount) c cs) s.bump

end Sys2Proof.Machine
end

