-- ==== Sys2Proof/Machine/Step.lean ====
section
/-! DEFINITION. Machine/Step.lean: one step, and a command put in front of the queue. -/

namespace Sys2Proof.Machine

/-- The state with its queue replaced. -/
def State.withPending (s : State) (q : List Instr) : State := { s with pending := q }

/-- One step: the command at the front of the queue, or the part's own clock (log 1). -/
def step (s : State) : Host.Outcome State Fault Refusal :=
  match s.pending with
  | [] => idle s
  | c :: rest => exec c (s.withPending rest)

/-- The state with the command that a word spells in front of its queue; a word that spells none changes
nothing. -/
def State.withFetchWord (s : State) (nbits w : Nat) : State :=
  match decodeTableWord nbits w with
  | some c => s.withPending (c :: s.pending)
  | none => s

end Sys2Proof.Machine
end

