-- ==== Sys2Proof/Machine/Wire.lean ====
section
/-! DEFINITION. Machine/Wire.lean: the bytes a station request and a probe message stand for on their
ports (12.1, 12.2). -/

namespace Sys2Proof

open Machine

/-- A request as clocked in: command byte, parameter bytes, CRC-8 (R178). -/
structure Request where
  command : Byte
  params : List Byte
  crc : Byte
  deriving DecidableEq, Repr

/-- The request of a command; none for the commands that are no station request. UNKNOWN_COMMAND names no
request. -/
def Instr.request : Instr → Option Request
  | .statusRead crc => some ⟨0x01, [], crc⟩
  | .capabilityRead crc => some ⟨0x02, [], crc⟩
  | .shadowWrite target index content crc =>
    some ⟨0x10, target :: halfBytes index ++ content.toList, crc⟩
  | .shadowRead target index crc => some ⟨0x11, target :: halfBytes index, crc⟩
  | .activeRead target index crc => some ⟨0x12, target :: halfBytes index, crc⟩
  | .shadowClear crc => some ⟨0x13, [], crc⟩
  | .liveEdit target index content crc =>
    some ⟨0x14, target :: halfBytes index ++ content.toList, crc⟩
  | .applyPlan crc => some ⟨0x15, [], crc⟩
  | .applyCancel crc => some ⟨0x16, [], crc⟩
  | .runStart fresh crc => some ⟨0x20, [fresh], crc⟩
  | .runPause crc => some ⟨0x21, [], crc⟩
  | .runResume crc => some ⟨0x22, [], crc⟩
  | .runStop crc => some ⟨0x23, [], crc⟩
  | .runAbort crc => some ⟨0x24, [], crc⟩
  | .linkRead link crc => some ⟨0x30, halfBytes link, crc⟩
  | .linkClear link crc => some ⟨0x31, halfBytes link, crc⟩
  | .linkWithdraw link crc => some ⟨0x32, halfBytes link, crc⟩
  | .linkRestore link crc => some ⟨0x33, halfBytes link, crc⟩
  | .probeRead slot crc => some ⟨0x34, [slot], crc⟩
  | .queuePop queue crc => some ⟨0x40, [queue], crc⟩
  | .queueStatus queue crc => some ⟨0x41, [queue], crc⟩
  | .queueFlush queue crc => some ⟨0x42, [queue], crc⟩
  | .spotRequest link repeats marker crc => some ⟨0x48, halfBytes link ++ [repeats, marker], crc⟩
  | .spotCancel link crc => some ⟨0x49, halfBytes link, crc⟩
  | .spotList crc => some ⟨0x4A, [], crc⟩
  | .calSelect slots kind range quick crc =>
    some ⟨0x50, threeBytes slots ++ [kind, range, quick], crc⟩
  | .calCapture crc => some ⟨0x51, [], crc⟩
  | .calAccept crc => some ⟨0x52, [], crc⟩
  | .calRevert slots ranges crc => some ⟨0x53, threeBytes slots ++ [ranges], crc⟩
  | .storeWriteEnable crc => some ⟨0x60, [], crc⟩
  | .storeSave slot label crc => some ⟨0x61, slot :: label.toList, crc⟩
  | .storeErase slot crc => some ⟨0x63, [slot], crc⟩
  | .storeLock slot crc => some ⟨0x64, [slot], crc⟩
  | .storeLoad slot crc => some ⟨0x62, [slot], crc⟩
  | .storeSetBoot slot crc => some ⟨0x65, [slot], crc⟩
  | .attnEnable set crc => some ⟨0x70, halfBytes set, crc⟩
  | .attnClear set crc => some ⟨0x71, halfBytes set, crc⟩
  | .softReset crc => some ⟨0x7F, [], crc⟩
  | _ => none

/-- The number of parameter bytes of a request's command byte (12.2). -/
def parameterLength (command : Byte) : Option Nat :=
  match command.toNat with
  | 0x01 => some 0
  | 0x02 => some 0
  | 0x10 => some 51
  | 0x11 => some 3
  | 0x12 => some 3
  | 0x13 => some 0
  | 0x14 => some 17
  | 0x15 => some 0
  | 0x16 => some 0
  | 0x20 => some 1
  | 0x21 => some 0
  | 0x22 => some 0
  | 0x23 => some 0
  | 0x24 => some 0
  | 0x30 => some 2
  | 0x31 => some 2
  | 0x32 => some 2
  | 0x33 => some 2
  | 0x34 => some 1
  | 0x40 => some 1
  | 0x41 => some 1
  | 0x42 => some 1
  | 0x48 => some 4
  | 0x49 => some 2
  | 0x4A => some 0
  | 0x50 => some 6
  | 0x51 => some 0
  | 0x52 => some 0
  | 0x53 => some 4
  | 0x60 => some 0
  | 0x61 => some 9
  | 0x62 => some 1
  | 0x63 => some 1
  | 0x64 => some 1
  | 0x65 => some 1
  | 0x70 => some 2
  | 0x71 => some 2
  | 0x7F => some 0
  | _ => none

/-- A probe message: its port, kind byte and payload (12.1). -/
structure ProbeMessage where
  port : Port
  kind : Byte
  payload : List Byte
  deriving DecidableEq, Repr

/-- The message a command stands for; none for the commands that are no probe message. -/
def Instr.message : Instr → Option ProbeMessage
  | .hello port serial code power => some ⟨port, 0x81, wordBytes serial ++ [code, power]⟩
  | .setupAck port => some ⟨port, 0x82, []⟩
  | .markAck port sweep => some ⟨port, 0x83, wordBytes sweep⟩
  | .doneReport port tag result => some ⟨port, 0x84, [tag, result]⟩
  | .readingReport port tag raw errors wireOff =>
    some ⟨port, 0x85, [tag] ++ halfBytes raw ++ halfBytes errors ++ [wireOff]⟩
  | .contresReport port tag result position wireOff =>
    some ⟨port, 0x86, [tag, result, position, wireOff]⟩
  | .calRead port raw => some ⟨port, 0x87, halfBytes raw⟩
  | .statusReport port power fault code => some ⟨port, 0x88, [power, fault, code]⟩
  | .spotAsk port link repeats marker => some ⟨port, 0x89, halfBytes link ++ [repeats, marker]⟩
  | .spotDrop port link => some ⟨port, 0x8A, halfBytes link⟩
  | _ => none

end Sys2Proof
end

