-- ==== Sys2Proof/WellFormed.lean ====
section
/-! DEFINITION. WellFormed.lean: the commands that can reach the part: a request byte and a frame mean what
their row says, and an index names an entry. -/

namespace Sys2Proof

open Machine

/-- The command is one that can arise (12.1, 12.2, R1, R45, R179, R186). -/
def Instr.wellFormed : Instr → Bool
  | .unknownCommand command _ => !namesRequest command
  | .hello _ _ code _ => codeChecks code
  | .statusReport _ _ _ code => codeChecks code
  | .doneReport _ tag result => doneChecks tag result
  | .readingReport _ tag _ _ wireOff => readingChecks tag wireOff
  | .contresReport _ tag result position wireOff => contresChecks tag result position wireOff
  | .frameError _ frame => !frameChecks frame
  | .timedMark index => index < 512
  | .mergedMark index => index < 512
  | .markEntry index => index < 512
  | .freeEntry index => index < 512
  | _ => true

end Sys2Proof
end

