-- ==== Sys2Proof/Safety.lean ====
section
/-! DEFINITION. Safety.lean: the conditions that the statements about the part are made under, and the
invariants that its steps keep. -/

namespace Sys2Proof.Machine

/-- The port takes transactions: RESET# is high, and CS# is high before the transaction (R178, R185). -/
def State.listens (s : State) : Bool := !s.port.resetLow && !s.port.csLow

/-- The port takes requests of every kind: it takes transactions and start-up has ended (R179). -/
def State.serves (s : State) : Bool := s.listens && !s.starting

/-- The message that a held message becomes at the port of slot `n` when start-up ends (R176). -/
def HeldMessage.messageFor (p : Params) (n : Nat) : HeldMessage → Option Message
  | .setup k => if k = n then some (.setup (p.policy n) p.parkMode) else none
  | .spotAns k link answer => if k = n then some (.spotAns link answer) else none

/-- A step goes on to a next state. -/
def goesOn (o : Host.Outcome State Fault Refusal) : Prop := ∃ t, o = .next t

/-! ## Closures -/

/-- The report that a command carries, none when its fields fail their value check (R60, R186). -/
def reportOf : Instr → Option (Port × Tag × Report)
  | .doneReport port tag result =>
    if doneChecks tag result then (Tag.ofByte tag).map fun t => (port, t, .drive (result == 1))
    else none
  | .readingReport port tag raw errors wireOff =>
    if readingChecks tag wireOff then
      (Tag.ofByte tag).map fun t => (port, t, .reading raw errors (wireOff == 1))
    else none
  | .contresReport port tag result position wireOff =>
    if contresChecks tag result position wireOff then
      (Tag.ofByte tag).map fun t => (port, t, .contest (result == 1) position.toNat (wireOff == 1))
    else none
  | _ => none

/-- How bad a group is, the worst first (R101). -/
def OutcomeGroup.rank : OutcomeGroup → Nat
  | .openGroup => 0
  | .fail => 1
  | .margin => 2
  | .pass => 3
  | _ => 4

/-- A quiet check of a report is taken and gives this outcome and activity: the report can be judged, and the
quiet link is neither redefined since the step of this generation started nor withdrawn (R100, R106). -/
def State.takesQuietCheck (s : State) (generation id cls n : Nat) (raw : Half) (wireOff : Bool)
    (outcome : TestOutcome) (a : Int) : Prop :=
  s.linkDefined id = true ∧ (s.link id).definedIn ≤ generation ∧ (s.link id).withdrawn = false
    ∧ judgeQuiet (s.active.cls cls) (s.probe n) raw wireOff = some (outcome, a)

/-- What the closure of step `o` with outcome `f`, taken in `s`, makes of the links (R103, R104, R106, R109,
R110): the test link is judged unless the step was withdrawn while open or its link redefined; the link of a
quiet listener is checked when its report can be judged; no other link changes. -/
def State.closureMovesLinks (s t : State) (o : OpenStep) (f : Finding) : Prop :=
  let checks := o.form = .driven ∧ f.outcome ≠ .voidTalker
  let checked := fun id => checks ∧ ∃ p ∈ o.participants, p.role = .quiet ∧ p.quietLink = some id
  (∀ id, ¬ checked id → id ≠ o.testLink → t.link id = s.link id)
    ∧ (¬ checked o.testLink → f.outcome = .voidRedefined ∨ o.withdrawn = true →
      t.link o.testLink = s.link o.testLink)
    ∧ (¬ checked o.testLink → f.outcome ≠ .voidRedefined → o.withdrawn = false →
      t.link o.testLink = (s.link o.testLink).judged
        (s.active.cls (s.active.link o.testLink).cls.toNat) f o.source s.timer.sweepNumber
        s.timer.sweepTime)
    ∧ (checks → (o.participants.map Participant.slot).Nodup →
      ∀ p ∈ o.participants, ∀ id cls raw errors wireOff,
        p = ⟨p.slot, .quiet, some cls, some id, p.code, p.state, some (.reading raw errors wireOff)⟩ →
        id ≠ o.testLink → (∀ x ∈ o.participants, x.role = .quiet → x.quietLink = some id → x = p) →
        (∀ outcome a, s.takesQuietCheck o.generation id cls p.slot raw wireOff outcome a →
          t.link id = (s.link id).checked outcome a o.testLink o.source s.timer.sweepNumber
            s.timer.sweepTime)
        ∧ ((¬ ∃ outcome a, s.takesQuietCheck o.generation id cls p.slot raw wireOff outcome a) →
          t.link id = s.link id))

/-- What the closure of step `o` with tag `k` and outcome `f` makes of the Spot Queue (R116, R121): the request
in flight with that tag is counted, unless the step was withdrawn while open, and leaves when an end is pending
or no repeat remains. -/
def State.closureMovesSpot (s t : State) (k : Tag) (o : OpenStep) (f : Finding) : Prop :=
  ((∃ i, o.source = .step i) → t.spot = s.spot)
    ∧ ∀ r after, o.source = .spot → s.spot.find? (fun q => q.inFlight == some k) = some r →
      after = (if o.withdrawn = true then { r with inFlight := none }
        else { r with
          inFlight := none
          repeats := r.repeats - 1
          tallies :=
            ⟨r.tallies.inRange + (if f.outcome.group = .pass then 1 else 0),
              r.tallies.margin + (if f.outcome.group = .margin then 1 else 0),
              r.tallies.fail
                + (if f.outcome.group = .fail ∨ f.outcome.group = .openGroup then 1 else 0),
              r.tallies.void + (if f.outcome.group = .void then 1 else 0)⟩ }) →
      (r.endPending ≠ none ∨ after.repeats = 0 →
        t.spot = s.spot.filter (fun q => q.link != r.link) ∧ t.port.isSet .spot = true)
      ∧ (r.endPending = none → after.repeats ≠ 0 →
        t.spot = s.spot.map (fun q => if q.link = r.link then after else q))

/-! ## Invariants -/

/-- Every list of the part is within its room: result queues 64 records, Spot Queue 8 requests, pending
list 3 steps, transmit lists 16 messages (R43, R73, R117, R147). -/
def State.withinCapacity (s : State) : Prop :=
  s.router.q0.records.length ≤ 64 ∧ s.router.q1.records.length ≤ 64 ∧ s.spot.length ≤ 8
    ∧ s.pendingSteps.length ≤ 3 ∧ ∀ n, (s.portState n).transmit.length ≤ 16

/-- The slots an operation in progress changes are not locked, and a LOCK works on a VALID slot
(R170, R171, R172). -/
def PlanStore.sparesLocked (x : PlanStore) : Prop :=
  match x.state with
  | .busy (.save n) => (x.slots.get n).locked = false
  | .busy (.erase n) => (x.slots.get n).locked = false
  | .busy (.lock n) => (x.slots.get n).locked = false ∧ (x.slots.get n).state = .valid
  | _ => True

/-- Every locked slot is VALID, and the operation in progress spares the locked slots (R167). -/
def PlanStore.locksHold (x : PlanStore) : Prop :=
  (∀ n, (x.slots.get n).locked = true → (x.slots.get n).state = .valid) ∧ x.sparesLocked

end Sys2Proof.Machine
end

