-- ==== Sys2Proof/Certificates/Slice0/Obligations.lean ====
section
/-! DEFINITION. Obligations.lean: the statements about the part. `exec c s` is the effect of command `c`;
a request is written with the CRC-8 that checks, `requestCrc`. -/

open Sys2Proof Sys2Proof.Machine

/-! ## Steps -/

/-- A step takes the command at the front of the queue (the model's queue, log 1). -/
def Obligations.StepRunsTheFrontCommand : Prop :=
  ∀ (c : Instr) (rest : List Instr) (s : State),
    s.pending = c :: rest → step s = exec c (s.withPending rest)

/-- An empty queue with nothing due: one tick of the clock, which moves the two times, makes the sweep start
due when sweep time would reach the sweep length, and moves nothing else (R21, R22; that an idle step is a
tick is the model's choice, log 1, and where sweep time stands then log 4). -/
def Obligations.IdleStepIsOneTick : Prop :=
  ∀ s : State, s.pending = [] → s.dueEvents = [] →
    (s.port.resetLow = true → step s = .next s)
    ∧ (s.port.resetLow = false →
      ∃ t, step s = .next t
        ∧ t.clock = s.clock + 1
        ∧ t.timer.fixtureTime
            = (if s.timerRuns = true ∧ s.timer.fixtureTime < 4294967295 then s.timer.fixtureTime + 1
              else s.timer.fixtureTime)
        ∧ t.timer.sweepTime
            = (if s.timerRuns = true ∧ s.timer.fixtureTime < 4294967295 ∧ s.timer.sweepActive = true
                  ∧ s.timer.sweepEndDue = false
                  ∧ s.timer.sweepTime + 1 < s.params.sweepLength.toNat then s.timer.sweepTime + 1
              else s.timer.sweepTime)
        ∧ (t.timer.sweepEndDue = true ↔ s.timer.sweepEndDue = true
            ∨ (s.timerRuns = true ∧ s.timer.fixtureTime < 4294967295 ∧ s.timer.sweepActive = true
              ∧ s.params.sweepLength.toNat ≤ s.timer.sweepTime + 1))
        ∧ t.timer = { s.timer with
            fixtureTime := t.timer.fixtureTime, sweepTime := t.timer.sweepTime,
            sweepEndDue := t.timer.sweepEndDue }
        ∧ t.pending = [] ∧ t.freeCount = s.freeCount ∧ t.engine = s.engine
        ∧ t.registry = s.registry ∧ t.links = s.links ∧ t.spot = s.spot ∧ t.router = s.router
        ∧ t.plans = s.plans ∧ t.store = s.store ∧ t.port = s.port)

/-- No command stops the part, and none reaches the queue of the others; while RESET# is low nothing is
taken but the reset's own end (R185, log 10). -/
def Obligations.EveryCommandGoesOnAndLeavesTheQueue : Prop :=
  (∀ (c : Instr) (s : State), ∃ t, exec c s = .next t ∧ t.pending = s.pending)
  ∧ (∀ (c : Instr) (s : State), s.port.resetLow = true → c ≠ .hardReset →
      c ≠ .startUpBegin → exec c s = .next s)

/-! ## The port (R178 to R185) -/

/-- The checks of R179 that every request passes first: CRC, UNKNOWN, BUSY while STARTING. Each refusal has
no effect but its answer. The byte after a command byte that names no request is taken as its CRC. The
transaction whose CS# was low as RESET# rose is not taken, and after it CS# is high and MISO released
(R178, R185; that the next request is that transaction is log 43). -/
def Obligations.PortChecksComeFirst : Prop :=
  (∀ (i : Instr) (r : Request) (s : State), i.request = some r → s.listens = true →
    requestCrc r.command r.params ≠ r.crc → exec i s = .next (s.answered ⟨.crc, []⟩))
  ∧ (∀ (i : Instr) (r : Request) (s : State), i.request = some r → s.listens = true →
    requestCrc r.command r.params = r.crc → s.store.state = .starting → r.command ≠ 0x01 →
    r.command ≠ 0x02 → exec i s = .next (s.answered ⟨.busy, []⟩))
  ∧ (∀ (command next : Byte) (s : State), parameterLength command = none → s.listens = true →
    exec (.unknownCommand command next) s
      = .next (s.answered ⟨if crc8 [command] = next then .unknown else .crc, []⟩))
  ∧ (∀ (i : Instr) (s : State), s.port.resetLow = false → s.port.csLow = true →
    (∃ r, i.request = some r)
      ∨ (∃ command next, i = .unknownCommand command next ∧ parameterLength command = none) →
    ∃ t, exec i s = .next t ∧ t = s.withPort { s.port with csLow := false } ∧ t.misoReleased = true)

/-- STATUS READ returns 73 bytes, in every store state, and changes nothing (R182, R187). -/
def Obligations.StatusReadReturnsTheStatus : Prop :=
  ∀ s : State, s.listens = true →
    exec (.statusRead (requestCrc 0x01 [])) s = .next (s.answered ⟨.done, s.statusBytes⟩)
    ∧ s.statusBytes.length = 73
    ∧ (s.starting = false → s.statusBytes.take 10
        = [s.timer.run.toByte, s.timer.health.toByte] ++ wordBytes s.timer.sweepNumber
          ++ natWord s.timer.fixtureTime)
    ∧ (s.starting = true → s.statusBytes.take 10 = List.replicate 10 0)
    ∧ byteAt s.statusBytes 65 = s.registry.session.state.toByte
    ∧ (s.statusBytes.drop 66).take 4
        = halfBytes (s.port.flags.setWidth 16) ++ halfBytes (s.port.enables.setWidth 16)

/-- CAPABILITY READ returns the fixed capacities in every store state, and changes nothing (R183). -/
def Obligations.CapabilityReadReturnsTheCapacities : Prop :=
  ∀ s : State, s.listens = true →
    exec (.capabilityRead (requestCrc 0x02 [])) s
      = .next (s.answered ⟨.done, [18, 2, 0, 2, 0, 32, 32, 8, 3, 8, 2, 64, 9, 4, 12, 1]⟩)

/-- ATTN ENABLE gives each enable the value named for it; ATTN CLEAR clears each flag named; a flag not
named and all other state stay (R181). -/
def Obligations.AttentionRequestsSetEnablesAndClearFlags : Prop :=
  ∀ (set : Half) (s : State), s.serves = true →
    (∃ t, exec (.attnEnable set (requestCrc 0x70 (halfBytes set))) s = .next t
      ∧ (∀ f : Flag, t.port.enables.getLsbD f.bit = set.getLsbD f.bit)
      ∧ t = s.withPort { s.port with enables := t.port.enables, answer := some ⟨.done, []⟩ })
    ∧ (∃ t, exec (.attnClear set (requestCrc 0x71 (halfBytes set))) s = .next t
      ∧ (∀ f : Flag, t.port.isSet f = (s.port.isSet f && !set.getLsbD f.bit))
      ∧ t = s.withPort { s.port with flags := t.port.flags, answer := some ⟨.done, []⟩ })

/-! ## Reads of links, probes, queues and plans -/

/-- LINK READ returns 87 bytes of a defined link, and PROBE READ 37 bytes of a slot's entry; an undefined id,
and a slot outside 1 to 18, are refused with RANGE (R65, R89, R91). -/
def Obligations.LinkAndProbeReadsReturnTheState : Prop :=
  (∀ (link : Half) (s : State), s.serves = true →
      (s.linkDefined link.toNat = true →
        exec (.linkRead link (requestCrc 0x30 (halfBytes link))) s
          = .next (s.answered ⟨.done, s.linkBytes link.toNat⟩)
        ∧ (s.linkBytes link.toNat).length = 87
        ∧ byteAt (s.linkBytes link.toNat) 31 = (s.link link.toNat).verdict.toByte
        ∧ byteAt (s.linkBytes link.toNat) 86 = boolByte (s.blocked link.toNat))
      ∧ (s.linkDefined link.toNat = false →
        exec (.linkRead link (requestCrc 0x30 (halfBytes link))) s
          = .next (s.answered ⟨.range, []⟩)))
  ∧ (∀ (slot : Byte) (s : State), s.serves = true →
      (1 ≤ slot.toNat → slot.toNat ≤ 18 →
        exec (.probeRead slot (requestCrc 0x34 [slot])) s
          = .next (s.answered ⟨.done, s.probeBytes slot.toNat⟩)
        ∧ (s.probeBytes slot.toNat).length = 37
        ∧ byteAt (s.probeBytes slot.toNat) 0 = (s.probe slot.toNat).state.toByte)
      ∧ (slot.toNat = 0 ∨ 18 < slot.toNat →
        exec (.probeRead slot (requestCrc 0x34 [slot])) s = .next (s.answered ⟨.range, []⟩)))

/-- QUEUE STATUS and SPOT LIST return the queue's state and the requests, and change nothing (R129,
R152). -/
def Obligations.QueueStatusAndSpotListRead : Prop :=
  ∀ (queue : Byte) (s : State), s.serves = true →
    (∀ id, QueueId.ofByte queue = some id →
      exec (.queueStatus queue (requestCrc 0x41 [queue])) s
        = .next (s.answered ⟨.done,
            [natByte (s.router.queue id).records.length, (s.params.mode id).toByte,
              natByte (s.params.watermark id)]
            ++ natHalf (s.router.queue id).lost ++ [boolByte (s.router.queue id).verdictLost]⟩))
    ∧ (QueueId.ofByte queue = none →
      exec (.queueStatus queue (requestCrc 0x41 [queue])) s = .next (s.answered ⟨.range, []⟩))
    ∧ exec (.spotList (requestCrc 0x4A [])) s
        = .next (s.answered ⟨.done, natByte s.spot.length :: s.spot.flatMap SpotRequest.encode⟩)

/-- SHADOW READ and ACTIVE READ return one part of a plan; SHADOW READ is BUSY during a LOAD, and a target
outside its range is refused with RANGE (R158). -/
def Obligations.PlanReadsReturnOnePart : Prop :=
  ∀ (target : Byte) (index : Half) (s : State), s.serves = true →
    (∀ x, Target.ofCode target index = some x →
      exec (.activeRead target index (requestCrc 0x12 (target :: halfBytes index))) s
        = .next (s.answered ⟨.done, s.activeBytes x⟩)
      ∧ (s.loading = false →
        exec (.shadowRead target index (requestCrc 0x11 (target :: halfBytes index))) s
          = .next (s.answered ⟨.done, s.plans.shadow.read x⟩)))
    ∧ (s.loading = true →
      exec (.shadowRead target index (requestCrc 0x11 (target :: halfBytes index))) s
        = .next (s.answered ⟨.busy, []⟩))
    ∧ (Target.ofCode target index = none →
      exec (.activeRead target index (requestCrc 0x12 (target :: halfBytes index))) s
        = .next (s.answered ⟨.range, []⟩)
      ∧ (s.loading = false →
        exec (.shadowRead target index (requestCrc 0x11 (target :: halfBytes index))) s
          = .next (s.answered ⟨.range, []⟩)))

/-! ## Result queues (R145 to R151) -/

/-- QUEUE POP removes the oldest record and returns its 16 bytes; an empty queue is EMPTY; a number other
than 0 or 1 is RANGE; no flag and no lost count changes (R150, R189). -/
def Obligations.QueuePopReturnsTheOldestRecord : Prop :=
  ∀ (queue : Byte) (s : State), s.serves = true →
    (∀ id r rest, QueueId.ofByte queue = some id → (s.router.queue id).records = r :: rest →
      exec (.queuePop queue (requestCrc 0x40 [queue])) s
        = .next ((s.withRouter (s.router.setQueue id { s.router.queue id with records := rest })).answered
            ⟨.done, r.encode⟩)
      ∧ r.encode.length = 16)
    ∧ (∀ id, QueueId.ofByte queue = some id → (s.router.queue id).records = [] →
      exec (.queuePop queue (requestCrc 0x40 [queue])) s = .next (s.answered ⟨.empty, []⟩))
    ∧ (1 < queue.toNat →
      exec (.queuePop queue (requestCrc 0x40 [queue])) s = .next (s.answered ⟨.range, []⟩))

/-- QUEUE FLUSH empties the queue, its lost count and its verdict-lost flag, and changes nothing else
(R151). -/
def Obligations.QueueFlushEmptiesTheQueue : Prop :=
  ∀ (queue : Byte) (s : State), s.serves = true →
    (queue = 0 → exec (.queueFlush queue (requestCrc 0x42 [queue])) s
      = .next ((s.withRouter { s.router with q0 := ⟨[], 0, false⟩ }).answered ⟨.done, []⟩))
    ∧ (queue = 1 → exec (.queueFlush queue (requestCrc 0x42 [queue])) s
      = .next ((s.withRouter { s.router with q1 := ⟨[], 0, false⟩ }).answered ⟨.done, []⟩))
    ∧ (1 < queue.toNat → exec (.queueFlush queue (requestCrc 0x42 [queue])) s
      = .next (s.answered ⟨.range, []⟩))

/-- A record offered to a queue with room is placed at the tail; at a full queue BLOCKING loses the offered
record and OVERWRITE drops the oldest; each loss counts, and a lost VERDICT sets the verdict-lost flag
(R147, R148). A record handed to the router follows the first element of the Filter List that matches it, else
the unmatched route; it carries its filter index, and its urgent flag under an urgent action, which raises
VERDICT_URGENT; a loss raises Q_LOST, and a placement that brings the fill level to the watermark the
queue's level flag; nothing else of the part changes (R143 to R146, R148, R149). -/
def Obligations.FullQueueLosesOneRecord : Prop :=
  (∀ (q : ResultQueue) (mode : QueueMode) (r : ResultRecord),
    (q.records.length < 64 → q.offer mode r = ({ q with records := q.records ++ [r] }, false))
    ∧ (q.records.length = 64 →
      q.offer .blocking r
        = (⟨q.records, if q.lost < 65535 then q.lost + 1 else q.lost,
            q.verdictLost || r.kind == .verdict⟩, true)
      ∧ ∀ oldest rest, q.records = oldest :: rest →
        q.offer .overwrite r
          = (⟨rest ++ [r], if q.lost < 65535 then q.lost + 1 else q.lost,
              q.verdictLost || oldest.kind == .verdict⟩, true)))
  ∧ (∀ (f : FilterElement) (r : ResultRecord), f.isMatch r = true ↔
      f.kinds.getLsbD r.kind.bit = true
      ∧ (f.type = .any
        ∨ ∃ id, r.link = some id
          ∧ ((f.type = .range ∧ f.id1.toNat ≤ id ∧ id ≤ f.id2.toNat)
            ∨ (f.type = .pair ∧ (id = f.id1.toNat ∨ id = f.id2.toNat))
            ∨ (f.type = .masked ∧ BitVec.ofNat 16 id &&& f.mask = f.id1 &&& f.mask))))
  ∧ (∀ (p : Plan) (r : ResultRecord),
    (∀ i, firstMatch p r = some i ↔
      i < 32 ∧ (p.filter i).isMatch r = true ∧ ∀ j, j < i → (p.filter j).isMatch r = false)
    ∧ (∀ i, firstMatch p r = some i → routeOf p r = (p.filter i).action)
    ∧ (firstMatch p r = none → routeOf p r =
        match p.params.unmatched with
        | .q0 => .toQ0
        | .q1 => .toQ1
        | .discard => .discard))
  ∧ (∀ (r : ResultRecord) (s : State),
    (routeOf s.active r = .discard → hand r s = s)
    ∧ (∀ id urgent,
        (routeOf s.active r = .toQ0 ∧ id = .q0 ∧ urgent = false)
          ∨ (routeOf s.active r = .toQ1 ∧ id = .q1 ∧ urgent = false)
          ∨ (routeOf s.active r = .urgentQ0 ∧ id = .q0 ∧ urgent = true)
          ∨ (routeOf s.active r = .urgentQ1 ∧ id = .q1 ∧ urgent = true) →
        ∃ after, after = (s.router.queue id).offer (s.params.mode id)
            { r with filter := firstMatch s.active r, urgent := urgent || r.urgent }
          ∧ hand r s = (s.withRouter (s.router.setQueue id after.1)).withPort (hand r s).port
          ∧ (∀ f, (hand r s).port.isSet f =
              (s.port.isSet f || (urgent && f == .verdictUrgent) || (after.2 && f == .qLost)
                || (!after.2 && f == id.levelFlag
                  && after.1.records.length == s.params.watermark id)))
          ∧ (hand r s).port = { s.port with flags := (hand r s).port.flags }))

/-! ## Editing and applying (R157 to R165) -/

/-- SHADOW WRITE replaces one part of the shadow; BUSY, HELD and RANGE come in that order (R157). -/
def Obligations.ShadowWriteReplacesOnePart : Prop :=
  ∀ (target : Byte) (index : Half) (content : Vector Byte 48) (s : State), s.serves = true →
    (∀ x p, s.loading = false → s.plans.applyPending = false →
      Target.ofCode target index = some x → s.plans.shadow.write x content.toList = some p →
      exec (.shadowWrite target index content
          (requestCrc 0x10 (target :: halfBytes index ++ content.toList))) s
        = .next ((s.withPlans { s.plans with shadow := p }).answered ⟨.done, []⟩))
    ∧ (s.loading = true →
      exec (.shadowWrite target index content
          (requestCrc 0x10 (target :: halfBytes index ++ content.toList))) s
        = .next (s.answered ⟨.busy, []⟩))
    ∧ (s.loading = false → s.plans.applyPending = true →
      exec (.shadowWrite target index content
          (requestCrc 0x10 (target :: halfBytes index ++ content.toList))) s
        = .next (s.answered ⟨.held, []⟩))
    ∧ (s.loading = false → s.plans.applyPending = false → s.shadowWritten target index content.toList = none →
      exec (.shadowWrite target index content
          (requestCrc 0x10 (target :: halfBytes index ++ content.toList))) s
        = .next (s.answered ⟨.range, []⟩))

/-- What a write put into a step entry, a link or a class is read back byte for byte, into the parameter set
or a filter element but for the bits its layout ignores (slot set bits 18 to 23, kinds bits 6 and 7), and the
other parts of the plan keep theirs (R157, R158, R188). That an undefined link or class reads back every other
byte is the model's choice, log 23, and a filter mask its sixteen bits, log 44. -/
def Obligations.WrittenPartReadsBack : Prop :=
  ∀ (p p' : Plan) (x : Target) (bs : List Byte), bs.length = 48 → p.write x bs = some p' →
    (∀ i, i < 512 → x = .step i → p'.read x = bs)
    ∧ (∀ i, i < 512 → x = .link i → p'.read x = bs.take 27)
    ∧ (∀ i, i < 32 → x = .cls i → p'.read x = bs.take 14)
    ∧ (∀ i, i < 32 → x = .filter i →
        p'.read x = bs.take 7 ++ [byteAt bs 7 &&& 0x3F, byteAt bs 8])
    ∧ (x = .params → p'.read x = bs.take 13 ++ [byteAt bs 13 &&& 0x03] ++ (bs.drop 14).take 7)
    ∧ (∀ y, y ≠ x → p'.read y = p.read y)

/-- Decoding the encoding of every part of a plan gives the part, whatever its fields hold (12.3, R188; that
an undefined entry keeps its other fields is the model's choice, log 23). -/
def Obligations.PlanPartsDecodeToThemselves : Prop :=
  (∀ e : StepEntry, StepEntry.decode e.encode = some e)
  ∧ (∀ d : LinkDef, LinkDef.decode d.encode = some d)
  ∧ (∀ c : ClassDef, ClassDef.decode c.encode = some c)
  ∧ (∀ f : FilterElement, FilterElement.decode f.encode = some f)
  ∧ (∀ q : Params, Params.decode q.encode = some q)

/-- SHADOW CLEAR sets the shadow to the empty plan, whose parts are as R159 and R177 list them; it is
refused with BUSY while STARTING or during a LOAD and with HELD while the shadow is held. The empty plan
has no plan slots, and no plan without plan slots, or with a quorum outside them, is valid (R159). -/
def Obligations.ShadowClearEmptiesTheShadow : Prop :=
  (∀ s : State, s.serves = true →
    (s.loading = false → s.plans.applyPending = false →
      exec (.shadowClear (requestCrc 0x13 [])) s
        = .next ((s.withPlans { s.plans with shadow := Plan.empty }).answered ⟨.done, []⟩))
    ∧ (s.loading = true →
      exec (.shadowClear (requestCrc 0x13 [])) s = .next (s.answered ⟨.busy, []⟩))
    ∧ (s.loading = false → s.plans.applyPending = true →
      exec (.shadowClear (requestCrc 0x13 [])) s = .next (s.answered ⟨.held, []⟩)))
  ∧ (∀ s : State, s.listens = true → s.starting = true →
      exec (.shadowClear (requestCrc 0x13 [])) s = .next (s.answered ⟨.busy, []⟩))
  ∧ Plan.empty.params = ⟨10000, 1, 0, 1000, 1000, 3, 4, 1, .release, 0x3FFFF, .q0, .blocking, .blocking,
      32, 32⟩
  ∧ (∀ i, Plan.empty.step i = ⟨0, .timed, .driven, 0, 0, 0, Vector.replicate 4 ⟨0, 0⟩, 0,
      Vector.replicate 4 0, 0, Vector.replicate 4 ⟨0, 0, 0⟩, .high, 0, 0, 0, 0, .once, 0, false⟩)
  ∧ (∀ id, (Plan.empty.link id).defined = false)
  ∧ (∀ i, (Plan.empty.cls i).defined = false)
  ∧ (∀ i, (Plan.empty.filter i).type = .off)
  ∧ Plan.empty.planSlots = []
  ∧ (∀ (p : Plan) (g : Nat), p.validate g = none →
      p.planSlots ≠ [] ∧ 1 ≤ p.params.quorum.toNat ∧ p.params.quorum.toNat ≤ p.planSlots.length
      ∧ (0 < p.count ∨ ∃ id, (p.link id).defined = true))

/-- LIVE EDIT replaces a class entry or a filter element of the active plan; an undefined class, another
target and a code outside its list are RANGE, another measure or a field out of range is INVALID (R160;
which codes a target has is log 22). -/
def Obligations.LiveEditReplacesOneEntry : Prop :=
  ∀ (target : Byte) (index : Half) (content : Vector Byte 14) (s : State) (edit : Instr),
    s.serves = true →
    edit = .liveEdit target index content
      (requestCrc 0x14 (target :: halfBytes index ++ content.toList)) →
    (∀ c, target = 3 → index.toNat < 32 → ClassDef.decode content.toList = some c →
      (s.active.cls index.toNat).defined = true → c.defined = true →
      (c.measure = (s.active.cls index.toNat).measure → c.inRange = true →
        exec edit s
          = .next ((s.withPlans { s.plans with active :=
              { s.active with classes := Tab.put s.active.classes index.toNat c } }).answered
              ⟨.done, []⟩))
      ∧ (c.measure ≠ (s.active.cls index.toNat).measure ∨ c.inRange = false →
        exec edit s = .next (s.answered ⟨.invalid, []⟩)))
    ∧ (∀ f, target = 4 → index.toNat < 32 → FilterElement.decode content.toList = some f →
      (f.id1.toNat ≤ 511 → f.id2.toNat ≤ 511 →
        exec edit s
          = .next ((s.withPlans { s.plans with active :=
              { s.active with filters := Tab.put s.active.filters index.toNat f } }).answered
              ⟨.done, []⟩))
      ∧ (511 < f.id1.toNat ∨ 511 < f.id2.toNat →
        exec edit s = .next (s.answered ⟨.invalid, []⟩)))
    ∧ ((target ≠ 3 ∧ target ≠ 4) ∨ 32 ≤ index.toNat
        ∨ (target = 3 ∧ ((s.active.cls index.toNat).defined = false
            ∨ ∀ c, ClassDef.decode content.toList = some c → c.defined = false))
        ∨ (target = 4 ∧ FilterElement.decode content.toList = none) →
      exec edit s = .next (s.answered ⟨.range, []⟩))

/-- APPLY of a valid shadow in STOPPED installs it at once: the generation gains 1, the active plan is the
shadow, and the link records are kept, freshened or discarded; no APPLY flag (R94, R161, R165). -/
def Obligations.ApplyInStoppedInstalls : Prop :=
  ∀ s : State, s.serves = true → s.loading = false → s.plans.applyPending = false →
    s.plans.shadow.validate s.plans.generation = none → s.timer.run = .stopped →
    ∃ t, exec (.applyPlan (requestCrc 0x15 [])) s = .next t
      ∧ t.plans = ⟨s.plans.shadow, s.plans.shadow, false, s.plans.generation + 1⟩
      ∧ t.port.answer = some ⟨.done, []⟩ ∧ t.port.isSet .apply = s.port.isSet .apply
      ∧ (∀ id, id < 512 → t.link id =
          (let before := s.active.link id
          let after := s.plans.shadow.link id
          if after.defined = false then
            if before.defined = true then LinkRecord.fresh 0 else s.link id
          else if before.defined = true ∧ before.sameLink after = true then s.link id
          else LinkRecord.fresh (s.plans.generation + 1)))
      ∧ t.timer = s.timer ∧ t.engine = s.engine ∧ t.store = s.store
      ∧ t.registry.session = s.registry.session
      ∧ (∀ n, (t.probe n).state = (s.probe n).state)

/-- APPLY of a valid shadow during a run holds it; a shadow that fails is refused with INVALID and the
fault's four bytes; BUSY and HELD come first. APPLY CANCEL releases a pending apply and leaves everything
else; with none pending it is refused with STATE (R161, R164). -/
def Obligations.ApplyDuringARunHoldsTheShadow : Prop :=
  ∀ s : State, s.serves = true →
    (s.loading = false → s.plans.applyPending = false →
      s.plans.shadow.validate s.plans.generation = none → s.timer.run ≠ .stopped →
      exec (.applyPlan (requestCrc 0x15 [])) s
        = .next ((s.withPlans { s.plans with applyPending := true }).answered ⟨.accepted, []⟩))
    ∧ (∀ f, s.loading = false → s.plans.applyPending = false →
      s.plans.shadow.validate s.plans.generation = some f →
      exec (.applyPlan (requestCrc 0x15 [])) s
        = .next (s.answered ⟨.invalid, [f.part.toByte] ++ natHalf f.index ++ [f.error.toByte]⟩))
    ∧ (s.loading = true →
      exec (.applyPlan (requestCrc 0x15 [])) s = .next (s.answered ⟨.busy, []⟩))
    ∧ (s.loading = false → s.plans.applyPending = true →
      exec (.applyPlan (requestCrc 0x15 [])) s = .next (s.answered ⟨.held, []⟩))
    ∧ (s.plans.applyPending = true →
      exec (.applyCancel (requestCrc 0x16 [])) s
        = .next ((s.withPlans { s.plans with applyPending := false }).answered ⟨.done, []⟩))
    ∧ (s.plans.applyPending = false →
      exec (.applyCancel (requestCrc 0x16 [])) s = .next (s.answered ⟨.state, []⟩))

/-! ## The run (R26 to R34) -/

/-- RUN START begins a run: every counter 0, health CLEAR, SYNCING, MARK {0, 0, 0} to each SYNCING, IN_STEP
or LOST probe; the links are kept, or cleared with the fresh option. Its refusals come in the order RANGE,
STATE, STATE, INVALID (R26). -/
def Obligations.RunStartBeginsARun : Prop :=
  (∀ (fresh : Byte) (s : State), s.serves = true → fresh.toNat ≤ 1 → s.timer.run = .stopped →
      s.registry.session.state.allowsRun = true → s.active.count ≠ 0 →
      ∃ t, exec (.runStart fresh (requestCrc 0x20 [fresh])) s = .next t
        ∧ t.timer.run = .syncing ∧ t.timer.health = .clear ∧ t.timer.fixtureTime = 0
        ∧ t.timer.sweepNumber = 0 ∧ t.timer.sweepTime = 0 ∧ t.timer.pattern = 0
        ∧ t.timer.notStarted = false
        ∧ t.registry.session = ⟨.idle, none, [], none⟩
        ∧ t.port.answer = some ⟨.done, []⟩
        ∧ t.port.isSet .health = (s.port.isSet .health || s.timer.health != .clear)
        ∧ t.port.isSet .run = s.port.isSet .run
        ∧ (∀ n, 1 ≤ n → n ≤ 18 → (s.probe n).state.marked = true →
            t.probe n = { s.probe n with outstanding := some 0 }
            ∧ t.portState n = (s.portState n).hand (.mark 0 0 0))
        ∧ (∀ n, 1 ≤ n → n ≤ 18 → (s.probe n).state.marked = false →
            t.probe n = s.probe n ∧ t.portState n = s.portState n)
        ∧ (fresh = 0 → t.links = s.links ∧ t.router = s.router)
        ∧ (fresh = 1 → ∀ id, t.link id =
            if s.linkDefined id = true then
              { LinkRecord.fresh (s.link id).definedIn with withdrawn := (s.link id).withdrawn }
            else s.link id)
        ∧ t.engine = s.engine ∧ t.spot = s.spot ∧ t.plans = s.plans ∧ t.store = s.store)
  ∧ (∀ (fresh : Byte) (s : State), s.serves = true →
      (1 < fresh.toNat →
        exec (.runStart fresh (requestCrc 0x20 [fresh])) s = .next (s.answered ⟨.range, []⟩))
      ∧ (fresh.toNat ≤ 1 → s.timer.run ≠ .stopped ∨ s.registry.session.state.allowsRun = false →
        exec (.runStart fresh (requestCrc 0x20 [fresh])) s = .next (s.answered ⟨.state, []⟩))
      ∧ (fresh.toNat ≤ 1 → s.timer.run = .stopped → s.registry.session.state.allowsRun = true →
        s.active.params.stepCount = 0 →
        exec (.runStart fresh (requestCrc 0x20 [fresh])) s = .next (s.answered ⟨.invalid, []⟩)))

/-- RUN PAUSE in RUNNING: PAUSING while steps are open, and PAUSED at once with PARK and RUN when the table
is empty; STATE elsewhere (R29, R30, R39). -/
def Obligations.RunPauseDrainsTheRun : Prop :=
  ∀ s : State, s.serves = true →
    (s.timer.run = .running → s.tableEmpty = false →
      exec (.runPause (requestCrc 0x21 [])) s
        = .next ((s.withTimer { s.timer with run := .pausing }).answered ⟨.accepted, []⟩))
    ∧ (s.timer.run = .running → s.tableEmpty = true →
      ∃ t, exec (.runPause (requestCrc 0x21 [])) s = .next t
        ∧ t.timer = { s.timer with run := .paused } ∧ t.port.isSet .run = true
        ∧ t.port.answer = some ⟨.done, []⟩
        ∧ (∀ n, 1 ≤ n → n ≤ 18 → t.portState n =
            if (s.probe n).state = .absent then s.portState n
            else (s.portState n).hand (.park s.params.parkMode))
        ∧ t.registry.probes = s.registry.probes ∧ t.registry.session = s.registry.session
        ∧ t.engine = s.engine ∧ t.links = s.links ∧ t.spot = s.spot ∧ t.router = s.router
        ∧ t.plans = s.plans ∧ t.store = s.store)
    ∧ (s.timer.run ≠ .running →
      exec (.runPause (requestCrc 0x21 [])) s = .next (s.answered ⟨.state, []⟩))

/-- RUN RESUME in PAUSED begins a whole sweep in RUNNING at the held fixture time, and hands MARK to each
SYNCING, IN_STEP or LOST probe, behind the SETUP of an apply that changes the park mode or the slot's policy
(R48); the marks of the suspended sweep are settled with no miss counted (R50, R51); STATE elsewhere
(R31). -/
def Obligations.RunResumeBeginsAWholeSweep : Prop :=
  ∀ s : State, s.serves = true →
    (s.timer.run = .paused →
      ∃ t, exec (.runResume (requestCrc 0x22 [])) s = .next t
        ∧ t.timer.run = .running ∧ t.port.isSet .run = true ∧ t.port.answer = some ⟨.done, []⟩
        ∧ t.timer.fixtureTime = s.timer.fixtureTime ∧ t.timer.sweepTime = 0
        ∧ t.timer.sweepNumber = s.timer.sweepNumber + 1 ∧ t.timer.health = s.timer.health
        ∧ t.timer.pattern =
            (if s.timer.pattern + 1 < t.params.patternPeriod.toNat then s.timer.pattern + 1 else 0)
        ∧ t.engine.merged = none ∧ t.engine.free = none ∧ t.engine.table = s.engine.table
        ∧ t.engine.turns = s.engine.turns
        ∧ (s.plans.applyPending = false → t.plans = s.plans)
        ∧ (s.plans.applyPending = true →
            t.plans = ⟨s.plans.shadow, s.plans.shadow, false, s.plans.generation + 1⟩
            ∧ t.port.isSet .apply = true)
        ∧ (∀ n, 1 ≤ n → n ≤ 18 →
            (t.probe n).state = (s.probe n).state ∧ (t.probe n).missCount = (s.probe n).missCount
            ∧ (t.probe n).syncCount =
                (if (s.probe n).state = .syncing ∧ (s.probe n).outstanding ≠ none then 0
                else (s.probe n).syncCount)
            ∧ (t.probe n).outstanding =
                (if (s.probe n).state.marked = true then some t.timer.sweepNumber else none)
            ∧ ∃ before,
                before = (if s.plans.applyPending = true ∧ (s.probe n).state ≠ .absent
                    ∧ (s.params.parkMode ≠ t.params.parkMode ∨ s.params.policy n ≠ t.params.policy n)
                  then (s.portState n).hand (.setup (t.params.policy n) t.params.parkMode)
                  else s.portState n)
                ∧ t.portState n =
                  (if (s.probe n).state.marked = true then
                    before.hand (.mark t.timer.sweepNumber (wireTime t.timer.fixtureTime)
                      (BitVec.ofNat 8 t.timer.pattern))
                  else before))
        ∧ t.store = s.store)
    ∧ (s.timer.run ≠ .paused →
      exec (.runResume (requestCrc 0x22 [])) s = .next (s.answered ⟨.state, []⟩))

/-- RUN STOP: STOPPING while steps are open, STOPPED at once when the table is empty, STATE in STOPPED and
STOPPING; entry into STOPPED has the effects of R33, R39 and R55: PARK to every probe not ABSENT, and IN_STEP
and SYNCING probes begin again with counts 0 (R32; that the SETUP of an installed apply goes before PARK, which
carries the new park mode, is the model's order, log 17). -/
def Obligations.RunStopEndsTheRun : Prop :=
  ∀ s : State, s.serves = true →
    (s.timer.run ≠ .stopped → s.timer.run ≠ .stopping → s.tableEmpty = false →
      exec (.runStop (requestCrc 0x23 [])) s
        = .next ((s.withTimer { s.timer with run := .stopping }).answered ⟨.accepted, []⟩))
    ∧ (s.timer.run ≠ .stopped → s.timer.run ≠ .stopping → s.tableEmpty = true →
      ∃ t, exec (.runStop (requestCrc 0x23 [])) s = .next t
        ∧ t.timer.run = .stopped ∧ t.port.isSet .run = true ∧ t.port.answer = some ⟨.done, []⟩
        ∧ t.timer.fixtureTime = s.timer.fixtureTime ∧ t.timer.sweepNumber = s.timer.sweepNumber
        ∧ t.timer.sweepTime = s.timer.sweepTime ∧ t.timer.pattern = s.timer.pattern
        ∧ t.timer.health = s.timer.health
        ∧ t.engine = { s.engine with merged := none, free := none }
        ∧ (∀ n, (t.probe n).outstanding = none
            ∧ (t.probe n).state =
                if (s.probe n).state = .inStep then .syncing else (s.probe n).state)
        ∧ (∀ n, 1 ≤ n → n ≤ 18 →
            ((s.probe n).state = .inStep ∨ (s.probe n).state = .syncing →
              (t.probe n).syncCount = 0 ∧ (t.probe n).missCount = 0)
            ∧ ((s.probe n).state ≠ .inStep → (s.probe n).state ≠ .syncing →
              (t.probe n).syncCount = (s.probe n).syncCount
              ∧ (t.probe n).missCount = (s.probe n).missCount)
            ∧ ((s.probe n).state = .absent → t.portState n = s.portState n)
            ∧ ((s.probe n).state ≠ .absent →
              t.portState n =
                (if s.plans.applyPending = true
                    ∧ (s.params.parkMode ≠ t.params.parkMode ∨ s.params.policy n ≠ t.params.policy n)
                  then (s.portState n).hand (.setup (t.params.policy n) t.params.parkMode)
                  else s.portState n).hand (.park t.params.parkMode)))
        ∧ t.plans.applyPending = false
        ∧ t.plans.active = (if s.plans.applyPending = true then s.plans.shadow else s.plans.active)
        ∧ t.store = s.store)
    ∧ (s.timer.run = .stopped ∨ s.timer.run = .stopping →
      exec (.runStop (requestCrc 0x23 [])) s = .next (s.answered ⟨.state, []⟩))

/-- RUN ABORT discards every open step and every assignment, keeps the turns, and enters STOPPED; STATE in
STOPPED (R34, R87). The spot request in flight is handed back: it waits again with its tallies and repeat
count as they were, or leaves with a SPOT_DONE record when an end is pending (R122, R127). -/
def Obligations.RunAbortDiscardsTheOpenSteps : Prop :=
  ∀ s : State, s.serves = true →
    (s.timer.run ≠ .stopped →
      ∃ t, exec (.runAbort (requestCrc 0x24 [])) s = .next t
        ∧ t.timer.run = .stopped ∧ t.port.isSet .run = true ∧ t.port.answer = some ⟨.done, []⟩
        ∧ t.timer.fixtureTime = s.timer.fixtureTime ∧ t.timer.health = s.timer.health
        ∧ (∀ k, t.openAt k = none) ∧ t.engine.turns = s.engine.turns
        ∧ t.engine.merged = none ∧ t.engine.free = none
        ∧ (∀ n, (t.probe n).current = none ∧ (t.probe n).queued = none)
        ∧ (s.plans.applyPending = false → t.links = s.links ∧ t.plans = s.plans
            ∧ ((∀ q ∈ s.spot, q.inFlight = none) → t.spot = s.spot)
            ∧ (∀ q, s.spot.find? (fun q => q.inFlight.isSome) = some q →
                (q.endPending = none →
                  t.spot = s.spot.map (fun p => if p.link = q.link then { q with inFlight := none } else p)
                  ∧ ((∀ n, 1 ≤ n → n ≤ 18 → (s.probe n).state ≠ .inStep) → t.router = s.router))
                ∧ (∀ ending, q.endPending = some ending →
                  t.spot = s.spot.filter (fun p => p.link != q.link) ∧ t.port.isSet .spot = true
                  ∧ ((∀ n, 1 ≤ n → n ≤ 18 → (s.probe n).state ≠ .inStep) →
                    t.router = (hand
                      { ResultRecord.blank .spotDone s.timer.sweepNumber s.timer.sweepTime with
                        link := some q.link, marker := some q.marker, slot := q.requester,
                        ending := some ending, tallies := some q.tallies } s).router))))
        ∧ t.store = s.store)
    ∧ (s.timer.run = .stopped →
      exec (.runAbort (requestCrc 0x24 [])) s = .next (s.answered ⟨.state, []⟩))


/-! ## Links (R89 to R93) -/

/-- LINK CLEAR gives a link its starting values but for the withdrawn flag, with a VERDICT record when it
was not UNTESTED; an undefined id is RANGE (R93). -/
def Obligations.LinkClearRestoresStartingValues : Prop :=
  ∀ (link : Half) (s : State), s.serves = true →
    (s.linkDefined link.toNat = true →
      ∃ t, exec (.linkClear link (requestCrc 0x31 (halfBytes link))) s = .next t
        ∧ t.link link.toNat = { LinkRecord.fresh (s.link link.toNat).definedIn with
            withdrawn := (s.link link.toNat).withdrawn }
        ∧ (∀ id, id ≠ link.toNat → t.link id = s.link id)
        ∧ ((s.link link.toNat).verdict = .untested →
            t.router = s.router ∧ t.port = { s.port with answer := some ⟨.done, []⟩ })
        ∧ ((s.link link.toNat).verdict ≠ .untested →
            ∃ handed, handed = hand
              { ResultRecord.blank .verdict s.timer.sweepNumber s.timer.sweepTime with
                link := some link.toNat, oldVerdict := some (s.link link.toNat).verdict,
                newVerdict := some .untested } s
            ∧ t.router = handed.router
            ∧ t.port = { handed.port with answer := some ⟨.done, []⟩ })
        ∧ t.timer = s.timer ∧ t.engine = s.engine ∧ t.registry = s.registry ∧ t.spot = s.spot
        ∧ t.plans = s.plans ∧ t.store = s.store)
    ∧ (s.linkDefined link.toNat = false →
      exec (.linkClear link (requestCrc 0x31 (halfBytes link))) s
        = .next (s.answered ⟨.range, []⟩))

/-- LINK WITHDRAW sets the flag, flags the link's open step, and ends its spot request; LINK RESTORE
clears the flag; an undefined id is RANGE (R84, R92, R125). -/
def Obligations.LinkWithdrawAndRestoreMoveTheFlag : Prop :=
  ∀ (link : Half) (s : State), s.serves = true →
    (s.linkDefined link.toNat = true → (s.link link.toNat).withdrawn = false →
      ∃ t, exec (.linkWithdraw link (requestCrc 0x32 (halfBytes link))) s = .next t
        ∧ t.link link.toNat = { s.link link.toNat with withdrawn := true }
        ∧ (∀ id, id ≠ link.toNat → t.link id = s.link id)
        ∧ (∀ k, t.openAt k = (s.openAt k).map fun o =>
            if o.testLink = link.toNat then { o with withdrawn := true } else o)
        ∧ (∀ k, t.turn k = s.turn k)
        ∧ t.port.answer = some ⟨.done, []⟩
        ∧ (s.spotFor link.toNat = none →
            t.spot = s.spot ∧ t.router = s.router ∧ t.port.flags = s.port.flags)
        ∧ (∀ r, s.spotFor link.toNat = some r → r.inFlight = none →
            t.spot = s.spot.filter (fun q => q.link != link.toNat) ∧ t.port.isSet .spot = true)
        ∧ (∀ r, s.spotFor link.toNat = some r → r.inFlight ≠ none →
            t.spot = s.spot.map (fun q =>
              if q.link = link.toNat then { q with endPending := some .withdrawn } else q)
            ∧ t.router = s.router ∧ t.port.flags = s.port.flags)
        ∧ t.timer = s.timer ∧ t.registry = s.registry ∧ t.plans = s.plans ∧ t.store = s.store)
    ∧ (s.linkDefined link.toNat = true → (s.link link.toNat).withdrawn = true →
      exec (.linkWithdraw link (requestCrc 0x32 (halfBytes link))) s
        = .next (s.answered ⟨.done, []⟩))
    ∧ (s.linkDefined link.toNat = true →
      exec (.linkRestore link (requestCrc 0x33 (halfBytes link))) s
        = .next ((s.setLink link.toNat { s.link link.toNat with withdrawn := false }).answered
            ⟨.done, []⟩))
    ∧ (s.linkDefined link.toNat = false →
      exec (.linkWithdraw link (requestCrc 0x32 (halfBytes link))) s
        = .next (s.answered ⟨.range, []⟩)
      ∧ exec (.linkRestore link (requestCrc 0x33 (halfBytes link))) s
        = .next (s.answered ⟨.range, []⟩))

/-! ## The Spot Queue (R117 to R127) -/

/-- SPOT REQUEST joins the tail of the queue, or is answered RANGE, STATE, DUPLICATE or FULL, in that
order, and changes nothing (R118). -/
def Obligations.SpotRequestJoinsTheQueue : Prop :=
  ∀ (link : Half) (repeats marker : Byte) (s : State), s.serves = true →
    (s.linkDefined link.toNat = true → 1 ≤ repeats.toNat → repeats.toNat ≤ 16 →
      (s.link link.toNat).withdrawn = false →
      ((∀ r ∈ s.spot, r.link ≠ link.toNat) → s.spot.length < 8 →
        exec (.spotRequest link repeats marker
            (requestCrc 0x48 (halfBytes link ++ [repeats, marker]))) s
          = .next ((s.withSpot (s.spot
              ++ [⟨none, link.toNat, repeats.toNat, marker, ⟨0, 0, 0, 0⟩, none, none⟩])).answered
              ⟨.accepted, []⟩))
      ∧ ((∃ r ∈ s.spot, r.link = link.toNat) →
        exec (.spotRequest link repeats marker
            (requestCrc 0x48 (halfBytes link ++ [repeats, marker]))) s
          = .next (s.answered ⟨.duplicate, []⟩))
      ∧ ((∀ r ∈ s.spot, r.link ≠ link.toNat) → 8 ≤ s.spot.length →
        exec (.spotRequest link repeats marker
            (requestCrc 0x48 (halfBytes link ++ [repeats, marker]))) s
          = .next (s.answered ⟨.full, []⟩)))
    ∧ (s.linkDefined link.toNat = true → 1 ≤ repeats.toNat → repeats.toNat ≤ 16 →
      (s.link link.toNat).withdrawn = true →
      exec (.spotRequest link repeats marker
          (requestCrc 0x48 (halfBytes link ++ [repeats, marker]))) s
        = .next (s.answered ⟨.state, []⟩))
    ∧ (s.linkDefined link.toNat = false ∨ repeats.toNat = 0 ∨ 16 < repeats.toNat →
      exec (.spotRequest link repeats marker
          (requestCrc 0x48 (halfBytes link ++ [repeats, marker]))) s
        = .next (s.answered ⟨.range, []⟩))

/-- SPOTASK of a SYNCING or IN_STEP probe is admitted like SPOT REQUEST, for an endpoint of its link, and is
answered by one SPOTANS with the Spot Queue's answer: 0 accepted, and the request joins the tail; 1 RANGE,
2 STATE, 3 DUPLICATE, 4 FULL, in that order, and nothing else changes. In any other state it is stray (R46,
R64, R118). During start-up the SPOTANS is held back (R176; that it is held rather than sent is the model's
choice, log 28). -/
def Obligations.SpotAskIsAnsweredBySpotAns : Prop :=
  ∀ (port : Port) (link : Half) (repeats marker : Byte) (s : State), s.port.resetLow = false →
    ((s.probe (slotOf port)).state = .syncing ∨ (s.probe (slotOf port)).state = .inStep →
      ∃ t answer, exec (.spotAsk port link repeats marker) s = .next t
        ∧ answer = (s.arrival (some (slotOf port)) link.toNat repeats.toNat).toByte
        ∧ (answer = 1 ↔ s.linkDefined link.toNat = false ∨ repeats.toNat = 0 ∨ 16 < repeats.toNat
            ∨ slotOf port ∉ (s.active.link link.toNat).endpoints)
        ∧ (answer ≠ 1 →
            (answer = 2 ↔ (s.link link.toNat).withdrawn = true)
            ∧ (answer = 3 ↔ (s.link link.toNat).withdrawn = false ∧ ∃ r ∈ s.spot, r.link = link.toNat)
            ∧ (answer = 4 ↔ (s.link link.toNat).withdrawn = false
                ∧ (∀ r ∈ s.spot, r.link ≠ link.toNat) ∧ 8 ≤ s.spot.length)
            ∧ (answer = 0 ↔ (s.link link.toNat).withdrawn = false
                ∧ (∀ r ∈ s.spot, r.link ≠ link.toNat) ∧ s.spot.length < 8))
        ∧ t.spot = (if answer = 0 then s.spot ++ [⟨some (slotOf port), link.toNat, repeats.toNat, marker,
              ⟨0, 0, 0, 0⟩, none, none⟩]
            else s.spot)
        ∧ (s.starting = false → t.store = s.store ∧ t.portState (slotOf port)
            = { s.portState (slotOf port) with lastFrame := some .probe }.hand (.spotAns link answer))
        ∧ (s.starting = true →
            t.store = { s.store with
              held := s.store.held ++ [.spotAns (slotOf port) link answer] }
            ∧ t.portState (slotOf port)
              = { s.portState (slotOf port) with lastFrame := some .probe })
        ∧ (∀ n, n ≠ slotOf port → t.portState n = s.portState n)
        ∧ t.registry.probes = s.registry.probes ∧ t.registry.session = s.registry.session
        ∧ t.registry.calWrite = s.registry.calWrite ∧ t.clock = s.clock
        ∧ t.timer = s.timer ∧ t.engine = s.engine ∧ t.links = s.links ∧ t.router = s.router
        ∧ t.plans = s.plans ∧ t.port = s.port)
    ∧ ((s.probe (slotOf port)).state ≠ .syncing → (s.probe (slotOf port)).state ≠ .inStep →
      exec (.spotAsk port link repeats marker) s
        = .next (stray (slotOf port) (hearProbe (slotOf port) s)))

/-- SPOT CANCEL of the station and SPOTDROP of the requesting probe end a waiting request at once with a
SPOT_DONE record of CANCELLED, and give one in flight the end pending CANCELLED unless an end is pending already
(R122, R123, R124). -/
def Obligations.SpotCancelEndsARequest : Prop :=
  (∀ (link : Half) (s : State), s.serves = true → link.toNat ≤ 511 →
    (∀ r, s.spotFor link.toNat = some r → r.inFlight = none →
      ∃ t handed, exec (.spotCancel link (requestCrc 0x49 (halfBytes link))) s = .next t
        ∧ handed = hand { ResultRecord.blank .spotDone s.timer.sweepNumber s.timer.sweepTime with
            link := some link.toNat, marker := some r.marker, slot := r.requester,
            ending := some .cancelled, tallies := some r.tallies } s
        ∧ t.spot = s.spot.filter (fun q => q.link != link.toNat) ∧ t.router = handed.router
        ∧ t.port = { handed.port.raise .spot with answer := some ⟨.done, []⟩ }
        ∧ t.timer = s.timer ∧ t.engine = s.engine ∧ t.registry = s.registry ∧ t.links = s.links
        ∧ t.plans = s.plans ∧ t.store = s.store)
    ∧ (∀ r, s.spotFor link.toNat = some r → r.inFlight ≠ none → r.endPending = none →
      exec (.spotCancel link (requestCrc 0x49 (halfBytes link))) s
        = .next ((s.withSpot (s.spot.map fun q =>
            if q.link = link.toNat then { q with endPending := some .cancelled } else q)).answered
            ⟨.accepted, []⟩))
    ∧ (∀ r, s.spotFor link.toNat = some r → r.inFlight ≠ none → r.endPending ≠ none →
      exec (.spotCancel link (requestCrc 0x49 (halfBytes link))) s
        = .next (s.answered ⟨.accepted, []⟩))
    ∧ (s.spotFor link.toNat = none →
      exec (.spotCancel link (requestCrc 0x49 (halfBytes link))) s
        = .next (s.answered ⟨.empty, []⟩)))
  ∧ (∀ (link : Half) (s : State), s.serves = true → 511 < link.toNat →
    exec (.spotCancel link (requestCrc 0x49 (halfBytes link))) s = .next (s.answered ⟨.range, []⟩))
  ∧ (∀ (port : Port) (link : Half) (s : State), s.port.resetLow = false →
    (s.probe (slotOf port)).state = .syncing ∨ (s.probe (slotOf port)).state = .inStep →
    (∀ r, s.spotFor link.toNat = some r → r.requester = some (slotOf port) → r.inFlight = none →
      ∃ t handed, exec (.spotDrop port link) s = .next t
        ∧ handed = hand { ResultRecord.blank .spotDone s.timer.sweepNumber s.timer.sweepTime with
            link := some link.toNat, marker := some r.marker, slot := r.requester,
            ending := some .cancelled, tallies := some r.tallies } s
        ∧ t.spot = s.spot.filter (fun q => q.link != link.toNat) ∧ t.router = handed.router
        ∧ t.port = handed.port.raise .spot
        ∧ t.registry = (hearProbe (slotOf port) s).registry
        ∧ t.timer = s.timer ∧ t.engine = s.engine ∧ t.links = s.links ∧ t.plans = s.plans
        ∧ t.store = s.store)
    ∧ (∀ r, s.spotFor link.toNat = some r → r.requester = some (slotOf port) → r.inFlight ≠ none →
      r.endPending = none →
      exec (.spotDrop port link) s
        = .next ((hearProbe (slotOf port) s).withSpot (s.spot.map fun q =>
            if q.link = link.toNat then { q with endPending := some .cancelled } else q)))
    ∧ (∀ r, s.spotFor link.toNat = some r → r.requester = some (slotOf port) → r.inFlight ≠ none →
      r.endPending ≠ none →
      exec (.spotDrop port link) s = .next (hearProbe (slotOf port) s))
    ∧ ((∀ r, s.spotFor link.toNat = some r → r.requester ≠ some (slotOf port)) →
      exec (.spotDrop port link) s = .next (hearProbe (slotOf port) s)))
  ∧ (∀ (port : Port) (link : Half) (s : State), s.port.resetLow = false →
    (s.probe (slotOf port)).state ≠ .syncing → (s.probe (slotOf port)).state ≠ .inStep →
    exec (.spotDrop port link) s = .next (stray (slotOf port) (hearProbe (slotOf port) s)))

/-! ## Calibration (R130 to R138) -/

/-- CAL SELECT replaces the selection; STATE comes before RANGE (R131; their order is log 21). -/
def Obligations.CalSelectMakesASelection : Prop :=
  ∀ (slots : BitVec 24) (kind range quick : Byte) (s : State), s.serves = true →
    (s.timer.run = .stopped →
      s.registry.session.state = .idle ∨ s.registry.session.state = .held →
      (∀ k r q, CalKind.ofCode kind = some k → ProbeRange.ofCode range = some r →
        boolOfCode quick = some q → (∃ n, 1 ≤ n ∧ n ≤ 18 ∧ slots.getLsbD (n - 1) = true) →
        ∃ chosen, chosen = allSlots.filter (fun n => slots.getLsbD (n - 1))
          ∧ exec (.calSelect slots kind range quick
              (requestCrc 0x50 (threeBytes slots ++ [kind, range, quick]))) s
            = .next ((s.withSession ⟨.idle, some ⟨chosen, k, r, q⟩,
                chosen.map (fun n => ⟨n, false, none⟩), none⟩).answered ⟨.done, []⟩))
      ∧ (CalKind.ofCode kind = none ∨ ProbeRange.ofCode range = none ∨ boolOfCode quick = none
          ∨ (∀ n, 1 ≤ n → n ≤ 18 → slots.getLsbD (n - 1) = false) →
        exec (.calSelect slots kind range quick
            (requestCrc 0x50 (threeBytes slots ++ [kind, range, quick]))) s
          = .next (s.answered ⟨.range, []⟩)))
    ∧ (s.timer.run ≠ .stopped ∨ s.registry.session.state = .capturing
        ∨ s.registry.session.state = .writing →
      exec (.calSelect slots kind range quick
          (requestCrc 0x50 (threeBytes slots ++ [kind, range, quick]))) s
        = .next (s.answered ⟨.state, []⟩))

/-- CAL CAPTURE sends CALMEAS to each selected SYNCING probe, and fails the others with NOT_SYNCING; it
ends at once when none is SYNCING; STATE elsewhere (R132, R134). -/
def Obligations.CalCaptureSendsCalmeas : Prop :=
  ∀ s : State, s.serves = true →
    (∀ x, s.timer.run = .stopped →
      s.registry.session.state = .idle ∨ s.registry.session.state = .held →
      s.registry.session.selection = some x → x.slots.Nodup → (∀ n ∈ x.slots, 1 ≤ n ∧ n ≤ 18) →
      ∃ t, exec (.calCapture (requestCrc 0x51 [])) s = .next t
        ∧ t.registry.session.selection = some x
        ∧ t.registry.session.captures = x.slots.map (fun n =>
            if (s.probe n).state = .syncing then ⟨n, true, none⟩
            else ⟨n, false, some (.failed .notSyncing)⟩)
        ∧ ((∃ n ∈ x.slots, (s.probe n).state = .syncing) →
            t.registry.session.state = .capturing
            ∧ t.registry.session.deadline = some (s.clock + 50000)
            ∧ t.port = { s.port with answer := some ⟨.accepted, []⟩ })
        ∧ ((∀ n ∈ x.slots, (s.probe n).state ≠ .syncing) →
            t.registry.session.state = .held ∧ t.registry.session.deadline = none
            ∧ t.port = { s.port.raise .cal with answer := some ⟨.done, []⟩ })
        ∧ (∀ n, t.portState n =
            if n ∈ x.slots ∧ (s.probe n).state = .syncing then
              (s.portState n).hand (.calMeas (x.kind == .gain) x.range)
            else s.portState n)
        ∧ t.registry.probes = s.registry.probes ∧ t.timer = s.timer ∧ t.engine = s.engine
        ∧ t.links = s.links ∧ t.spot = s.spot ∧ t.router = s.router ∧ t.plans = s.plans
        ∧ t.store = s.store)
    ∧ (s.timer.run ≠ .stopped ∨ s.registry.session.state = .capturing
        ∨ s.registry.session.state = .writing ∨ s.registry.session.selection = none →
      exec (.calCapture (requestCrc 0x51 [])) s = .next (s.answered ⟨.state, []⟩))

/-- A CALREAD that is awaited fills its capture entry and may end the capture, and any other is stray; the
capture deadline fails every entry still outstanding with NO_ANSWER (R133, R134). -/
def Obligations.CalreadAndDeadlineFillTheCapture : Prop :=
  (∀ (port : Port) (raw : Half) (x : Selection) (s : State), s.port.resetLow = false →
    (s.probe (slotOf port)).state = .syncing → s.registry.session.state = .capturing →
    s.registry.session.selection = some x →
    (∃ c ∈ s.registry.session.captures, c.slot = slotOf port ∧ c.outstanding = true) →
    ∃ t, exec (.calRead port raw) s = .next t
      ∧ t.registry.session.captures = s.registry.session.captures.map (fun c =>
          if c.slot = slotOf port then
            ⟨c.slot, false, some (candidate x.kind raw.toInt
              ((s.probe (slotOf port)).coeff x.range).offset)⟩
          else c)
      ∧ t.registry.session.selection = some x
      ∧ ((∃ c ∈ s.registry.session.captures, c.slot ≠ slotOf port ∧ c.outstanding = true) →
          t.registry.session.state = .capturing
          ∧ t.registry.session.deadline = s.registry.session.deadline ∧ t.port = s.port)
      ∧ ((∀ c ∈ s.registry.session.captures, c.slot ≠ slotOf port → c.outstanding = false) →
          t.registry.session.state = .held ∧ t.registry.session.deadline = none
          ∧ t.port = s.port.raise .cal)
      ∧ t.registry.probes = s.registry.probes ∧ t.timer = s.timer ∧ t.engine = s.engine
      ∧ t.links = s.links ∧ t.spot = s.spot ∧ t.router = s.router ∧ t.plans = s.plans
      ∧ t.store = s.store)
  ∧ (∀ (port : Port) (raw : Half) (s : State), s.port.resetLow = false →
    (s.probe (slotOf port)).state ≠ .syncing ∨ s.registry.session.awaits (slotOf port) = false →
    exec (.calRead port raw) s = .next (stray (slotOf port) (hearProbe (slotOf port) s)))
  ∧ (∀ r f : Int, -4096 ≤ r → r ≤ 4096 → candidate .offset r f = .candidate r)
  ∧ (∀ r f : Int, r < -4096 ∨ 4096 < r → candidate .offset r f = .failed .outOfBounds)
  ∧ (∀ r f v : Int, candidate .gain r f = .candidate v →
      16384 ≤ v ∧ v ≤ 49152 ∧ 0 < r - f ∧ 2 * (v * (r - f)) ≤ 2 * 786432000 + (r - f)
      ∧ 2 * 786432000 - (r - f) < 2 * (v * (r - f)))
  ∧ (∀ (d : Nat) (s : State), s.port.resetLow = false → s.registry.session.state = .capturing →
    s.registry.session.deadline = some d →
    (d ≤ s.clock →
      exec .captureDeadline s
        = .next ((s.withSession { s.registry.session with
            state := .held, deadline := none,
            captures := s.registry.session.captures.map (fun c =>
              if c.outstanding = true then ⟨c.slot, false, some (.failed .noAnswer)⟩ else c)
            }).withPort (s.port.raise .cal)))
    ∧ (s.clock < d → exec .captureDeadline s = .next s))

/-- CAL ACCEPT puts every candidate into use at its probe and begins the fixture record write; STATE,
INVALID and BUSY come in that order (R136). -/
def Obligations.CalAcceptPutsCandidatesIntoUse : Prop :=
  ∀ s : State, s.serves = true →
    (∀ x, s.registry.session.state = .held → s.registry.session.selection = some x →
      (candidateSlots s.registry.session.captures ≠ [] → s.store.state = .idle →
        (s.registry.session.captures.map CaptureEntry.slot).Nodup →
        ∃ t, exec (.calAccept (requestCrc 0x52 [])) s = .next t
          ∧ (∀ c ∈ s.registry.session.captures, ∀ v, c.result = some (.candidate v) →
              1 ≤ c.slot → c.slot ≤ 18 →
              t.probe c.slot = (s.probe c.slot).mapCoeff x.affected (fun k => k.put x.kind v))
          ∧ (∀ n, n ∉ candidateSlots s.registry.session.captures → t.probe n = s.probe n)
          ∧ t.registry.session = ⟨.writing, none, [], none⟩
          ∧ t.registry.calWrite
              = some ⟨candidateSlots s.registry.session.captures, x.affected, .calibrated⟩
          ∧ t.registry.ports = s.registry.ports
          ∧ t.store = { s.store with
              state := .busy .fixtureWrite, latestEnd := s.clock + 40000 }
          ∧ t.port = { s.port with answer := some ⟨.accepted, []⟩ }
          ∧ t.timer = s.timer ∧ t.engine = s.engine ∧ t.links = s.links ∧ t.spot = s.spot
          ∧ t.router = s.router ∧ t.plans = s.plans)
      ∧ (candidateSlots s.registry.session.captures = [] →
        exec (.calAccept (requestCrc 0x52 [])) s = .next (s.answered ⟨.invalid, []⟩))
      ∧ (candidateSlots s.registry.session.captures ≠ [] → s.store.state ≠ .idle →
        exec (.calAccept (requestCrc 0x52 [])) s = .next (s.answered ⟨.busy, []⟩)))
    ∧ (s.registry.session.state ≠ .held →
      exec (.calAccept (requestCrc 0x52 [])) s = .next (s.answered ⟨.state, []⟩))

/-- CAL REVERT makes the chosen coefficients of every slot of the set the defaults and begins the fixture
record write; STATE, RANGE and BUSY come in that order (R138, log 21). -/
def Obligations.CalRevertRestoresDefaults : Prop :=
  ∀ (slots : BitVec 24) (ranges : Byte) (s : State), s.serves = true →
    (s.timer.run = .stopped →
      s.registry.session.state = .idle ∨ s.registry.session.state = .held →
      (∀ r, RangeChoice.ofCode ranges = some r →
        (∃ n, 1 ≤ n ∧ n ≤ 18 ∧ slots.getLsbD (n - 1) = true) →
        (s.store.state = .idle →
          ∃ t, exec (.calRevert slots ranges (requestCrc 0x53 (threeBytes slots ++ [ranges]))) s
              = .next t
            ∧ (∀ n, 1 ≤ n → n ≤ 18 → t.probe n =
                if slots.getLsbD (n - 1) = true then
                  { s.probe n with
                    coeffLow := if r = .high then (s.probe n).coeffLow else ⟨0, 32768⟩
                    coeffHigh := if r = .low then (s.probe n).coeffHigh else ⟨0, 32768⟩ }
                else s.probe n)
            ∧ t.registry.session = ⟨.writing, none, [], none⟩
            ∧ t.registry.calWrite
                = some ⟨allSlots.filter (fun n => slots.getLsbD (n - 1)), r, .default⟩
            ∧ t.registry.ports = s.registry.ports
            ∧ t.store = { s.store with
                state := .busy .fixtureWrite, latestEnd := s.clock + 40000 }
            ∧ t.port = { s.port with answer := some ⟨.accepted, []⟩ }
            ∧ t.timer = s.timer ∧ t.engine = s.engine ∧ t.links = s.links ∧ t.spot = s.spot
            ∧ t.router = s.router ∧ t.plans = s.plans)
        ∧ (s.store.state ≠ .idle →
          exec (.calRevert slots ranges (requestCrc 0x53 (threeBytes slots ++ [ranges]))) s
            = .next (s.answered ⟨.busy, []⟩)))
      ∧ (RangeChoice.ofCode ranges = none ∨ (∀ n, 1 ≤ n → n ≤ 18 → slots.getLsbD (n - 1) = false) →
        exec (.calRevert slots ranges (requestCrc 0x53 (threeBytes slots ++ [ranges]))) s
          = .next (s.answered ⟨.range, []⟩)))
    ∧ (s.timer.run ≠ .stopped ∨ s.registry.session.state = .capturing
        ∨ s.registry.session.state = .writing →
      exec (.calRevert slots ranges (requestCrc 0x53 (threeBytes slots ++ [ranges]))) s
        = .next (s.answered ⟨.state, []⟩))

/-! ## The Plan Store (R167 to R177) -/

/-- STORE WRITE ENABLE sets the latch; SAVE, ERASE and LOCK start with it set on an IDLE store and clear
it; RANGE, BUSY, NO_LATCH, LOCKED and INVALID come in that order, and LOCKED clears the latch (R169 to
R172). -/
def Obligations.StoreWritesNeedTheLatch : Prop :=
  ∀ (slot : Byte) (label : Vector Byte 8) (s : State), s.serves = true →
    exec (.storeWriteEnable (requestCrc 0x60 [])) s
        = .next ((s.withStore { s.store with latch := true }).answered ⟨.done, []⟩)
    ∧ (∀ n : Fin 4, slot.toNat = n.val → s.store.state = .idle → s.store.latch = true →
      (s.storeSlot n).locked = false →
      (labelFits label = true →
        exec (.storeSave slot label (requestCrc 0x61 (slot :: label.toList))) s
          = .next ((s.withStore { s.store with
              latch := false, state := .busy (.save n), latestEnd := s.clock + 250000,
              saveCopy := some ⟨s.plans.shadow, label⟩,
              slots := Tab.put s.store.slots n.val
                { s.storeSlot n with state := .invalid, content := none } }).answered
              ⟨.accepted, []⟩))
      ∧ exec (.storeErase slot (requestCrc 0x63 [slot])) s
          = .next ((s.withStore { s.store with
              latch := false, state := .busy (.erase n), latestEnd := s.clock + 120000,
              slots := Tab.put s.store.slots n.val
                { s.storeSlot n with state := .invalid, content := none } }).answered
              ⟨.accepted, []⟩)
      ∧ ((s.storeSlot n).state = .valid →
        exec (.storeLock slot (requestCrc 0x64 [slot])) s
          = .next ((s.withStore { s.store with
              latch := false, state := .busy (.lock n), latestEnd := s.clock + 10000 }).answered
              ⟨.accepted, []⟩))
      ∧ ((s.storeSlot n).state ≠ .valid →
        exec (.storeLock slot (requestCrc 0x64 [slot])) s = .next (s.answered ⟨.invalid, []⟩)))
    ∧ (∀ c, c = .storeErase slot (requestCrc 0x63 [slot])
        ∨ c = .storeLock slot (requestCrc 0x64 [slot])
        ∨ (c = .storeSave slot label (requestCrc 0x61 (slot :: label.toList)) ∧ labelFits label = true) →
      (4 ≤ slot.toNat → exec c s = .next (s.answered ⟨.range, []⟩))
      ∧ (slot.toNat < 4 → s.store.state ≠ .idle → exec c s = .next (s.answered ⟨.busy, []⟩))
      ∧ (slot.toNat < 4 → s.store.state = .idle → s.store.latch = false →
        exec c s = .next (s.answered ⟨.noLatch, []⟩))
      ∧ (∀ n : Fin 4, slot.toNat = n.val → s.store.state = .idle → s.store.latch = true →
        (s.storeSlot n).locked = true →
        exec c s = .next ((s.withStore { s.store with latch := false }).answered ⟨.locked, []⟩)))
    ∧ (labelFits label = false →
      exec (.storeSave slot label (requestCrc 0x61 (slot :: label.toList))) s
        = .next (s.answered ⟨.range, []⟩))

/-- STORE LOAD starts on a VALID slot while no apply is pending, and STORE SET BOOT sets the boot slot and
starts a fixture record write; their refusals come in the order of R170 (R170, R173, R174). -/
def Obligations.StoreLoadAndSetBootStart : Prop :=
  ∀ (slot : Byte) (s : State), s.serves = true →
    (∀ n : Fin 4, slot.toNat = n.val →
      (s.store.state = .idle → (s.storeSlot n).state = .valid → s.plans.applyPending = false →
        exec (.storeLoad slot (requestCrc 0x62 [slot])) s
          = .next ((s.withStore { s.store with
              state := .busy (.load n), latestEnd := s.clock + 20000 }).answered ⟨.accepted, []⟩))
      ∧ (s.store.state ≠ .idle →
        exec (.storeLoad slot (requestCrc 0x62 [slot])) s = .next (s.answered ⟨.busy, []⟩))
      ∧ (s.store.state = .idle → (s.storeSlot n).state ≠ .valid →
        exec (.storeLoad slot (requestCrc 0x62 [slot])) s = .next (s.answered ⟨.invalid, []⟩))
      ∧ (s.store.state = .idle → (s.storeSlot n).state = .valid → s.plans.applyPending = true →
        exec (.storeLoad slot (requestCrc 0x62 [slot])) s = .next (s.answered ⟨.held, []⟩)))
    ∧ (4 ≤ slot.toNat →
      exec (.storeLoad slot (requestCrc 0x62 [slot])) s = .next (s.answered ⟨.range, []⟩))
    ∧ (∀ b : Option (Fin 4), slot.toNat = (match b with | some n => n.val | none => 255) →
      (s.store.state = .idle →
        exec (.storeSetBoot slot (requestCrc 0x65 [slot])) s
          = .next (((s.withStore { s.store with
              boot := b, state := .busy .fixtureWrite, latestEnd := s.clock + 40000 }).withRegistry
              { s.registry with calWrite := none }).answered ⟨.accepted, []⟩))
      ∧ (s.store.state ≠ .idle →
        exec (.storeSetBoot slot (requestCrc 0x65 [slot])) s = .next (s.answered ⟨.busy, []⟩)))
    ∧ (4 ≤ slot.toNat → slot.toNat ≠ 255 →
      exec (.storeSetBoot slot (requestCrc 0x65 [slot])) s = .next (s.answered ⟨.range, []⟩))

/-- The ends of SAVE, ERASE, LOCK and LOAD: IDLE, the last result, STORE, and on success the slot or the
shadow as R171 to R173 give; with no such operation in progress the command changes nothing (log 3). -/
def Obligations.StoreOperationsEnd : Prop :=
  ∀ (n : Fin 4) (s : State), s.port.resetLow = false →
    (∀ copy, s.store.state = .busy (.save n) → s.store.saveCopy = some copy →
      exec (.saveEnd true) s
        = .next ((s.withStore { s.store with
            state := .idle, lastResult := some ⟨.save n, true⟩, saveCopy := none,
            slots := Tab.put s.store.slots n.val { s.storeSlot n with
              state := .valid, label := copy.label, content := some copy.plan } }).withPort
            (s.port.raise .store)))
    ∧ (s.store.state = .busy (.save n) →
      exec (.saveEnd false) s
        = .next ((s.withStore { s.store with
            state := .idle, lastResult := some ⟨.save n, false⟩, saveCopy := none }).withPort
            (s.port.raise .store)))
    ∧ (s.store.state = .busy (.erase n) →
      exec (.eraseEnd true) s
        = .next ((s.withStore { s.store with
            state := .idle, lastResult := some ⟨.erase n, true⟩,
            slots := Tab.put s.store.slots n.val
              ⟨.empty, false, Vector.replicate 8 0x20, none⟩ }).withPort (s.port.raise .store))
      ∧ exec (.eraseEnd false) s
        = .next ((s.withStore { s.store with
            state := .idle, lastResult := some ⟨.erase n, false⟩ }).withPort (s.port.raise .store)))
    ∧ (s.store.state = .busy (.lock n) →
      exec (.lockEnd true) s
        = .next ((s.withStore { s.store with
            state := .idle, lastResult := some ⟨.lock n, true⟩,
            slots := Tab.put s.store.slots n.val { s.storeSlot n with locked := true } }).withPort
            (s.port.raise .store))
      ∧ exec (.lockEnd false) s
        = .next ((s.withStore { s.store with
            state := .idle, lastResult := some ⟨.lock n, false⟩ }).withPort (s.port.raise .store)))
    ∧ (∀ p, s.store.state = .busy (.load n) → (s.storeSlot n).content = some p →
      exec .loadEnd s
        = .next (((s.withStore { s.store with
            state := .idle, lastResult := some ⟨.load n, true⟩ }).withPlans
            { s.plans with shadow := p }).withPort (s.port.raise .store)))
    ∧ (s.store.state = .idle → ∀ passed, exec (.saveEnd passed) s = .next s
      ∧ exec (.eraseEnd passed) s = .next s ∧ exec (.lockEnd passed) s = .next s
      ∧ exec .loadEnd s = .next s ∧ exec (.fixtureWriteEnd passed) s = .next s)

/-- The end of a fixture record write: IDLE, the last result, STORE, the record whole or not valid, the state of
every range of every probe (the affected ones their target or CAL_BAD, every other CALIBRATED one CAL_BAD on
failure, every other CAL_BAD one recovered on success), and for a calibration CAL and the session IDLE (R137,
R168). -/
def Obligations.FixtureWriteEnds : Prop :=
  ∀ (passed : Bool) (s : State), s.port.resetLow = false → s.store.state = .busy .fixtureWrite →
    ∃ t, exec (.fixtureWriteEnd passed) s = .next t
      ∧ t.store = { s.store with
          state := .idle, lastResult := some ⟨.fixtureWrite, passed⟩, fixture := t.store.fixture }
      ∧ t.store.fixture.valid = passed
      ∧ (passed = false → t.store.fixture = { s.store.fixture with valid := false })
      ∧ (passed = true → t.store.fixture.boot = s.store.boot
          ∧ ∀ n, 1 ≤ n → n ≤ 18 → t.store.fixture.probe n
            = ⟨(s.probe n).coeffLow, (s.probe n).coeffHigh, (t.probe n).calLow,
                (t.probe n).calHigh⟩)
      ∧ (∀ n, 1 ≤ n → n ≤ 18 →
          t.probe n = { s.probe n with calLow := (t.probe n).calLow, calHigh := (t.probe n).calHigh })
      ∧ (∀ n w, 1 ≤ n → n ≤ 18 → s.registry.calWrite = some w → n ∈ w.slots →
          (w.ranges.covers .low = true →
            (t.probe n).calLow = if passed = true then w.target else .bad)
          ∧ (w.ranges.covers .high = true →
            (t.probe n).calHigh = if passed = true then w.target else .bad))
      ∧ (∀ n, 1 ≤ n → n ≤ 18 →
          (∀ w, s.registry.calWrite = some w → n ∉ w.slots ∨ w.ranges.covers .low = false) →
          (t.probe n).calLow =
            if passed = true then
              (if (s.probe n).calLow = .bad then
                (if (s.probe n).coeffLow = ⟨0, 32768⟩ then .default else .calibrated)
              else (s.probe n).calLow)
            else (if (s.probe n).calLow = .calibrated then .bad else (s.probe n).calLow))
      ∧ (∀ n, 1 ≤ n → n ≤ 18 →
          (∀ w, s.registry.calWrite = some w → n ∉ w.slots ∨ w.ranges.covers .high = false) →
          (t.probe n).calHigh =
            if passed = true then
              (if (s.probe n).calHigh = .bad then
                (if (s.probe n).coeffHigh = ⟨0, 32768⟩ then .default else .calibrated)
              else (s.probe n).calHigh)
            else (if (s.probe n).calHigh = .calibrated then .bad else (s.probe n).calHigh))
      ∧ (s.registry.calWrite = none →
          t.port = s.port.raise .store ∧ t.registry.session = s.registry.session)
      ∧ (s.registry.calWrite ≠ none →
          t.port = (s.port.raise .store).raise .cal ∧ t.registry.calWrite = none
          ∧ t.registry.session = (if s.registry.session.state = .writing then ⟨.idle, none, [], none⟩
              else s.registry.session))
      ∧ t.registry.ports = s.registry.ports ∧ t.timer = s.timer ∧ t.engine = s.engine
      ∧ t.links = s.links ∧ t.spot = s.spot ∧ t.router = s.router ∧ t.plans = s.plans

/-! ## Resets (R41, R66, R88, R175 to R177, R184, R185) -/

/-- SOFT RESET empties the run, the table, the queues, the flags and the transmit lists, and keeps the
plans, the links, the store's slots and the enables (R41, R66, R88, R128, R154, R156, R175, R180, R184). -/
def Obligations.SoftResetClearsTheRun : Prop :=
  ∀ s : State, s.serves = true →
    ∃ t, exec (.softReset (requestCrc 0x7F [])) s = .next t
      ∧ t.timer.run = .stopped ∧ t.timer.health = .clear ∧ t.timer.fixtureTime = 0
      ∧ t.timer.sweepNumber = 0 ∧ t.timer.sweepTime = 0 ∧ t.timer.pattern = 0
      ∧ t.timer.notStarted = false
      ∧ (∀ k, t.openAt k = none ∧ t.turn k = s.turn k + 1)
      ∧ t.engine.merged = none ∧ t.engine.free = none
      ∧ t.spot = [] ∧ t.router = ⟨⟨[], 0, false⟩, ⟨[], 0, false⟩⟩
      ∧ t.plans = { s.plans with applyPending := false }
      ∧ t.links = s.links
      ∧ t.store = { s.store with latch := false, lastResult := none }
      ∧ t.port = { s.port with flags := 0, answer := some ⟨.done, []⟩ }
      ∧ t.registry.session = ⟨.idle, none, [], none⟩ ∧ t.registry.calWrite = s.registry.calWrite
      ∧ (∀ n, 1 ≤ n → n ≤ 18 →
          (t.probe n).state =
            (if (s.probe n).state = .inStep then .syncing else (s.probe n).state)
          ∧ (t.probe n).current = none ∧ (t.probe n).queued = none
          ∧ (t.probe n).outstanding = none ∧ (t.probe n).missCount = 0
          ∧ ((t.probe n).state = .syncing → (t.probe n).syncCount = 0)
          ∧ (t.probe n).strayCount = (s.probe n).strayCount
          ∧ (t.probe n).coeffLow = (s.probe n).coeffLow
          ∧ (t.probe n).coeffHigh = (s.probe n).coeffHigh
          ∧ (t.portState n).transmit =
            (if (s.probe n).state = .absent then [] else [.park s.params.parkMode])
          ∧ (t.portState n).frameErrors = (s.portState n).frameErrors)

/-- A hard reset clears everything but the store slots and the fixture record, and releases MISO and ATTN#; a
fixture write in progress leaves the record not valid, and a LOCK in progress moves at most its own locked
flag; RESET# returning high begins start-up, and neither edge moves CS# (R168, R175, R178, R185). The
model's own among these values: the level of CS#, which is the station's (log 43), the free value of a LOCK cut short (log 6), no last answer (log 11), no frame
sent by either end of a line (log 14), both plans empty and the coefficients and states of the probes until
start-up loads them (log 9), fresh records of undefined ids (log 38), and no effect of START_UP_BEGIN while
RESET# is high (log 3). -/
def Obligations.HardResetKeepsTheStore : Prop :=
  ∀ s : State,
    (∃ t, exec .hardReset s = .next t
      ∧ t.port = ⟨0, 0, none, true, s.port.csLow⟩ ∧ t.misoReleased = true ∧ t.attnLow = false
      ∧ t.timer.run = .stopped ∧ t.timer.health = .clear ∧ t.timer.fixtureTime = 0
      ∧ t.timer.sweepNumber = 0
      ∧ (∀ k, t.openAt k = none ∧ t.turn k = 0) ∧ t.engine.merged = none ∧ t.engine.free = none
      ∧ (∀ n, t.probe n = ProbeEntry.reset ∧ t.portState n = ⟨[], 0, none, []⟩)
      ∧ t.registry.session = ⟨.idle, none, [], none⟩
      ∧ (∀ id, t.link id = LinkRecord.fresh 0) ∧ t.spot = []
      ∧ t.router = ⟨⟨[], 0, false⟩, ⟨[], 0, false⟩⟩
      ∧ t.plans = ⟨Plan.empty, Plan.empty, false, 0⟩
      ∧ t.store.state = .starting ∧ t.store.latch = false ∧ t.store.lastResult = none
      ∧ (∀ n, t.storeSlot n = { s.storeSlot n with locked := (t.storeSlot n).locked })
      ∧ (∀ n, s.store.state ≠ .busy (.lock n) → t.storeSlot n = s.storeSlot n)
      ∧ (∀ n, (s.storeSlot n).locked = true → (t.storeSlot n).locked = true)
      ∧ (s.store.state ≠ .busy .fixtureWrite → t.store.fixture = s.store.fixture)
      ∧ (s.store.state = .busy .fixtureWrite →
          t.store.fixture = { s.store.fixture with valid := false }))
    ∧ (s.port.resetLow = true →
      exec .startUpBegin s = .next (s.withPort { s.port with resetLow := false }))
    ∧ (s.port.resetLow = false → exec .startUpBegin s = .next s)

/-- The end of start-up: the slots checked, the coefficients loaded, the boot plan chosen, every link fresh, the
messages held back handed to their ports, IDLE and STORE (R175, R176, R177). The model's own: that the slots
which do not check are the operand of the command (log 7), that records of undefined ids are fresh (log 38),
that a SPOTANS may be among the messages held and that all go in the order held (log 28), and that the command
has no effect outside start-up (log 3). -/
def Obligations.StartUpEndLoadsTheBootPlan : Prop :=
  ∀ (damaged : BitVec 4) (s : State),
    (s.store.state = .starting → s.port.resetLow = false →
      ∃ t boot, exec (.startUpEnd damaged) s = .next t
        ∧ boot = (if s.store.fixture.valid = true then s.store.fixture.boot else none)
        ∧ t.store.state = .idle ∧ t.port = s.port.raise .store ∧ t.store.boot = boot
        ∧ t.store.fixture = s.store.fixture ∧ t.store.held = []
        ∧ (∀ n, t.storeSlot n =
            if damaged.getLsbD n.val = true ∧ (s.storeSlot n).state = .valid
                ∧ (s.storeSlot n).locked = false then
              { s.storeSlot n with state := .invalid, content := none }
            else s.storeSlot n)
        ∧ t.plans.generation = 0 ∧ t.plans.applyPending = false
        ∧ (boot = none → t.store.bootResult = some .none ∧ t.plans.shadow = Plan.empty
            ∧ t.plans.active = Plan.empty)
        ∧ (∀ n p, boot = some n → (t.storeSlot n).state = .valid →
            (t.storeSlot n).content = some p →
            t.plans.shadow = p
            ∧ (p.validate 0 = none →
                t.store.bootResult = some .loaded ∧ t.plans.active = p)
            ∧ (p.validate 0 ≠ none →
                t.store.bootResult = some .planInvalid ∧ t.plans.active = Plan.empty))
        ∧ (∀ n, boot = some n → (t.storeSlot n).state ≠ .valid →
            t.store.bootResult = some .slotNotValid ∧ t.plans.shadow = Plan.empty
            ∧ t.plans.active = Plan.empty)
        ∧ (∀ id, t.link id = LinkRecord.fresh 0)
        ∧ (∀ n, 1 ≤ n → n ≤ 18 →
            (t.probe n).policy = t.params.policy n
            ∧ (t.probe n).setupOutstanding =
                ((s.probe n).setupOutstanding || s.store.held.contains (.setup n))
            ∧ t.portState n = (s.store.held.filterMap (HeldMessage.messageFor t.params n)).foldl
                PortState.hand (s.portState n)
            ∧ (t.probe n).state = (s.probe n).state ∧ (t.probe n).serial = (s.probe n).serial
            ∧ (s.store.fixture.valid = false →
                (t.probe n).coeffLow = ⟨0, 32768⟩ ∧ (t.probe n).coeffHigh = ⟨0, 32768⟩
                ∧ (t.probe n).calLow = .default ∧ (t.probe n).calHigh = .default)
            ∧ (s.store.fixture.valid = true →
                (t.probe n).coeffLow = (s.store.fixture.probe n).coeffLow
                ∧ (t.probe n).coeffHigh = (s.store.fixture.probe n).coeffHigh
                ∧ (t.probe n).calLow = (s.store.fixture.probe n).calLow
                ∧ (t.probe n).calHigh = (s.store.fixture.probe n).calHigh))
        ∧ t.timer = s.timer ∧ t.engine = s.engine ∧ t.spot = s.spot ∧ t.router = s.router
        ∧ t.registry.session = s.registry.session)
    ∧ (s.store.state ≠ .starting ∨ s.port.resetLow = true →
      exec (.startUpEnd damaged) s = .next s)

/-! ## Messages of the probes (R43 to R62, R186) -/

/-- HELLO registers a probe as UNCONFIGURED whatever its state, drops its assignments and counts, and calls
for SETUP; a capture that awaits it loses it with LEFT_SYNCING, and ends when it was the last awaited; with the
run STOPPED nothing else of the part moves but the PROBE record (R47, R54, R134, R176). A geographic code above
31 is a discarded frame (R186). -/
def Obligations.HelloRegistersTheProbe : Prop :=
  ∀ (port : Port) (serial : Word) (code power : Byte) (s : State), s.port.resetLow = false →
    (code.toNat ≤ 31 →
      ∃ t, exec (.hello port serial code power) s = .next t
        ∧ (t.probe (slotOf port)).state = .unconfigured
        ∧ (t.probe (slotOf port)).serial = some serial
        ∧ (t.probe (slotOf port)).geoCode = some code
        ∧ (t.probe (slotOf port)).codeMismatch = (code.toNat != slotOf port)
        ∧ (t.probe (slotOf port)).codeChanged = false
        ∧ (t.probe (slotOf port)).mainPower = power.getLsbD 0
        ∧ (t.probe (slotOf port)).auxPower = power.getLsbD 1
        ∧ (t.probe (slotOf port)).fault = none
        ∧ (t.probe (slotOf port)).current = none ∧ (t.probe (slotOf port)).queued = none
        ∧ (t.probe (slotOf port)).outstanding = none
        ∧ (t.probe (slotOf port)).syncCount = 0 ∧ (t.probe (slotOf port)).missCount = 0
        ∧ (t.probe (slotOf port)).setupOutstanding = true
        ∧ (t.probe (slotOf port)).strayCount = (s.probe (slotOf port)).strayCount
        ∧ (t.probe (slotOf port)).coeffLow = (s.probe (slotOf port)).coeffLow
        ∧ (t.probe (slotOf port)).coeffHigh = (s.probe (slotOf port)).coeffHigh
        ∧ t.plans = s.plans
        ∧ ((s.probe (slotOf port)).state = .syncing → s.registry.session.awaits (slotOf port) = true →
            t.registry.session.captures = s.registry.session.captures.map (fun c =>
              if c.slot = slotOf port then ⟨c.slot, false, some (.failed .leftSyncing)⟩ else c)
            ∧ t.registry.session.selection = s.registry.session.selection
            ∧ ((∃ c ∈ s.registry.session.captures, c.slot ≠ slotOf port ∧ c.outstanding = true) →
              t.registry.session.state = .capturing
              ∧ t.registry.session.deadline = s.registry.session.deadline)
            ∧ ((∀ c ∈ s.registry.session.captures, c.slot ≠ slotOf port → c.outstanding = false) →
              t.registry.session.state = .held ∧ t.registry.session.deadline = none
              ∧ t.port.isSet .cal = true))
        ∧ ((s.probe (slotOf port)).state ≠ .syncing
            ∨ s.registry.session.awaits (slotOf port) = false →
            t.registry.session = s.registry.session)
        ∧ (s.timer.run = .stopped →
            t.timer = s.timer ∧ t.engine = s.engine ∧ t.links = s.links ∧ t.spot = s.spot
            ∧ (∀ n, n ≠ slotOf port → t.probe n = s.probe n ∧ t.portState n = s.portState n)
            ∧ (s.starting = false → t.store = s.store ∧ t.portState (slotOf port)
                = { s.portState (slotOf port) with lastFrame := some .probe }.hand
                  (.setup (s.params.policy (slotOf port)) s.params.parkMode))
            ∧ (s.starting = true →
                t.store = { s.store with held := s.store.held ++ [.setup (slotOf port)] }
                ∧ t.portState (slotOf port)
                  = { s.portState (slotOf port) with lastFrame := some .probe })
            ∧ ((s.probe (slotOf port)).state ≠ .unconfigured → t.port.isSet .probe = true
                ∧ t.router = (hand { ResultRecord.blank .probe s.timer.sweepNumber s.timer.sweepTime with
                    slot := some (slotOf port), newState := some .unconfigured } s).router)
            ∧ ((s.probe (slotOf port)).state = .unconfigured →
                t.router = s.router ∧ t.port = s.port)))
    ∧ (31 < code.toNat →
      exec (.hello port serial code power) s
        = .next (s.setPortState (slotOf port) { s.portState (slotOf port) with
            lastFrame := some .probe,
            frameErrors := satInc 65535 (s.portState (slotOf port)).frameErrors }))

/-- SETUPACK takes a configured probe with a SETUP outstanding on to SYNCING, and a timely MARKACK counts
towards IN_STEP or takes a LOST probe to SYNCING; any other is stray (R46, R48, R49, R50, R52). -/
def Obligations.AcknowledgementsMoveTheProbe : Prop :=
  ∀ (port : Port) (sweep : Word) (s : State), s.port.resetLow = false →
    ((s.probe (slotOf port)).state = .unconfigured → (s.probe (slotOf port)).setupOutstanding = true →
      ∃ t, exec (.setupAck port) s = .next t
        ∧ t.probe (slotOf port) = { s.probe (slotOf port) with
            state := .syncing, setupOutstanding := false, outstanding := none, syncCount := 0,
            missCount := 0 }
        ∧ (∀ n, n ≠ slotOf port → t.probe n = s.probe n) ∧ t.port.isSet .probe = true
        ∧ t.timer = s.timer ∧ t.engine = s.engine ∧ t.links = s.links ∧ t.spot = s.spot
        ∧ t.plans = s.plans ∧ t.store = s.store)
    ∧ ((s.probe (slotOf port)).state ≠ .unconfigured → (s.probe (slotOf port)).state ≠ .absent →
      (s.probe (slotOf port)).setupOutstanding = true →
      exec (.setupAck port) s
        = .next ((hearProbe (slotOf port) s).setProbe (slotOf port)
            { s.probe (slotOf port) with setupOutstanding := false }))
    ∧ ((s.probe (slotOf port)).state = .absent ∨ (s.probe (slotOf port)).setupOutstanding = false →
      exec (.setupAck port) s = .next (stray (slotOf port) (hearProbe (slotOf port) s)))
    ∧ ((s.probe (slotOf port)).outstanding = some sweep →
      ((s.probe (slotOf port)).state = .syncing → 1 ≤ (s.probe (slotOf port)).syncCount →
        ∃ t, exec (.markAck port sweep) s = .next t
          ∧ t.probe (slotOf port) = { s.probe (slotOf port) with
              state := .inStep, outstanding := none, missCount := 0,
              syncCount := (s.probe (slotOf port)).syncCount + 1 }
          ∧ (∀ n, n ≠ slotOf port → t.probe n = s.probe n) ∧ t.port.isSet .probe = true
          ∧ t.timer = s.timer ∧ t.engine = s.engine ∧ t.links = s.links ∧ t.spot = s.spot
          ∧ t.plans = s.plans ∧ t.store = s.store)
      ∧ ((s.probe (slotOf port)).state = .syncing → (s.probe (slotOf port)).syncCount = 0 →
        exec (.markAck port sweep) s
          = .next ((hearProbe (slotOf port) s).setProbe (slotOf port)
              { s.probe (slotOf port) with outstanding := none, missCount := 0, syncCount := 1 }))
      ∧ ((s.probe (slotOf port)).state = .inStep →
        exec (.markAck port sweep) s
          = .next ((hearProbe (slotOf port) s).setProbe (slotOf port)
              { s.probe (slotOf port) with outstanding := none, missCount := 0 }))
      ∧ ((s.probe (slotOf port)).state = .lost →
        ∃ t, exec (.markAck port sweep) s = .next t
          ∧ t.probe (slotOf port) = { s.probe (slotOf port) with
              state := .syncing, outstanding := none, missCount := 0, syncCount := 1 }
          ∧ (∀ n, n ≠ slotOf port → t.probe n = s.probe n) ∧ t.port.isSet .probe = true
          ∧ t.timer = s.timer ∧ t.engine = s.engine ∧ t.links = s.links ∧ t.spot = s.spot
          ∧ t.plans = s.plans ∧ t.store = s.store))
    ∧ ((s.probe (slotOf port)).outstanding ≠ some sweep
        ∨ (s.probe (slotOf port)).state = .absent ∨ (s.probe (slotOf port)).state = .unconfigured
        ∨ (s.probe (slotOf port)).state = .faulted →
      exec (.markAck port sweep) s = .next (stray (slotOf port) (hearProbe (slotOf port) s)))

/-- STATUS sets the power flags and the code-changed flag; a non-zero fault code takes the probe to FAULTED
and clears its assignments when it was IN_STEP; in RUNNING and PAUSING that exit from IN_STEP halts the run
with health SEVERE when fewer plan probes than the quorum stay IN_STEP, with PARK when no step is open (R36,
R38); a capture that awaits the probe loses it with LEFT_SYNCING (R134); from an ABSENT probe it is stray, and a
geographic code above 31 is a discarded frame (R46, R53, R54, R186). -/
def Obligations.StatusUpdatesTheProbe : Prop :=
  ∀ (port : Port) (power fault code : Byte) (s : State), s.port.resetLow = false →
    (code.toNat ≤ 31 → (s.probe (slotOf port)).state ≠ .absent →
      ∃ t, exec (.statusReport port power fault code) s = .next t
        ∧ (t.probe (slotOf port)).mainPower = power.getLsbD 0
        ∧ (t.probe (slotOf port)).auxPower = power.getLsbD 1
        ∧ (t.probe (slotOf port)).codeChanged
            = ((s.probe (slotOf port)).codeChanged || (s.probe (slotOf port)).geoCode != some code)
        ∧ (t.probe (slotOf port)).geoCode = (s.probe (slotOf port)).geoCode
        ∧ (t.probe (slotOf port)).strayCount = (s.probe (slotOf port)).strayCount
        ∧ (fault = 0 → (t.probe (slotOf port)).state = (s.probe (slotOf port)).state
            ∧ (t.probe (slotOf port)).fault = (s.probe (slotOf port)).fault)
        ∧ (fault ≠ 0 → (t.probe (slotOf port)).state = .faulted
            ∧ (t.probe (slotOf port)).fault = some fault
            ∧ ((s.probe (slotOf port)).state = .inStep →
                (t.probe (slotOf port)).current = none ∧ (t.probe (slotOf port)).queued = none))
        ∧ (fault ≠ 0 → (s.probe (slotOf port)).state = .syncing →
            s.registry.session.awaits (slotOf port) = true →
            t.registry.session.captures = s.registry.session.captures.map (fun c =>
              if c.slot = slotOf port then ⟨c.slot, false, some (.failed .leftSyncing)⟩ else c)
            ∧ t.registry.session.selection = s.registry.session.selection
            ∧ ((∃ c ∈ s.registry.session.captures, c.slot ≠ slotOf port ∧ c.outstanding = true) →
              t.registry.session.state = .capturing
              ∧ t.registry.session.deadline = s.registry.session.deadline)
            ∧ ((∀ c ∈ s.registry.session.captures, c.slot ≠ slotOf port → c.outstanding = false) →
              t.registry.session.state = .held ∧ t.registry.session.deadline = none
              ∧ t.port.isSet .cal = true))
        ∧ (fault = 0 ∨ (s.probe (slotOf port)).state ≠ .syncing
            ∨ s.registry.session.awaits (slotOf port) = false →
            t.registry.session = s.registry.session)
        ∧ (fault ≠ 0 → (s.probe (slotOf port)).state = .inStep →
            s.timer.run = .running ∨ s.timer.run = .pausing →
            ∃ left, left = s.active.planSlots.countP (fun n =>
                n != slotOf port && (s.probe n).state == .inStep)
              ∧ (left < s.params.quorum.toNat →
                t.timer.run = .halted ∧ t.timer.health = .severe ∧ t.port.isSet .run = true
                ∧ (s.timer.health ≠ .severe → t.port.isSet .health = true)
                ∧ (s.tableEmpty = true → t.timer.sweepActive = false ∧ t.engine.merged = none
                  ∧ t.engine.free = none
                  ∧ ∀ n, 1 ≤ n → n ≤ 18 → t.portState n =
                      (if (s.probe n).state = .absent then s.portState n
                      else ((hearProbe (slotOf port) s).portState n).hand
                        (.park s.params.parkMode))))
              ∧ (s.params.quorum.toNat ≤ left →
                t.timer.run = s.timer.run ∧ t.timer.health = s.timer.health))
        ∧ t.plans = s.plans ∧ t.store = s.store
        ∧ (s.timer.run = .stopped →
            (∀ n, n ≠ slotOf port → t.probe n = s.probe n)
            ∧ t.timer = s.timer ∧ t.engine = s.engine ∧ t.links = s.links ∧ t.spot = s.spot
            ∧ (fault = 0 → t.router = s.router ∧ t.port = s.port)
            ∧ (fault ≠ 0 → (s.probe (slotOf port)).state ≠ .faulted →
                t.port.isSet .probe = true)))
    ∧ (code.toNat ≤ 31 → (s.probe (slotOf port)).state = .absent →
      exec (.statusReport port power fault code) s
        = .next (stray (slotOf port) (hearProbe (slotOf port) s)))
    ∧ (31 < code.toNat →
      exec (.statusReport port power fault code) s
        = .next (s.setPortState (slotOf port) { s.portState (slotOf port) with
            lastFrame := some .probe,
            frameErrors := satInc 65535 (s.portState (slotOf port)).frameErrors }))

/-- A report is accepted when its sender is IN_STEP, its tag names an open step of that turn, and the sender
is a participant of it that awaits such a report and holds its assignment; it is stored, and the step closes
when none is awaited any more; any other report is stray (R60, R61, R62, R81). A report whose fields fail their
value check (tag bit 7, a result or a wire-off above 1, the loss position of a LOST above 5) is a discarded
frame (R45, R186). -/
def Obligations.ReportsAreAcceptedOrStray : Prop :=
  (∀ (c : Instr) (port : Port) (s : State), s.port.resetLow = false →
    ((∃ tag result, c = .doneReport port tag result ∧ (128 ≤ tag.toNat ∨ 1 < result.toNat))
      ∨ (∃ tag raw errors wireOff, c = .readingReport port tag raw errors wireOff
          ∧ (128 ≤ tag.toNat ∨ 1 < wireOff.toNat))
      ∨ (∃ tag result position wireOff, c = .contresReport port tag result position wireOff
          ∧ (128 ≤ tag.toNat ∨ 1 < result.toNat ∨ 1 < wireOff.toNat
            ∨ (result = 1 ∧ 5 < position.toNat)))) →
    exec c s = .next (s.setPortState (slotOf port) { s.portState (slotOf port) with
      lastFrame := some .probe,
      frameErrors := satInc 65535 (s.portState (slotOf port)).frameErrors }))
  ∧ (∀ tag : Byte, (tag.toNat < 128 ↔ Tag.ofByte tag ≠ none)
    ∧ ∀ k, Tag.ofByte tag = some k →
      tag.toNat = 16 * k.slot.val + k.turn.toNat)
  ∧ ∀ (c : Instr) (port : Port) (tag : Byte) (r : Report) (k : Tag) (s : State),
    s.port.resetLow = false → Tag.ofByte tag = some k →
    ((∃ result, c = .doneReport port tag result ∧ result.toNat ≤ 1 ∧ r = .drive (result == 1))
      ∨ (∃ raw errors wireOff, c = .readingReport port tag raw errors wireOff ∧ wireOff.toNat ≤ 1
          ∧ r = .reading raw errors (wireOff == 1))
      ∨ (∃ result position wireOff, c = .contresReport port tag result position wireOff
          ∧ result.toNat ≤ 1 ∧ wireOff.toNat ≤ 1 ∧ (result = 0 ∨ position.toNat ≤ 5)
          ∧ r = .contest (result == 1) position.toNat (wireOff == 1))) →
    (∀ o, s.acceptor (slotOf port) k r = some o ↔
      (s.probe (slotOf port)).state = .inStep ∧ s.turn k.slot = k.turn ∧ s.openAt k.slot = some o
      ∧ ((∃ a, (s.probe (slotOf port)).current = some a ∧ a.tag = k)
        ∨ (∃ a, (s.probe (slotOf port)).queued = some a ∧ a.tag = k))
      ∧ ∃ p ∈ o.participants, p.slot = slotOf port ∧ p.state = .awaited ∧ p.role.reports r = true)
    ∧ (s.acceptor (slotOf port) k r = none →
      exec c s = .next (stray (slotOf port) (hearProbe (slotOf port) s)))
    ∧ (∀ o, s.acceptor (slotOf port) k r = some o →
      ∃ t, exec c s = .next t ∧ t.store = s.store
        ∧ ((o.receive (slotOf port) r).complete = false →
            t.openAt k.slot = some (o.receive (slotOf port) r) ∧ t.turn k.slot = s.turn k.slot
            ∧ (t.probe (slotOf port)).missCount = 0 ∧ t.plans = s.plans
            ∧ (s.timer.run ≠ .running →
                t.probe (slotOf port) = { (s.probe (slotOf port)).endAssignment k
                  (s.params.policy (slotOf port)) with missCount := 0 }
                ∧ (∀ n, n ≠ slotOf port → t.probe n = s.probe n)
                ∧ (∀ j, j ≠ k.slot → t.openAt j = s.openAt j) ∧ t.timer = s.timer
                ∧ t.links = s.links ∧ t.spot = s.spot ∧ t.router = s.router ∧ t.port = s.port))
        ∧ ((o.receive (slotOf port) r).complete = true →
            (s.timer.run = .running → s.engine.merged = none ∧ s.engine.free = none) →
            t.openAt k.slot = none ∧ t.turn k.slot = s.turn k.slot))

/-- The judgement of a step that a report closes. In a RUNNING part with no window open, a READING that
completes a step of one EXPECT listener under a LEVEL class gives the test link the outcome of its band, and no
other link changes; a report that completes any step moves its links and the Spot Queue by the closure outcome
(R81, R83, R98, R103 to R106, R109 to R111, R116, R121). That outcome is VOID_REDEFINED for a link redefined or
removed; VOID_TALKER, VOID_MISSING or the first finding of the worst group for a DRIVEN step; and VOID_MISSING,
OPEN_SEEN, CONTENTION or IN for a CONTENDED one, judged against the arbitration that the codes give (R101,
R104, R105, R107, R108). -/
def Obligations.LevelReadingJudgesItsLink : Prop :=
  (∀ (port : Port) (tag : Byte) (raw errors : Half) (k : Tag) (i : Nat) (o : OpenStep) (s : State),
    s.port.resetLow = false → Tag.ofByte tag = some k → s.timer.run = .running →
    s.engine.merged = none → s.engine.free = none →
    s.acceptor (slotOf port) k (.reading raw errors false) = some o →
    o.participants = [⟨slotOf port, .expect, some i, none, none, .awaited, none⟩] →
    o.form = .driven → o.withdrawn = false → s.linkDefined o.testLink = true →
    (s.link o.testLink).definedIn ≤ o.generation →
    (s.active.cls i).defined = true → (s.active.cls i).measure = .level →
    ∃ t v, exec (.readingReport port tag raw errors 0) s = .next t
      ∧ v = (s.active.cls i).corrected (s.probe (slotOf port)) raw
      ∧ t.link o.testLink = (s.link o.testLink).judged
          (s.active.cls (s.active.link o.testLink).cls.toNat)
          ⟨levelOutcome (s.active.cls i).lowLimit (s.active.cls i).highLimit
            (s.active.cls i).margin.toNat v, some v, none⟩
          o.source s.timer.sweepNumber s.timer.sweepTime
      ∧ (∀ id, id ≠ o.testLink → t.link id = s.link id)
      ∧ t.timer.run = .running ∧ t.plans = s.plans ∧ t.store = s.store)
  ∧ (∀ (c : Instr) (port : Port) (k : Tag) (r : Report) (o : OpenStep) (s : State),
    reportOf c = some (port, k, r) → s.port.resetLow = false → s.timer.run = .running →
    s.engine.merged = none → s.engine.free = none →
    s.acceptor (slotOf port) k r = some o → (o.receive (slotOf port) r).complete = true →
    ∃ t f, exec c s = .next t ∧ f = s.closureFinding (o.receive (slotOf port) r)
      ∧ s.closureMovesLinks t (o.receive (slotOf port) r) f
      ∧ s.closureMovesSpot t k (o.receive (slotOf port) r) f
      ∧ t.openAt k.slot = none ∧ (∀ j, j ≠ k.slot → t.openAt j = s.openAt j)
      ∧ (∀ j, t.turn j = s.turn j) ∧ t.plans = s.plans ∧ t.store = s.store)
  ∧ (∀ (s : State) (o : OpenStep),
    (s.linkDefined o.testLink = false ∨ o.generation < (s.link o.testLink).definedIn →
      s.closureFinding o = ⟨.voidRedefined, none, none⟩)
    ∧ (s.linkDefined o.testLink = true → (s.link o.testLink).definedIn ≤ o.generation →
      (o.form = .driven →
        ((∃ p ∈ o.participants, p.role = .talker ∧ p.report ≠ some (.drive false)) →
          s.closureFinding o = ⟨.voidTalker, none, none⟩)
        ∧ ((∀ p ∈ o.participants, p.role = .talker → p.report = some (.drive false)) →
          ∀ fs, fs = o.participants.filterMap (s.expectFinding (s.active.link o.testLink).expected) →
          (fs = [] → s.closureFinding o = ⟨.voidMissing, none, none⟩)
          ∧ (fs ≠ [] → ∃ before f after, fs = before ++ f :: after ∧ s.closureFinding o = f
            ∧ (∀ g ∈ before, f.outcome.group.rank < g.outcome.group.rank)
            ∧ (∀ g ∈ after, f.outcome.group.rank ≤ g.outcome.group.rank))))
      ∧ (o.form = .contended →
        ((∃ p ∈ o.participants, p.role = .contender ∧ p.report = none) →
          s.closureFinding o = ⟨.voidMissing, none, none⟩)
        ∧ ((∀ p ∈ o.participants, p.role = .contender → p.report ≠ none) →
          (∀ before p after, o.participants = before ++ p :: after → wireOffSeen p = true →
            (∀ q ∈ before, wireOffSeen q = false) →
            s.closureFinding o = ⟨.openSeen, none, some p.slot⟩)
          ∧ ((∀ p ∈ o.participants, wireOffSeen p = false) → ∀ w, w = winnerCode o.participants →
            (∀ before p after, o.participants = before ++ p :: after → disagrees w p = true →
              (∀ q ∈ before, disagrees w q = false) →
              s.closureFinding o = ⟨.contention, none, some p.slot⟩)
            ∧ ((∀ p ∈ o.participants, disagrees w p = false) →
              s.closureFinding o = ⟨.inRange, none, none⟩))))))
  ∧ (∀ (ps : List Participant), (∃ p ∈ ps, p.role = .contender ∧ p.code ≠ none) →
    (∀ p ∈ ps, ∀ code, p.code = some code → code ≤ 63) →
    (∃ p ∈ ps, p.role = .contender ∧ p.code = some (winnerCode ps))
    ∧ ∀ p ∈ ps, ∀ code, p.role = .contender → p.code = some code → winnerCode ps ≤ code)
  ∧ (∀ (w code slot : Nat) (role : Role) (cls quietLink : Option Nat) (state : ReportState)
      (lost wireOff : Bool) (position : Nat) (p : Participant),
    p = ⟨slot, role, cls, quietLink, some code, state, some (.contest lost position wireOff)⟩ →
    wireOffSeen p = wireOff
    ∧ (code = w → disagrees w p = lost)
    ∧ (∀ first, code ≠ w → first ≤ 5 → code.testBit first ≠ w.testBit first →
      (∀ j, first < j → j ≤ 5 → code.testBit j = w.testBit j) →
      disagrees w p = (!lost || position != first)))
  ∧ (∀ (w slot : Nat) (role : Role) (cls quietLink code : Option Nat) (state : ReportState)
      (raw errors : Half) (wireOff : Bool) (p : Participant),
    p = ⟨slot, role, cls, quietLink, code, state, some (.reading raw errors wireOff)⟩ →
    wireOffSeen p = wireOff ∧ disagrees w p = (raw.toNat != w))

/-- A frame that fails a check is discarded and counted; a free line takes the oldest message of the
transmit list, unless the probe's frame is served first or the store is STARTING (R43, R45, R176; logs 13 and
14). -/
def Obligations.LineDiscardsAndSendsFrames : Prop :=
  ∀ (port : Port) (frame : List Byte) (waiting : Bool) (s : State), s.port.resetLow = false →
    (frameChecks frame = false →
      exec (.frameError port frame) s
        = .next (s.setPortState (slotOf port) { s.portState (slotOf port) with
            lastFrame := some .probe,
            frameErrors := satInc 65535 (s.portState (slotOf port)).frameErrors }))
    ∧ (frameChecks frame = true → exec (.frameError port frame) s = .next s)
    ∧ (∀ m rest, (s.portState (slotOf port)).transmit = m :: rest →
      waiting = false ∨ (s.portState (slotOf port)).lastFrame ≠ some .part → s.starting = false →
      exec (.probeFrameSend port waiting) s
        = .next (s.setPortState (slotOf port) { s.portState (slotOf port) with
            transmit := rest, lastFrame := some .part, sent := m.frame }))
    ∧ ((s.portState (slotOf port)).transmit = []
        ∨ (waiting = true ∧ (s.portState (slotOf port)).lastFrame = some .part)
        ∨ s.starting = true →
      exec (.probeFrameSend port waiting) s = .next s)

/-! ## Time (R21 to R25, R35, R70 to R83) -/

/-- A sweep start taken at the sweep length: the next sweep number, sweep time 0, the next pattern, no window,
a pending apply installed, the marks of the old sweep settled with their misses and losses, and MARK to every
SYNCING, IN_STEP or LOST probe; one that is not due has no effect (R22, R24, R25, R48 to R52, R54, R163; log 3).
Taken in SYNCING it is judged: RUNNING, SYNCING or HALTED with health SEVERE (R27). Taken in RUNNING it
recomputes health, or halts the run when a newly installed quorum is not met (R37, R38); a halted run with no
open step has its timer stopped and PARK sent after the MARKs (R36). That the judgements come before the
settling of marks, and so do not see the probes that this sweep start loses, is the model's order (log 19), and
so is the pattern of a sweep start that halts a SYNCING run (log 16). -/
def Obligations.SweepStartBeginsTheNextSweep : Prop :=
  ∀ s : State,
    (s.sweepStartDue = true →
      ∃ t count noLoss held, exec .sweepStart s = .next t
        ∧ count = t.active.planSlots.countP (fun n => (s.probe n).state == .inStep)
        ∧ (noLoss ↔ ∀ n, 1 ≤ n → n ≤ 18 → (s.probe n).outstanding ≠ none →
            (s.probe n).state = .syncing ∨ (s.probe n).state = .inStep →
            satInc 8 (s.probe n).missCount < t.params.missLimit.toNat)
        ∧ held = (if s.timer.run = .syncing then 0 else s.timer.pattern)
        ∧ t.timer.sweepNumber = s.timer.sweepNumber + 1 ∧ t.timer.sweepTime = 0
        ∧ t.timer.fixtureTime = s.timer.fixtureTime ∧ t.timer.notStarted = false
        ∧ t.timer.pattern =
            (if s.timer.run = .syncing
                ∧ (count = t.active.planSlots.length
                  ∨ (s.timer.sweepNumber + 1).toNat < t.params.syncSweeps.toNat
                  ∨ t.params.quorum.toNat ≤ count) then 0
            else if held + 1 < t.params.patternPeriod.toNat then held + 1 else 0)
        ∧ (s.timer.run = .syncing →
            (count = t.active.planSlots.length
                ∨ (t.params.syncSweeps.toNat ≤ (s.timer.sweepNumber + 1).toNat
                  ∧ t.params.quorum.toNat ≤ count) →
              t.port.isSet .run = true
              ∧ (noLoss → t.timer.run = .running ∧ t.timer.health = s.timer.health))
            ∧ (count ≠ t.active.planSlots.length →
              (s.timer.sweepNumber + 1).toNat < t.params.syncSweeps.toNat →
              t.timer.run = .syncing ∧ t.timer.health = s.timer.health)
            ∧ (count ≠ t.active.planSlots.length →
              t.params.syncSweeps.toNat ≤ (s.timer.sweepNumber + 1).toNat →
              count < t.params.quorum.toNat →
              t.timer.run = .halted ∧ t.timer.health = .severe ∧ t.port.isSet .run = true
              ∧ (s.timer.health ≠ .severe → t.port.isSet .health = true)))
        ∧ (s.timer.run = .running ∨ s.timer.run = .pausing →
            s.plans.applyPending = true → count < t.params.quorum.toNat →
            t.timer.run = .halted ∧ t.timer.health = .severe ∧ t.port.isSet .run = true
            ∧ (s.timer.health ≠ .severe → t.port.isSet .health = true))
        ∧ (s.timer.run = .running → noLoss →
            s.plans.applyPending = false ∨ t.params.quorum.toNat ≤ count →
            t.timer.run = .running
            ∧ t.timer.health =
              (if ∃ n ∈ t.active.planSlots, (s.probe n).state ≠ .inStep
                  ∨ (s.probe n).mainPower = false ∨ (s.probe n).auxPower = false then .degraded
              else if s.timer.notStarted = true ∨ s.pendingSteps ≠ [] then .warn else .clear)
            ∧ (t.timer.health ≠ s.timer.health → t.port.isSet .health = true))
        ∧ (s.timer.run = .pausing →
            s.plans.applyPending = false ∨ t.params.quorum.toNat ≤ count →
            t.timer.run = .pausing ∧ t.timer.health = s.timer.health)
        ∧ (s.timer.run = .stopping ∨ s.timer.run = .halted →
            t.timer.run = s.timer.run ∧ t.timer.health = s.timer.health)
        ∧ (t.timer.sweepActive = false ↔ t.timer.run = .halted ∧ s.tableEmpty = true)
        ∧ t.engine.merged = none ∧ t.engine.free = none
        ∧ (∀ k, t.openAt k = s.openAt k ∧ t.turn k = s.turn k)
        ∧ (s.plans.applyPending = false → t.plans = s.plans)
        ∧ (s.plans.applyPending = true →
            t.plans = ⟨s.plans.shadow, s.plans.shadow, false, s.plans.generation + 1⟩
            ∧ t.port.isSet .apply = true)
        ∧ (∀ n, 1 ≤ n → n ≤ 18 → (t.probe n).outstanding =
            if (t.probe n).state = .syncing ∨ (t.probe n).state = .inStep
                ∨ (t.probe n).state = .lost then some t.timer.sweepNumber
            else none)
        ∧ (∀ n, 1 ≤ n → n ≤ 18 → ∃ misses lost,
            (misses ↔ (s.timer.run = .syncing ∨ s.timer.run = .running)
              ∧ (s.probe n).outstanding ≠ none
              ∧ ((s.probe n).state = .syncing ∨ (s.probe n).state = .inStep))
            ∧ (lost ↔ misses ∧ t.params.missLimit.toNat ≤ satInc 8 (s.probe n).missCount)
            ∧ (misses → (t.probe n).missCount = satInc 8 (s.probe n).missCount)
            ∧ (¬ misses → (t.probe n).missCount = (s.probe n).missCount)
            ∧ (lost → (t.probe n).state = .lost ∧ t.port.isSet .probe = true
              ∧ ((s.probe n).state = .inStep →
                (t.probe n).current = none ∧ (t.probe n).queued = none))
            ∧ (¬ lost → (t.probe n).state = (s.probe n).state
              ∧ (t.probe n).current = (s.probe n).current ∧ (t.probe n).queued = (s.probe n).queued)
            ∧ (t.probe n).syncCount =
              (if (s.probe n).state = .syncing ∧ (s.probe n).outstanding ≠ none then 0
              else (s.probe n).syncCount))
        ∧ (∀ n, 1 ≤ n → n ≤ 18 → ∃ before marked,
            before = (if s.plans.applyPending = true ∧ (s.probe n).state ≠ .absent
                ∧ (s.params.parkMode ≠ t.params.parkMode ∨ s.params.policy n ≠ t.params.policy n)
              then (s.portState n).hand (.setup (t.params.policy n) t.params.parkMode)
              else s.portState n)
            ∧ marked = (if (t.probe n).state.marked = true then
                before.hand (.mark t.timer.sweepNumber (wireTime t.timer.fixtureTime)
                  (BitVec.ofNat 8 t.timer.pattern))
              else before)
            ∧ t.portState n = (if t.timer.run = .halted ∧ s.tableEmpty = true
                ∧ (s.probe n).state ≠ .absent then marked.hand (.park t.params.parkMode)
              else marked))
        ∧ t.registry.session = s.registry.session ∧ t.store = s.store ∧ t.clock = s.clock)
    ∧ (s.sweepStartDue = false → exec .sweepStart s = .next s)

/-- The mark of a TIMED step, with no pending step left by a merged window: a due step whose conditions hold
takes the lowest empty table slot with the next turn; one whose conditions fail counts as not started; one
that is not due does neither (R67, R68, R70, R71, R72, R76). The five conditions of R70, in order, each over all
participants: an empty table slot, whose lowest is taken, a test link that is not busy (R69), every probe
IN_STEP, with field power, and able to take an assignment (R57). -/
def Obligations.TimedMarkStartsTheStep : Prop :=
  (∀ (s : State) (test : TestPlan), ∃ room link inStep power able : Prop,
    (room ↔ ∃ k, s.openAt k = none)
    ∧ (link ↔ ∀ j o, s.openAt j = some o → o.testLink ≠ test.testLink)
    ∧ (inStep ↔ ∀ p ∈ test.participants, (s.probe p.slot).state = .inStep)
    ∧ (power ↔ ∀ p ∈ test.participants,
        (s.probe p.slot).mainPower = true ∧ (s.probe p.slot).auxPower = true)
    ∧ (able ↔ ∀ p ∈ test.participants, (s.probe p.slot).state = .inStep
        ∧ ((s.probe p.slot).current = none
          ∨ ((s.probe p.slot).policy = .queue ∧ (s.probe p.slot).queued = none)))
    ∧ (∀ k, s.timedCheck test = .ok k ↔
        s.openAt k = none ∧ (∀ j, j < k → s.openAt j ≠ none) ∧ link ∧ inStep ∧ power ∧ able)
    ∧ (∀ reason, s.timedCheck test = .error reason ↔
        (reason = .openFull ∧ ¬ room)
        ∨ (reason = .linkBusy ∧ room ∧ ¬ link)
        ∨ (reason = .probeUnavailable ∧ room ∧ link ∧ ¬ inStep)
        ∨ (reason = .fieldPower ∧ room ∧ link ∧ inStep ∧ ¬ power)
        ∨ (reason = .probeBusy ∧ room ∧ link ∧ inStep ∧ power ∧ ¬ able)))
  ∧ ∀ (i : Nat) (s : State) (e : StepEntry), e = s.active.step i →
    s.kindReached i .timed = true → s.pendingSteps = [] →
    (∀ k, s.due e = true → s.timedCheck (s.stepTest i e) = .ok k →
      ∃ t, exec (.timedMark i) s = .next t
        ∧ t.openAt k = some
            { source := .step i, form := e.form, testLink := e.testLink.toNat, marker := e.marker,
              log := e.log, generation := s.plans.generation, start := s.timer.fixtureTime,
              window := e.window.toNat, settle := e.effectiveSettle,
              grace := s.params.reportGrace.toNat,
              deadline := s.timer.fixtureTime + 200 + e.window.toNat + s.params.reportGrace.toNat,
              participants := e.participants (s.active.link e.testLink.toNat).cls.toNat,
              withdrawn := false }
        ∧ t.turn k = s.turn k + 1
        ∧ (∀ j, j ≠ k → t.openAt j = s.openAt j ∧ t.turn j = s.turn j)
        ∧ (∀ n, n ∉ e.slots → t.probe n = s.probe n ∧ t.portState n = s.portState n)
        ∧ t.engine.merged = none ∧ t.engine.free = none
        ∧ t.timer = { s.timer with nextStep := i + 1 } ∧ t.links = s.links ∧ t.spot = s.spot
        ∧ t.router = s.router ∧ t.plans = s.plans ∧ t.store = s.store ∧ t.port = s.port)
    ∧ (∀ reason, s.due e = true → s.timedCheck (s.stepTest i e) = .error reason →
      ∃ t, exec (.timedMark i) s = .next t
        ∧ t.timer = { s.timer with nextStep := i + 1, notStarted := true }
        ∧ (s.linkDefined e.testLink.toNat = true →
            t.link e.testLink.toNat = { s.link e.testLink.toNat with
              notStarted := satInc 16777215 (s.link e.testLink.toNat).notStarted })
        ∧ (∀ id, id ≠ e.testLink.toNat → t.link id = s.link id)
        ∧ (e.log = false → t.router = s.router ∧ t.port = s.port)
        ∧ (e.log = true → t.router = (hand
            { ResultRecord.blank .skipped s.timer.sweepNumber s.timer.sweepTime with
              link := some e.testLink.toNat, step := some i, marker := some e.marker,
              reason := some reason } s).router)
        ∧ t.engine = { s.engine with merged := none, free := none }
        ∧ t.registry = s.registry ∧ t.spot = s.spot ∧ t.plans = s.plans ∧ t.store = s.store)
    ∧ (s.due e = false →
      exec (.timedMark i) s
        = .next ((s.withEngine { s.engine with merged := none, free := none }).withTimer
            { s.timer with nextStep := i + 1 }))

/-- Each participant of a step that starts is given its assignment and handed its message (R57, R71). -/
def Obligations.StartAssignsEveryParticipant : Prop :=
  ∀ (k : Fin 8) (test : TestPlan) (p : Participant) (s : State),
    (test.participants.map Participant.slot).Nodup → p ∈ test.participants → 1 ≤ p.slot →
    p.slot ≤ 18 →
    (startTest k test s).probe p.slot = (s.probe p.slot).give ⟨⟨k, s.turn k + 1⟩, p.role⟩
    ∧ (startTest k test s).portState p.slot
        = (s.portState p.slot).hand
            (assignmentMessage s ⟨k, s.turn k + 1⟩ test s.timer.fixtureTime p)

/-- The mark of a MERGED step closes the free window: a due step joins the pending list behind a member or a
waiting head, or starts at once as the member when its conditions hold, and the head it finds is examined; at a
full list it is CROWDED, with a SKIPPED record when it is logged; one that is not due only opens the window
(R72, R73, R74, R75). A merged head starts, waits or is dropped by the conditions of R74. -/
def Obligations.MergedMarkJoinsTheWindow : Prop :=
  (∀ (s : State) (member : Option (Fin 8)) (test : TestPlan),
    (∀ k, s.mergedHead member test = .starts k ↔ member = none ∧ s.timedCheck test = .ok k)
    ∧ (∀ reason, s.mergedHead member test = .dropped reason ↔
        member = none ∧ s.timedCheck test = .error reason
        ∧ (reason = .probeUnavailable ∨ reason = .fieldPower))
    ∧ (s.mergedHead member test = .waits ↔
        member ≠ none ∨ s.timedCheck test = .error .openFull
        ∨ s.timedCheck test = .error .linkBusy ∨ s.timedCheck test = .error .probeBusy))
  ∧ ∀ (i : Nat) (s : State) (e : StepEntry), e = s.active.step i → s.kindReached i .merged = true →
    (∀ pending k, s.due e = true → s.engine.merged = some ⟨pending, some k⟩ → pending.length < 3 →
      exec (.mergedMark i) s
        = .next ((s.withEngine { s.engine with
            free := none, merged := some ⟨pending ++ [⟨i, e⟩], some k⟩ }).withTimer
            { s.timer with nextStep := i + 1 }))
    ∧ (∀ k, s.due e = true → s.engine.merged = none ∨ s.engine.merged = some ⟨[], none⟩ →
      s.timedCheck (s.stepTest i e) = .ok k →
      ∃ t, exec (.mergedMark i) s = .next t
        ∧ t.openAt k = some (s.openStep (s.stepTest i e)) ∧ t.turn k = s.turn k + 1
        ∧ (∀ j, j ≠ k → t.openAt j = s.openAt j ∧ t.turn j = s.turn j)
        ∧ t.engine.merged = some ⟨[], some k⟩ ∧ t.engine.free = none
        ∧ t.timer = { s.timer with nextStep := i + 1 } ∧ t.links = s.links ∧ t.spot = s.spot
        ∧ t.router = s.router ∧ t.plans = s.plans ∧ t.store = s.store ∧ t.port = s.port)
    ∧ (s.due e = true → s.engine.merged = none ∨ s.engine.merged = some ⟨[], none⟩ →
      (s.mergedHead none (s.stepTest i e) = .waits →
        exec (.mergedMark i) s
          = .next ((s.withEngine { s.engine with
              free := none, merged := some ⟨[⟨i, e⟩], none⟩ }).withTimer
              { s.timer with nextStep := i + 1 }))
      ∧ (∀ reason, s.mergedHead none (s.stepTest i e) = .dropped reason →
        ∃ t, exec (.mergedMark i) s = .next t
          ∧ t.engine = { s.engine with free := none, merged := some ⟨[], none⟩ }
          ∧ t.timer = { s.timer with nextStep := i + 1, notStarted := true }
          ∧ (s.linkDefined e.testLink.toNat = true →
              t.link e.testLink.toNat = { s.link e.testLink.toNat with
                notStarted := satInc 16777215 (s.link e.testLink.toNat).notStarted })
          ∧ (∀ id, id ≠ e.testLink.toNat → t.link id = s.link id)
          ∧ (e.log = false → t.router = s.router ∧ t.port = s.port)
          ∧ (e.log = true → t.router = (hand
              { ResultRecord.blank .skipped s.timer.sweepNumber s.timer.sweepTime with
                link := some e.testLink.toNat, step := some i, marker := some e.marker,
                reason := some reason } s).router)
          ∧ t.registry = s.registry ∧ t.spot = s.spot ∧ t.plans = s.plans ∧ t.store = s.store))
    ∧ (∀ p rest, s.due e = true → s.engine.merged = some ⟨p :: rest, none⟩ → rest.length < 2 →
      (s.mergedHead none (s.stepTest p.index p.entry) = .waits →
        exec (.mergedMark i) s
          = .next ((s.withEngine { s.engine with
              free := none, merged := some ⟨p :: rest ++ [⟨i, e⟩], none⟩ }).withTimer
              { s.timer with nextStep := i + 1 }))
      ∧ (∀ k, s.mergedHead none (s.stepTest p.index p.entry) = .starts k →
        ∃ t, exec (.mergedMark i) s = .next t
          ∧ t.openAt k = some (s.openStep (s.stepTest p.index p.entry)) ∧ t.turn k = s.turn k + 1
          ∧ (∀ j, j ≠ k → t.openAt j = s.openAt j ∧ t.turn j = s.turn j)
          ∧ t.engine.merged = some ⟨rest ++ [⟨i, e⟩], some k⟩ ∧ t.engine.free = none
          ∧ t.timer = { s.timer with nextStep := i + 1 } ∧ t.links = s.links ∧ t.spot = s.spot
          ∧ t.router = s.router ∧ t.plans = s.plans ∧ t.store = s.store ∧ t.port = s.port)
      ∧ (∀ reason, s.mergedHead none (s.stepTest p.index p.entry) = .dropped reason → rest = [] →
        s.mergedHead none (s.stepTest i e) = .waits →
        ∃ t, exec (.mergedMark i) s = .next t
          ∧ t.engine = { s.engine with free := none, merged := some ⟨[⟨i, e⟩], none⟩ }
          ∧ t.timer = { s.timer with nextStep := i + 1, notStarted := true }
          ∧ (s.linkDefined p.entry.testLink.toNat = true →
              t.link p.entry.testLink.toNat = { s.link p.entry.testLink.toNat with
                notStarted := satInc 16777215 (s.link p.entry.testLink.toNat).notStarted })
          ∧ (∀ id, id ≠ p.entry.testLink.toNat → t.link id = s.link id)
          ∧ t.registry = s.registry ∧ t.spot = s.spot ∧ t.plans = s.plans ∧ t.store = s.store))
    ∧ (∀ w, s.due e = true → s.engine.merged = some w → 3 ≤ w.pending.length →
      ∃ t, exec (.mergedMark i) s = .next t
        ∧ t.engine = { s.engine with free := none }
        ∧ t.timer = { s.timer with nextStep := i + 1, notStarted := true }
        ∧ (s.linkDefined e.testLink.toNat = true →
            t.link e.testLink.toNat = { s.link e.testLink.toNat with
              notStarted := satInc 16777215 (s.link e.testLink.toNat).notStarted })
        ∧ (∀ id, id ≠ e.testLink.toNat → t.link id = s.link id)
        ∧ (e.log = false → t.router = s.router ∧ t.port = s.port)
        ∧ (e.log = true → t.router = (hand
            { ResultRecord.blank .skipped s.timer.sweepNumber s.timer.sweepTime with
              link := some e.testLink.toNat, step := some i, marker := some e.marker,
              reason := some .crowded } s).router)
        ∧ t.registry = s.registry ∧ t.spot = s.spot ∧ t.plans = s.plans ∧ t.store = s.store)
    ∧ (s.due e = false →
      ∃ t, exec (.mergedMark i) s = .next t
        ∧ t.engine.merged = some (s.engine.merged.getD ⟨[], none⟩) ∧ t.engine.free = none
        ∧ t.engine.table = s.engine.table ∧ t.engine.turns = s.engine.turns
        ∧ t.timer = { s.timer with nextStep := i + 1 } ∧ t.links = s.links ∧ t.spot = s.spot
        ∧ t.registry = s.registry ∧ t.router = s.router ∧ t.plans = s.plans ∧ t.store = s.store
        ∧ t.port = s.port)

/-- A MARK entry raises MARK and hands a record when it is logged; a FREE entry opens a free window, and its
head request starts as a spot test when its conditions hold, spends the window when a probe is not IN_STEP or
has no field power, and waits otherwise; an entry that does not act does neither (R13, R16, R19, R75, R78,
R120). -/
def Obligations.MarkAndFreeEntriesAct : Prop :=
  ∀ (i : Nat) (s : State) (e : StepEntry), e = s.active.step i → s.pendingSteps = [] →
    (s.kindReached i .mark = true → s.acts e = true →
      ∃ t, exec (.markEntry i) s = .next t ∧ t.port.isSet .mark = true
        ∧ (e.log = false → t.router = s.router ∧ t.port = s.port.raise .mark)
        ∧ (e.log = true → t.router = (hand
            { ResultRecord.blank .mark s.timer.sweepNumber s.timer.sweepTime with
              marker := some e.marker } s).router)
        ∧ t.engine = { s.engine with merged := none, free := none }
        ∧ t.timer = { s.timer with nextStep := i + 1 } ∧ t.registry = s.registry
        ∧ t.links = s.links ∧ t.spot = s.spot ∧ t.plans = s.plans ∧ t.store = s.store)
    ∧ (s.kindReached i .free = true → s.acts e = true → s.spot = [] →
      exec (.freeEntry i) s
        = .next ((s.withEngine { s.engine with merged := none, free := some ⟨false⟩ }).withTimer
            { s.timer with nextStep := i + 1 }))
    ∧ (∀ r rest k, s.kindReached i .free = true → s.acts e = true → s.spot = r :: rest →
      (∀ q ∈ s.spot, q.inFlight = none) → s.timedCheck (s.spotTest r) = .ok k →
      ∃ t, exec (.freeEntry i) s = .next t
        ∧ t.openAt k = some (s.openStep (s.spotTest r)) ∧ t.turn k = s.turn k + 1
        ∧ t.spot = { r with inFlight := some ⟨k, s.turn k + 1⟩ } :: rest
        ∧ t.engine.free = some ⟨false⟩ ∧ t.engine.merged = none
        ∧ t.timer = { s.timer with nextStep := i + 1 } ∧ t.links = s.links
        ∧ t.router = s.router ∧ t.plans = s.plans ∧ t.store = s.store ∧ t.port = s.port)
    ∧ (∀ r rest, s.kindReached i .free = true → s.acts e = true → s.spot = r :: rest →
      ((∃ q ∈ s.spot, q.inFlight ≠ none) ∨ s.timedCheck (s.spotTest r) = .error .openFull
          ∨ s.timedCheck (s.spotTest r) = .error .linkBusy
          ∨ s.timedCheck (s.spotTest r) = .error .probeBusy →
        exec (.freeEntry i) s
          = .next ((s.withEngine { s.engine with merged := none, free := some ⟨false⟩ }).withTimer
              { s.timer with nextStep := i + 1 }))
      ∧ ((∀ q ∈ s.spot, q.inFlight = none) →
        s.timedCheck (s.spotTest r) = .error .probeUnavailable
          ∨ s.timedCheck (s.spotTest r) = .error .fieldPower →
        exec (.freeEntry i) s
          = .next ((s.withEngine { s.engine with merged := none, free := some ⟨true⟩ }).withTimer
              { s.timer with nextStep := i + 1 })))
    ∧ (s.acts e = false →
      (s.kindReached i .mark = true →
        exec (.markEntry i) s
          = .next ((s.withEngine { s.engine with merged := none, free := none }).withTimer
              { s.timer with nextStep := i + 1 }))
      ∧ (s.kindReached i .free = true →
        exec (.freeEntry i) s
          = .next ((s.withEngine { s.engine with merged := none, free := none }).withTimer
              { s.timer with nextStep := i + 1 })))

/-- A deadline closes its step: the table slot empties and keeps its turn; a participant still awaited is
MISSING, and its miss counts when its probe is IN_STEP, which may make it LOST (R51, R52); the assignments of
the step end; the test link, the quiet links and the Spot Queue move by the closure outcome, as in the
judgement of a report (R103 to R106, R109, R110, R116, R121); a missing talker gives the test link VOID_TALKER,
which moves its void count and last observation alone; a deadline whose step is gone or not yet at its deadline
has no effect (R81, R82, R83, R105; log 3). -/
def Obligations.DeadlineClosesTheStep : Prop :=
  ∀ (k : Fin 8) (turn : BitVec 4) (s : State),
    (∀ o, s.openAt k = some o → s.turn k = turn → s.port.resetLow = false →
      o.deadline ≤ s.timer.fixtureTime →
      (s.timer.run = .running → s.engine.merged = none ∧ s.engine.free = none) →
      ∃ t, exec (.deadline k turn) s = .next t
        ∧ t.openAt k = none ∧ (∀ j, j ≠ k → t.openAt j = s.openAt j) ∧ (∀ j, t.turn j = s.turn j)
        ∧ t.store = s.store
        ∧ (s.timer.run = .running → o.form = .driven → o.withdrawn = false →
            s.linkDefined o.testLink = true → (s.link o.testLink).definedIn ≤ o.generation →
            (∃ p ∈ o.participants, p.role = .talker ∧ p.state = .awaited ∧ p.report = none) →
            t.link o.testLink = { s.link o.testLink with
              void := satInc 16777215 (s.link o.testLink).void,
              lastObservation := some ⟨s.timer.sweepNumber, .voidTalker, none⟩ }
            ∧ (∀ id, id ≠ o.testLink → t.link id = s.link id) ∧ t.plans = s.plans)
        ∧ (s.timer.run = .running → t.plans = s.plans
            ∧ s.closureMovesLinks t o.settled (s.closureFinding o.settled)
            ∧ s.closureMovesSpot t ⟨k, turn⟩ o.settled (s.closureFinding o.settled)
            ∧ (∀ n, (∀ p ∈ o.participants, p.slot ≠ n) → t.probe n = s.probe n)
            ∧ ((o.participants.map Participant.slot).Nodup →
              ∀ p ∈ o.participants, 1 ≤ p.slot → p.slot ≤ 18 → ∃ missed counted,
                (missed ↔ p.state ≠ .received ∧ (s.probe p.slot).state = .inStep)
                ∧ (missed → counted = { s.probe p.slot with
                    missCount := satInc 8 (s.probe p.slot).missCount })
                ∧ (¬ missed → counted = s.probe p.slot)
                ∧ (missed → s.params.missLimit.toNat ≤ counted.missCount →
                  t.probe p.slot = { counted.clearAssignments (s.params.policy p.slot) with
                    state := .lost }
                  ∧ t.port.isSet .probe = true)
                ∧ (¬ missed ∨ counted.missCount < s.params.missLimit.toNat →
                  t.probe p.slot = counted.endAssignment ⟨k, turn⟩ (s.params.policy p.slot)))))
    ∧ (s.openAt k = none ∨ s.turn k ≠ turn →
      exec (.deadline k turn) s = .next s)
    ∧ (∀ o, s.openAt k = some o → s.timer.fixtureTime < o.deadline →
      exec (.deadline k turn) s = .next s)

/-- The fixture-time limit, the tick at which fixture time reaches 4,294,967,295: RUN is raised, the sweep ends,
every open step is closed, a run RUNNING, PAUSING or STOPPING is STOPPED, and a HALTED one stays HALTED with its
timer stopped; before that tick the command has no effect (R21, R35, R36; log 3). That the closures fall inside
the one command, after the events of the tick before, is the model's choice (log 26). -/
def Obligations.FixtureTimeLimitEndsTheRun : Prop :=
  ∀ s : State,
    (s.limitReached = true ↔ s.port.resetLow = false ∧ s.timerRuns = true ∧ s.timer.run ≠ .syncing
      ∧ s.timer.limitTaken = false ∧ 4294967294 ≤ s.timer.fixtureTime ∧ s.sweepStartDue = false
      ∧ s.markReached s.timer.nextStep = false
      ∧ ∀ k o, s.openAt k = some o → s.timer.fixtureTime < o.deadline)
    ∧ (s.limitReached = true →
      ∃ t, exec .fixtureTimeLimit s = .next t
        ∧ t.port.isSet .run = true ∧ (∀ k, t.openAt k = none ∧ t.turn k = s.turn k)
        ∧ t.engine.merged = none ∧ t.engine.free = none
        ∧ (s.timer.fixtureTime ≤ 4294967295 → t.timer.fixtureTime = 4294967295)
        ∧ t.timer.sweepNumber = s.timer.sweepNumber ∧ t.timer.sweepActive = false
        ∧ t.timer.health = s.timer.health ∧ t.clock = s.clock + 1
        ∧ (s.timer.run = .running ∨ s.timer.run = .pausing → t.timer.run = .stopped)
        ∧ (s.timer.run = .stopping → s.tableEmpty = false → t.timer.run = .stopped)
        ∧ (s.timer.run = .halted → t.timer.run = .halted)
        ∧ t.store = s.store)
    ∧ (s.limitReached = false → exec .fixtureTimeLimit s = .next s)

/-! ## Judgement (R98, R112) -/

/-- The judgement of one reading. A LEVEL reading falls in the band of its corrected value (R96, R97, R98), an
ERRORS or CODE one is judged on its error count or its masked raw value (R99), a class that is undefined or of
SILENCE judges no EXPECT report (R102), and a SILENCE class judges a quiet report on its corrected activity
unless the wire is off (R100). A quiet check counts, and on HEARD fills the first failure and makes a link that
is not latched BRIDGED (R106). The value that an OPEN_SEEN outcome of an ERRORS or CODE class carries is the
model's choice (log 25). -/
def Obligations.LevelReadingFallsInItsBand : Prop :=
  (∀ (c : ClassDef) (e : ProbeEntry) (expected raw errors : Half) (v low high margin : Int),
    c.defined = true → c.measure = .level → v = c.corrected e raw → low = c.lowLimit →
    high = c.highLimit → margin = c.margin.toNat → low ≤ high →
    (∃ f, judgeReading c e expected raw errors true = some f ∧ f.outcome = .openSeen)
    ∧ (v < low - margin →
        judgeReading c e expected raw errors false = some ⟨.under, some v, none⟩)
    ∧ (low - margin ≤ v → v < low →
        judgeReading c e expected raw errors false = some ⟨.lowMargin, some v, none⟩)
    ∧ (low ≤ v → v ≤ high →
        judgeReading c e expected raw errors false = some ⟨.inRange, some v, none⟩)
    ∧ (high < v → v ≤ high + margin →
        judgeReading c e expected raw errors false = some ⟨.highMargin, some v, none⟩)
    ∧ (high + margin < v →
        judgeReading c e expected raw errors false = some ⟨.over, some v, none⟩)
    ∧ (margin = 0 → ∀ f, judgeReading c e expected raw errors false = some f →
        f.outcome ≠ .lowMargin ∧ f.outcome ≠ .highMargin))
  ∧ (∀ (c : ClassDef) (e : ProbeEntry) (raw : Half) (v : Int) (k : Coeff) (bottom top : Int),
    k = (match c.range with | .low => e.coeffLow | .high => e.coeffHigh) →
    (c.format = .signed ∧ v = raw.toInt ∧ bottom = -32768 ∧ top = 32767)
      ∨ (c.format = .unsigned ∧ v = raw.toNat ∧ bottom = 0 ∧ top = 65535)
      ∨ (c.format = .offset ∧ v = (raw.toNat : Int) - 32768 ∧ bottom = -32768 ∧ top = 32767) →
    c.corrected e raw = max bottom (min top (Int.tdiv ((v - k.offset) * k.gain) 32768)))
  ∧ (∀ (c : ClassDef) (e : ProbeEntry) (expected raw errors : Half) (wireOff : Bool),
    (c.defined = false ∨ c.measure = .silence →
      judgeReading c e expected raw errors wireOff = none)
    ∧ (c.defined = true → c.measure = .errors →
      judgeReading c e expected raw errors wireOff = some
        ⟨if wireOff = true then .openSeen
          else if errors.toNat ≤ c.low.toNat then .inRange
          else if errors.toNat ≤ c.high.toNat then .highMargin else .over,
          some errors.toNat, none⟩)
    ∧ (c.defined = true → c.measure = .code →
      judgeReading c e expected raw errors wireOff = some
        ⟨if wireOff = true then .openSeen
          else if raw &&& c.mask = expected &&& c.mask then .inRange else .mismatch,
          some raw.toNat, none⟩)
    ∧ (c.defined = false ∨ c.measure ≠ .silence ∨ wireOff = true →
      judgeQuiet c e raw wireOff = none)
    ∧ (c.defined = true → c.measure = .silence →
      judgeQuiet c e raw false = some
        (if c.corrected e raw ≤ c.lowLimit then .inRange
          else if c.corrected e raw ≤ c.highLimit then .highMargin else .heard,
          c.corrected e raw)))
  ∧ (∀ (r : LinkRecord) (outcome : TestOutcome) (a : Int) (testLink : Nat) (source : Source)
      (sweep : Word) (time : Nat),
    (outcome ≠ .heard → r.checked outcome a testLink source sweep time
      = { r with quietChecks := satInc 16777215 r.quietChecks })
    ∧ r.checked .heard a testLink source sweep time
      = { r with
          quietChecks := satInc 16777215 r.quietChecks
          heard := satInc 16777215 r.heard
          firstFailure := (match r.firstFailure with
            | none => some ⟨sweep, time, source, .heard, some a, none⟩
            | some f => some f)
          verdict := if r.verdict.latched = true then r.verdict else .bridged
          partner := if r.verdict.latched = true then r.partner else some testLink })

/-- The verdict moves with the group of the closure outcome; a latched verdict is kept (R110, R112,
R113). A judged outcome counts an attempt and its group, becomes the last observation, and fills the first
failure when it is not IN and none is held (R101, R111). -/
def Obligations.VerdictMovesWithTheGroup : Prop :=
  ∀ (r : LinkRecord) (cls : ClassDef) (f : Finding) (source : Source) (sweep : Word) (time : Nat)
    (after : LinkRecord), after = r.judged cls f source sweep time →
    (f.outcome.group = .openGroup →
      after.standing = satInc 7 r.standing ∧ after.streak = 0
      ∧ (r.verdict.latched = false → after.verdict = .opened))
    ∧ (f.outcome.group = .fail →
      after.standing = satInc 7 r.standing ∧ after.streak = 0
      ∧ (r.verdict.latched = false → cls.failThreshold.toNat ≤ after.standing →
          after.verdict = .failed)
      ∧ (after.standing < cls.failThreshold.toNat →
          r.verdict = .untested ∨ r.verdict = .passed → after.verdict = .testing)
      ∧ (after.standing < cls.failThreshold.toNat →
          r.verdict = .testing ∨ r.verdict = .marginal → after.verdict = r.verdict))
    ∧ (f.outcome.group = .margin →
      after.standing = r.standing ∧ after.streak = 0
      ∧ (r.verdict.latched = false → after.verdict = .marginal))
    ∧ (f.outcome.group = .pass →
      after.standing = r.standing - 1 ∧ after.streak = satInc 255 r.streak
      ∧ (r.verdict.latched = false → cls.passQuota.toNat ≤ after.streak → after.verdict = .passed)
      ∧ (after.streak < cls.passQuota.toNat → r.verdict = .untested → after.verdict = .testing)
      ∧ (after.streak < cls.passQuota.toNat →
          r.verdict = .testing ∨ r.verdict = .marginal ∨ r.verdict = .passed →
          after.verdict = r.verdict))
    ∧ (f.outcome.group = .void →
      after = { r with void := satInc 16777215 r.void,
                       lastObservation := some ⟨sweep, f.outcome, none⟩ })
    ∧ (r.verdict.latched = true → after.verdict = r.verdict)
    ∧ (f.outcome.group ≠ .void →
      after.attempts = satInc 16777215 r.attempts
      ∧ after.inRange = (if f.outcome.group = .pass then satInc 16777215 r.inRange else r.inRange)
      ∧ after.margin = (if f.outcome.group = .margin then satInc 16777215 r.margin else r.margin)
      ∧ after.fail = (if f.outcome.group = .fail ∨ f.outcome.group = .openGroup then
          satInc 16777215 r.fail else r.fail)
      ∧ after.lastObservation = some ⟨sweep, f.outcome, f.value⟩
      ∧ (f.outcome = .inRange ∨ r.firstFailure ≠ none → after.firstFailure = r.firstFailure)
      ∧ (f.outcome ≠ .inRange → r.firstFailure = none →
        after.firstFailure = some ⟨sweep, time, source, f.outcome, f.value, f.suspect⟩)
      ∧ after.void = r.void ∧ after.notStarted = r.notStarted ∧ after.quietChecks = r.quietChecks
      ∧ after.heard = r.heard ∧ after.withdrawn = r.withdrawn ∧ after.partner = r.partner
      ∧ after.definedIn = r.definedIn)
    ∧ (f.outcome.group = .pass ↔ f.outcome = .inRange)
    ∧ (f.outcome.group = .margin ↔ f.outcome = .lowMargin ∨ f.outcome = .highMargin)
    ∧ (f.outcome.group = .fail ↔ f.outcome = .under ∨ f.outcome = .over ∨ f.outcome = .mismatch
        ∨ f.outcome = .contention)
    ∧ (f.outcome.group = .openGroup ↔ f.outcome = .openSeen)
    ∧ (f.outcome.group = .void ↔ f.outcome = .voidTalker ∨ f.outcome = .voidMissing
        ∨ f.outcome = .voidRedefined)

/-! ## Invariants -/

/-- At reset every list is within its room, and every locked slot is VALID. -/
def Obligations.InvariantsHoldAtReset : Prop :=
  State.reset.withinCapacity ∧ State.reset.store.locksHold

/-- No step takes a list of the part past its room: 64 records, 8 spot requests, 3 pending steps, 16 messages
(R43, R73, R117, R147). -/
def Obligations.EveryStepKeepsTheCapacities : Prop :=
  ∀ s t : State, s.withinCapacity → step s = .next t → t.withinCapacity

/-- No step changes a locked slot: it stays VALID with the same content and label (R167). -/
def Obligations.LockedSlotsNeverChange : Prop :=
  ∀ s t : State, s.store.locksHold → step s = .next t →
    t.store.locksHold
    ∧ ∀ n, (s.storeSlot n).locked = true → t.storeSlot n = s.storeSlot n
end

