-- ==== Sys2Proof/Laws/State.lean ====
section
/-! SUPPORT. Laws/State.lean: what each update of the state leaves in each field, all true by rfl. -/

namespace Sys2Proof.Machine

/-! ## State.withTimer -/

@[simp] theorem State.withTimer_pending (s : State) (t : SweepTimer) :
    (s.withTimer t).pending = s.pending := (rfl)
@[simp] theorem State.withTimer_freeCount (s : State) (t : SweepTimer) :
    (s.withTimer t).freeCount = s.freeCount := (rfl)
@[simp] theorem State.withTimer_clock (s : State) (t : SweepTimer) :
    (s.withTimer t).clock = s.clock := (rfl)
@[simp] theorem State.withTimer_timer (s : State) (t : SweepTimer) :
    (s.withTimer t).timer = t := (rfl)
@[simp] theorem State.withTimer_engine (s : State) (t : SweepTimer) :
    (s.withTimer t).engine = s.engine := (rfl)
@[simp] theorem State.withTimer_registry (s : State) (t : SweepTimer) :
    (s.withTimer t).registry = s.registry := (rfl)
@[simp] theorem State.withTimer_links (s : State) (t : SweepTimer) :
    (s.withTimer t).links = s.links := (rfl)
@[simp] theorem State.withTimer_spot (s : State) (t : SweepTimer) :
    (s.withTimer t).spot = s.spot := (rfl)
@[simp] theorem State.withTimer_router (s : State) (t : SweepTimer) :
    (s.withTimer t).router = s.router := (rfl)
@[simp] theorem State.withTimer_plans (s : State) (t : SweepTimer) :
    (s.withTimer t).plans = s.plans := (rfl)
@[simp] theorem State.withTimer_store (s : State) (t : SweepTimer) :
    (s.withTimer t).store = s.store := (rfl)
@[simp] theorem State.withTimer_port (s : State) (t : SweepTimer) :
    (s.withTimer t).port = s.port := (rfl)

/-! ## State.withEngine -/

@[simp] theorem State.withEngine_pending (s : State) (e : StepEngine) :
    (s.withEngine e).pending = s.pending := (rfl)
@[simp] theorem State.withEngine_freeCount (s : State) (e : StepEngine) :
    (s.withEngine e).freeCount = s.freeCount := (rfl)
@[simp] theorem State.withEngine_clock (s : State) (e : StepEngine) :
    (s.withEngine e).clock = s.clock := (rfl)
@[simp] theorem State.withEngine_timer (s : State) (e : StepEngine) :
    (s.withEngine e).timer = s.timer := (rfl)
@[simp] theorem State.withEngine_engine (s : State) (e : StepEngine) :
    (s.withEngine e).engine = e := (rfl)
@[simp] theorem State.withEngine_registry (s : State) (e : StepEngine) :
    (s.withEngine e).registry = s.registry := (rfl)
@[simp] theorem State.withEngine_links (s : State) (e : StepEngine) :
    (s.withEngine e).links = s.links := (rfl)
@[simp] theorem State.withEngine_spot (s : State) (e : StepEngine) :
    (s.withEngine e).spot = s.spot := (rfl)
@[simp] theorem State.withEngine_router (s : State) (e : StepEngine) :
    (s.withEngine e).router = s.router := (rfl)
@[simp] theorem State.withEngine_plans (s : State) (e : StepEngine) :
    (s.withEngine e).plans = s.plans := (rfl)
@[simp] theorem State.withEngine_store (s : State) (e : StepEngine) :
    (s.withEngine e).store = s.store := (rfl)
@[simp] theorem State.withEngine_port (s : State) (e : StepEngine) :
    (s.withEngine e).port = s.port := (rfl)

/-! ## State.withRegistry -/

@[simp] theorem State.withRegistry_pending (s : State) (r : ProbeRegistry) :
    (s.withRegistry r).pending = s.pending := (rfl)
@[simp] theorem State.withRegistry_freeCount (s : State) (r : ProbeRegistry) :
    (s.withRegistry r).freeCount = s.freeCount := (rfl)
@[simp] theorem State.withRegistry_clock (s : State) (r : ProbeRegistry) :
    (s.withRegistry r).clock = s.clock := (rfl)
@[simp] theorem State.withRegistry_timer (s : State) (r : ProbeRegistry) :
    (s.withRegistry r).timer = s.timer := (rfl)
@[simp] theorem State.withRegistry_engine (s : State) (r : ProbeRegistry) :
    (s.withRegistry r).engine = s.engine := (rfl)
@[simp] theorem State.withRegistry_registry (s : State) (r : ProbeRegistry) :
    (s.withRegistry r).registry = r := (rfl)
@[simp] theorem State.withRegistry_links (s : State) (r : ProbeRegistry) :
    (s.withRegistry r).links = s.links := (rfl)
@[simp] theorem State.withRegistry_spot (s : State) (r : ProbeRegistry) :
    (s.withRegistry r).spot = s.spot := (rfl)
@[simp] theorem State.withRegistry_router (s : State) (r : ProbeRegistry) :
    (s.withRegistry r).router = s.router := (rfl)
@[simp] theorem State.withRegistry_plans (s : State) (r : ProbeRegistry) :
    (s.withRegistry r).plans = s.plans := (rfl)
@[simp] theorem State.withRegistry_store (s : State) (r : ProbeRegistry) :
    (s.withRegistry r).store = s.store := (rfl)
@[simp] theorem State.withRegistry_port (s : State) (r : ProbeRegistry) :
    (s.withRegistry r).port = s.port := (rfl)

/-! ## State.withRouter -/

@[simp] theorem State.withRouter_pending (s : State) (r : ResultRouter) :
    (s.withRouter r).pending = s.pending := (rfl)
@[simp] theorem State.withRouter_freeCount (s : State) (r : ResultRouter) :
    (s.withRouter r).freeCount = s.freeCount := (rfl)
@[simp] theorem State.withRouter_clock (s : State) (r : ResultRouter) :
    (s.withRouter r).clock = s.clock := (rfl)
@[simp] theorem State.withRouter_timer (s : State) (r : ResultRouter) :
    (s.withRouter r).timer = s.timer := (rfl)
@[simp] theorem State.withRouter_engine (s : State) (r : ResultRouter) :
    (s.withRouter r).engine = s.engine := (rfl)
@[simp] theorem State.withRouter_registry (s : State) (r : ResultRouter) :
    (s.withRouter r).registry = s.registry := (rfl)
@[simp] theorem State.withRouter_links (s : State) (r : ResultRouter) :
    (s.withRouter r).links = s.links := (rfl)
@[simp] theorem State.withRouter_spot (s : State) (r : ResultRouter) :
    (s.withRouter r).spot = s.spot := (rfl)
@[simp] theorem State.withRouter_router (s : State) (r : ResultRouter) :
    (s.withRouter r).router = r := (rfl)
@[simp] theorem State.withRouter_plans (s : State) (r : ResultRouter) :
    (s.withRouter r).plans = s.plans := (rfl)
@[simp] theorem State.withRouter_store (s : State) (r : ResultRouter) :
    (s.withRouter r).store = s.store := (rfl)
@[simp] theorem State.withRouter_port (s : State) (r : ResultRouter) :
    (s.withRouter r).port = s.port := (rfl)

/-! ## State.withPlans -/

@[simp] theorem State.withPlans_pending (s : State) (p : PlanMemory) :
    (s.withPlans p).pending = s.pending := (rfl)
@[simp] theorem State.withPlans_freeCount (s : State) (p : PlanMemory) :
    (s.withPlans p).freeCount = s.freeCount := (rfl)
@[simp] theorem State.withPlans_clock (s : State) (p : PlanMemory) :
    (s.withPlans p).clock = s.clock := (rfl)
@[simp] theorem State.withPlans_timer (s : State) (p : PlanMemory) :
    (s.withPlans p).timer = s.timer := (rfl)
@[simp] theorem State.withPlans_engine (s : State) (p : PlanMemory) :
    (s.withPlans p).engine = s.engine := (rfl)
@[simp] theorem State.withPlans_registry (s : State) (p : PlanMemory) :
    (s.withPlans p).registry = s.registry := (rfl)
@[simp] theorem State.withPlans_links (s : State) (p : PlanMemory) :
    (s.withPlans p).links = s.links := (rfl)
@[simp] theorem State.withPlans_spot (s : State) (p : PlanMemory) :
    (s.withPlans p).spot = s.spot := (rfl)
@[simp] theorem State.withPlans_router (s : State) (p : PlanMemory) :
    (s.withPlans p).router = s.router := (rfl)
@[simp] theorem State.withPlans_plans (s : State) (p : PlanMemory) :
    (s.withPlans p).plans = p := (rfl)
@[simp] theorem State.withPlans_store (s : State) (p : PlanMemory) :
    (s.withPlans p).store = s.store := (rfl)
@[simp] theorem State.withPlans_port (s : State) (p : PlanMemory) :
    (s.withPlans p).port = s.port := (rfl)

/-! ## State.withStore -/

@[simp] theorem State.withStore_pending (s : State) (x : PlanStore) :
    (s.withStore x).pending = s.pending := (rfl)
@[simp] theorem State.withStore_freeCount (s : State) (x : PlanStore) :
    (s.withStore x).freeCount = s.freeCount := (rfl)
@[simp] theorem State.withStore_clock (s : State) (x : PlanStore) :
    (s.withStore x).clock = s.clock := (rfl)
@[simp] theorem State.withStore_timer (s : State) (x : PlanStore) :
    (s.withStore x).timer = s.timer := (rfl)
@[simp] theorem State.withStore_engine (s : State) (x : PlanStore) :
    (s.withStore x).engine = s.engine := (rfl)
@[simp] theorem State.withStore_registry (s : State) (x : PlanStore) :
    (s.withStore x).registry = s.registry := (rfl)
@[simp] theorem State.withStore_links (s : State) (x : PlanStore) :
    (s.withStore x).links = s.links := (rfl)
@[simp] theorem State.withStore_spot (s : State) (x : PlanStore) :
    (s.withStore x).spot = s.spot := (rfl)
@[simp] theorem State.withStore_router (s : State) (x : PlanStore) :
    (s.withStore x).router = s.router := (rfl)
@[simp] theorem State.withStore_plans (s : State) (x : PlanStore) :
    (s.withStore x).plans = s.plans := (rfl)
@[simp] theorem State.withStore_store (s : State) (x : PlanStore) : (s.withStore x).store = x := (rfl)
@[simp] theorem State.withStore_port (s : State) (x : PlanStore) :
    (s.withStore x).port = s.port := (rfl)

/-! ## State.withPort -/

@[simp] theorem State.withPort_pending (s : State) (p : StationPort) :
    (s.withPort p).pending = s.pending := (rfl)
@[simp] theorem State.withPort_freeCount (s : State) (p : StationPort) :
    (s.withPort p).freeCount = s.freeCount := (rfl)
@[simp] theorem State.withPort_clock (s : State) (p : StationPort) :
    (s.withPort p).clock = s.clock := (rfl)
@[simp] theorem State.withPort_timer (s : State) (p : StationPort) :
    (s.withPort p).timer = s.timer := (rfl)
@[simp] theorem State.withPort_engine (s : State) (p : StationPort) :
    (s.withPort p).engine = s.engine := (rfl)
@[simp] theorem State.withPort_registry (s : State) (p : StationPort) :
    (s.withPort p).registry = s.registry := (rfl)
@[simp] theorem State.withPort_links (s : State) (p : StationPort) :
    (s.withPort p).links = s.links := (rfl)
@[simp] theorem State.withPort_spot (s : State) (p : StationPort) :
    (s.withPort p).spot = s.spot := (rfl)
@[simp] theorem State.withPort_router (s : State) (p : StationPort) :
    (s.withPort p).router = s.router := (rfl)
@[simp] theorem State.withPort_plans (s : State) (p : StationPort) :
    (s.withPort p).plans = s.plans := (rfl)
@[simp] theorem State.withPort_store (s : State) (p : StationPort) :
    (s.withPort p).store = s.store := (rfl)
@[simp] theorem State.withPort_port (s : State) (p : StationPort) : (s.withPort p).port = p := (rfl)

/-! ## State.withSpot -/

@[simp] theorem State.withSpot_pending (s : State) (q : List SpotRequest) :
    (s.withSpot q).pending = s.pending := (rfl)
@[simp] theorem State.withSpot_freeCount (s : State) (q : List SpotRequest) :
    (s.withSpot q).freeCount = s.freeCount := (rfl)
@[simp] theorem State.withSpot_clock (s : State) (q : List SpotRequest) :
    (s.withSpot q).clock = s.clock := (rfl)
@[simp] theorem State.withSpot_timer (s : State) (q : List SpotRequest) :
    (s.withSpot q).timer = s.timer := (rfl)
@[simp] theorem State.withSpot_engine (s : State) (q : List SpotRequest) :
    (s.withSpot q).engine = s.engine := (rfl)
@[simp] theorem State.withSpot_registry (s : State) (q : List SpotRequest) :
    (s.withSpot q).registry = s.registry := (rfl)
@[simp] theorem State.withSpot_links (s : State) (q : List SpotRequest) :
    (s.withSpot q).links = s.links := (rfl)
@[simp] theorem State.withSpot_spot (s : State) (q : List SpotRequest) :
    (s.withSpot q).spot = q := (rfl)
@[simp] theorem State.withSpot_router (s : State) (q : List SpotRequest) :
    (s.withSpot q).router = s.router := (rfl)
@[simp] theorem State.withSpot_plans (s : State) (q : List SpotRequest) :
    (s.withSpot q).plans = s.plans := (rfl)
@[simp] theorem State.withSpot_store (s : State) (q : List SpotRequest) :
    (s.withSpot q).store = s.store := (rfl)
@[simp] theorem State.withSpot_port (s : State) (q : List SpotRequest) :
    (s.withSpot q).port = s.port := (rfl)

/-! ## State.withPending -/

@[simp] theorem State.withPending_pending (s : State) (q : List Instr) :
    (s.withPending q).pending = q := (rfl)
@[simp] theorem State.withPending_freeCount (s : State) (q : List Instr) :
    (s.withPending q).freeCount = s.freeCount := (rfl)
@[simp] theorem State.withPending_clock (s : State) (q : List Instr) :
    (s.withPending q).clock = s.clock := (rfl)
@[simp] theorem State.withPending_timer (s : State) (q : List Instr) :
    (s.withPending q).timer = s.timer := (rfl)
@[simp] theorem State.withPending_engine (s : State) (q : List Instr) :
    (s.withPending q).engine = s.engine := (rfl)
@[simp] theorem State.withPending_registry (s : State) (q : List Instr) :
    (s.withPending q).registry = s.registry := (rfl)
@[simp] theorem State.withPending_links (s : State) (q : List Instr) :
    (s.withPending q).links = s.links := (rfl)
@[simp] theorem State.withPending_spot (s : State) (q : List Instr) :
    (s.withPending q).spot = s.spot := (rfl)
@[simp] theorem State.withPending_router (s : State) (q : List Instr) :
    (s.withPending q).router = s.router := (rfl)
@[simp] theorem State.withPending_plans (s : State) (q : List Instr) :
    (s.withPending q).plans = s.plans := (rfl)
@[simp] theorem State.withPending_store (s : State) (q : List Instr) :
    (s.withPending q).store = s.store := (rfl)
@[simp] theorem State.withPending_port (s : State) (q : List Instr) :
    (s.withPending q).port = s.port := (rfl)

/-! ## State.withSession -/

@[simp] theorem State.withSession_pending (s : State) (x : Session) :
    (s.withSession x).pending = s.pending := (rfl)
@[simp] theorem State.withSession_freeCount (s : State) (x : Session) :
    (s.withSession x).freeCount = s.freeCount := (rfl)
@[simp] theorem State.withSession_clock (s : State) (x : Session) :
    (s.withSession x).clock = s.clock := (rfl)
@[simp] theorem State.withSession_timer (s : State) (x : Session) :
    (s.withSession x).timer = s.timer := (rfl)
@[simp] theorem State.withSession_engine (s : State) (x : Session) :
    (s.withSession x).engine = s.engine := (rfl)
@[simp] theorem State.withSession_registry (s : State) (x : Session) :
    (s.withSession x).registry = { s.registry with session := x } := (rfl)
@[simp] theorem State.withSession_links (s : State) (x : Session) :
    (s.withSession x).links = s.links := (rfl)
@[simp] theorem State.withSession_spot (s : State) (x : Session) :
    (s.withSession x).spot = s.spot := (rfl)
@[simp] theorem State.withSession_router (s : State) (x : Session) :
    (s.withSession x).router = s.router := (rfl)
@[simp] theorem State.withSession_plans (s : State) (x : Session) :
    (s.withSession x).plans = s.plans := (rfl)
@[simp] theorem State.withSession_store (s : State) (x : Session) :
    (s.withSession x).store = s.store := (rfl)
@[simp] theorem State.withSession_port (s : State) (x : Session) :
    (s.withSession x).port = s.port := (rfl)

/-! ## State.bump -/

@[simp] theorem State.bump_pending (s : State) : (s.bump).pending = s.pending := (rfl)
@[simp] theorem State.bump_freeCount (s : State) : (s.bump).freeCount = s.freeCount + 1 := (rfl)
@[simp] theorem State.bump_clock (s : State) : (s.bump).clock = s.clock := (rfl)
@[simp] theorem State.bump_timer (s : State) : (s.bump).timer = s.timer := (rfl)
@[simp] theorem State.bump_engine (s : State) : (s.bump).engine = s.engine := (rfl)
@[simp] theorem State.bump_registry (s : State) : (s.bump).registry = s.registry := (rfl)
@[simp] theorem State.bump_links (s : State) : (s.bump).links = s.links := (rfl)
@[simp] theorem State.bump_spot (s : State) : (s.bump).spot = s.spot := (rfl)
@[simp] theorem State.bump_router (s : State) : (s.bump).router = s.router := (rfl)
@[simp] theorem State.bump_plans (s : State) : (s.bump).plans = s.plans := (rfl)
@[simp] theorem State.bump_store (s : State) : (s.bump).store = s.store := (rfl)
@[simp] theorem State.bump_port (s : State) : (s.bump).port = s.port := (rfl)

/-! ## State.setProbe -/

@[simp] theorem State.setProbe_pending (s : State) (n : Nat) (e : ProbeEntry) :
    (s.setProbe n e).pending = s.pending := (rfl)
@[simp] theorem State.setProbe_freeCount (s : State) (n : Nat) (e : ProbeEntry) :
    (s.setProbe n e).freeCount = s.freeCount := (rfl)
@[simp] theorem State.setProbe_clock (s : State) (n : Nat) (e : ProbeEntry) :
    (s.setProbe n e).clock = s.clock := (rfl)
@[simp] theorem State.setProbe_timer (s : State) (n : Nat) (e : ProbeEntry) :
    (s.setProbe n e).timer = s.timer := (rfl)
@[simp] theorem State.setProbe_engine (s : State) (n : Nat) (e : ProbeEntry) :
    (s.setProbe n e).engine = s.engine := (rfl)
@[simp] theorem State.setProbe_registry (s : State) (n : Nat) (e : ProbeEntry) :
    (s.setProbe n e).registry = { s.registry with probes := Tab.putSlot s.registry.probes n e } := (rfl)
@[simp] theorem State.setProbe_links (s : State) (n : Nat) (e : ProbeEntry) :
    (s.setProbe n e).links = s.links := (rfl)
@[simp] theorem State.setProbe_spot (s : State) (n : Nat) (e : ProbeEntry) :
    (s.setProbe n e).spot = s.spot := (rfl)
@[simp] theorem State.setProbe_router (s : State) (n : Nat) (e : ProbeEntry) :
    (s.setProbe n e).router = s.router := (rfl)
@[simp] theorem State.setProbe_plans (s : State) (n : Nat) (e : ProbeEntry) :
    (s.setProbe n e).plans = s.plans := (rfl)
@[simp] theorem State.setProbe_store (s : State) (n : Nat) (e : ProbeEntry) :
    (s.setProbe n e).store = s.store := (rfl)
@[simp] theorem State.setProbe_port (s : State) (n : Nat) (e : ProbeEntry) :
    (s.setProbe n e).port = s.port := (rfl)

/-! ## State.mapProbe -/

@[simp] theorem State.mapProbe_pending (s : State) (n : Nat) (f : ProbeEntry → ProbeEntry) :
    (s.mapProbe n f).pending = s.pending := (rfl)
@[simp] theorem State.mapProbe_freeCount (s : State) (n : Nat) (f : ProbeEntry → ProbeEntry) :
    (s.mapProbe n f).freeCount = s.freeCount := (rfl)
@[simp] theorem State.mapProbe_clock (s : State) (n : Nat) (f : ProbeEntry → ProbeEntry) :
    (s.mapProbe n f).clock = s.clock := (rfl)
@[simp] theorem State.mapProbe_timer (s : State) (n : Nat) (f : ProbeEntry → ProbeEntry) :
    (s.mapProbe n f).timer = s.timer := (rfl)
@[simp] theorem State.mapProbe_engine (s : State) (n : Nat) (f : ProbeEntry → ProbeEntry) :
    (s.mapProbe n f).engine = s.engine := (rfl)
@[simp] theorem State.mapProbe_registry (s : State) (n : Nat) (f : ProbeEntry → ProbeEntry) :
    (s.mapProbe n f).registry = { s.registry with probes := Tab.putSlot s.registry.probes n (f (s.probe n)) } := (rfl)
@[simp] theorem State.mapProbe_links (s : State) (n : Nat) (f : ProbeEntry → ProbeEntry) :
    (s.mapProbe n f).links = s.links := (rfl)
@[simp] theorem State.mapProbe_spot (s : State) (n : Nat) (f : ProbeEntry → ProbeEntry) :
    (s.mapProbe n f).spot = s.spot := (rfl)
@[simp] theorem State.mapProbe_router (s : State) (n : Nat) (f : ProbeEntry → ProbeEntry) :
    (s.mapProbe n f).router = s.router := (rfl)
@[simp] theorem State.mapProbe_plans (s : State) (n : Nat) (f : ProbeEntry → ProbeEntry) :
    (s.mapProbe n f).plans = s.plans := (rfl)
@[simp] theorem State.mapProbe_store (s : State) (n : Nat) (f : ProbeEntry → ProbeEntry) :
    (s.mapProbe n f).store = s.store := (rfl)
@[simp] theorem State.mapProbe_port (s : State) (n : Nat) (f : ProbeEntry → ProbeEntry) :
    (s.mapProbe n f).port = s.port := (rfl)

/-! ## State.setPortState -/

@[simp] theorem State.setPortState_pending (s : State) (n : Nat) (p : PortState) :
    (s.setPortState n p).pending = s.pending := (rfl)
@[simp] theorem State.setPortState_freeCount (s : State) (n : Nat) (p : PortState) :
    (s.setPortState n p).freeCount = s.freeCount := (rfl)
@[simp] theorem State.setPortState_clock (s : State) (n : Nat) (p : PortState) :
    (s.setPortState n p).clock = s.clock := (rfl)
@[simp] theorem State.setPortState_timer (s : State) (n : Nat) (p : PortState) :
    (s.setPortState n p).timer = s.timer := (rfl)
@[simp] theorem State.setPortState_engine (s : State) (n : Nat) (p : PortState) :
    (s.setPortState n p).engine = s.engine := (rfl)
@[simp] theorem State.setPortState_registry (s : State) (n : Nat) (p : PortState) :
    (s.setPortState n p).registry = { s.registry with ports := Tab.putSlot s.registry.ports n p } := (rfl)
@[simp] theorem State.setPortState_links (s : State) (n : Nat) (p : PortState) :
    (s.setPortState n p).links = s.links := (rfl)
@[simp] theorem State.setPortState_spot (s : State) (n : Nat) (p : PortState) :
    (s.setPortState n p).spot = s.spot := (rfl)
@[simp] theorem State.setPortState_router (s : State) (n : Nat) (p : PortState) :
    (s.setPortState n p).router = s.router := (rfl)
@[simp] theorem State.setPortState_plans (s : State) (n : Nat) (p : PortState) :
    (s.setPortState n p).plans = s.plans := (rfl)
@[simp] theorem State.setPortState_store (s : State) (n : Nat) (p : PortState) :
    (s.setPortState n p).store = s.store := (rfl)
@[simp] theorem State.setPortState_port (s : State) (n : Nat) (p : PortState) :
    (s.setPortState n p).port = s.port := (rfl)

/-! ## State.setLink -/

@[simp] theorem State.setLink_pending (s : State) (id : Nat) (r : LinkRecord) :
    (s.setLink id r).pending = s.pending := (rfl)
@[simp] theorem State.setLink_freeCount (s : State) (id : Nat) (r : LinkRecord) :
    (s.setLink id r).freeCount = s.freeCount := (rfl)
@[simp] theorem State.setLink_clock (s : State) (id : Nat) (r : LinkRecord) :
    (s.setLink id r).clock = s.clock := (rfl)
@[simp] theorem State.setLink_timer (s : State) (id : Nat) (r : LinkRecord) :
    (s.setLink id r).timer = s.timer := (rfl)
@[simp] theorem State.setLink_engine (s : State) (id : Nat) (r : LinkRecord) :
    (s.setLink id r).engine = s.engine := (rfl)
@[simp] theorem State.setLink_registry (s : State) (id : Nat) (r : LinkRecord) :
    (s.setLink id r).registry = s.registry := (rfl)
@[simp] theorem State.setLink_links (s : State) (id : Nat) (r : LinkRecord) :
    (s.setLink id r).links = Tab.put s.links id r := (rfl)
@[simp] theorem State.setLink_spot (s : State) (id : Nat) (r : LinkRecord) :
    (s.setLink id r).spot = s.spot := (rfl)
@[simp] theorem State.setLink_router (s : State) (id : Nat) (r : LinkRecord) :
    (s.setLink id r).router = s.router := (rfl)
@[simp] theorem State.setLink_plans (s : State) (id : Nat) (r : LinkRecord) :
    (s.setLink id r).plans = s.plans := (rfl)
@[simp] theorem State.setLink_store (s : State) (id : Nat) (r : LinkRecord) :
    (s.setLink id r).store = s.store := (rfl)
@[simp] theorem State.setLink_port (s : State) (id : Nat) (r : LinkRecord) :
    (s.setLink id r).port = s.port := (rfl)

/-! ## State.setOpen -/

@[simp] theorem State.setOpen_pending (s : State) (k : Fin 8) (o : Option OpenStep) :
    (s.setOpen k o).pending = s.pending := (rfl)
@[simp] theorem State.setOpen_freeCount (s : State) (k : Fin 8) (o : Option OpenStep) :
    (s.setOpen k o).freeCount = s.freeCount := (rfl)
@[simp] theorem State.setOpen_clock (s : State) (k : Fin 8) (o : Option OpenStep) :
    (s.setOpen k o).clock = s.clock := (rfl)
@[simp] theorem State.setOpen_timer (s : State) (k : Fin 8) (o : Option OpenStep) :
    (s.setOpen k o).timer = s.timer := (rfl)
@[simp] theorem State.setOpen_engine (s : State) (k : Fin 8) (o : Option OpenStep) :
    (s.setOpen k o).engine = { s.engine with table := Tab.put s.engine.table k.val o } := (rfl)
@[simp] theorem State.setOpen_registry (s : State) (k : Fin 8) (o : Option OpenStep) :
    (s.setOpen k o).registry = s.registry := (rfl)
@[simp] theorem State.setOpen_links (s : State) (k : Fin 8) (o : Option OpenStep) :
    (s.setOpen k o).links = s.links := (rfl)
@[simp] theorem State.setOpen_spot (s : State) (k : Fin 8) (o : Option OpenStep) :
    (s.setOpen k o).spot = s.spot := (rfl)
@[simp] theorem State.setOpen_router (s : State) (k : Fin 8) (o : Option OpenStep) :
    (s.setOpen k o).router = s.router := (rfl)
@[simp] theorem State.setOpen_plans (s : State) (k : Fin 8) (o : Option OpenStep) :
    (s.setOpen k o).plans = s.plans := (rfl)
@[simp] theorem State.setOpen_store (s : State) (k : Fin 8) (o : Option OpenStep) :
    (s.setOpen k o).store = s.store := (rfl)
@[simp] theorem State.setOpen_port (s : State) (k : Fin 8) (o : Option OpenStep) :
    (s.setOpen k o).port = s.port := (rfl)

/-! ## State.setMerged -/

@[simp] theorem State.setMerged_pending (s : State) (w : MergedWindow) :
    (s.setMerged w).pending = s.pending := (rfl)
@[simp] theorem State.setMerged_freeCount (s : State) (w : MergedWindow) :
    (s.setMerged w).freeCount = s.freeCount := (rfl)
@[simp] theorem State.setMerged_clock (s : State) (w : MergedWindow) :
    (s.setMerged w).clock = s.clock := (rfl)
@[simp] theorem State.setMerged_timer (s : State) (w : MergedWindow) :
    (s.setMerged w).timer = s.timer := (rfl)
@[simp] theorem State.setMerged_engine (s : State) (w : MergedWindow) :
    (s.setMerged w).engine = { s.engine with merged := some w } := (rfl)
@[simp] theorem State.setMerged_registry (s : State) (w : MergedWindow) :
    (s.setMerged w).registry = s.registry := (rfl)
@[simp] theorem State.setMerged_links (s : State) (w : MergedWindow) :
    (s.setMerged w).links = s.links := (rfl)
@[simp] theorem State.setMerged_spot (s : State) (w : MergedWindow) :
    (s.setMerged w).spot = s.spot := (rfl)
@[simp] theorem State.setMerged_router (s : State) (w : MergedWindow) :
    (s.setMerged w).router = s.router := (rfl)
@[simp] theorem State.setMerged_plans (s : State) (w : MergedWindow) :
    (s.setMerged w).plans = s.plans := (rfl)
@[simp] theorem State.setMerged_store (s : State) (w : MergedWindow) :
    (s.setMerged w).store = s.store := (rfl)
@[simp] theorem State.setMerged_port (s : State) (w : MergedWindow) :
    (s.setMerged w).port = s.port := (rfl)

/-! ## State.setRun -/

@[simp] theorem State.setRun_pending (s : State) (r : RunState) :
    (s.setRun r).pending = s.pending := (rfl)
@[simp] theorem State.setRun_freeCount (s : State) (r : RunState) :
    (s.setRun r).freeCount = s.freeCount := (rfl)
@[simp] theorem State.setRun_clock (s : State) (r : RunState) : (s.setRun r).clock = s.clock := (rfl)
@[simp] theorem State.setRun_timer (s : State) (r : RunState) :
    (s.setRun r).timer = { s.timer with run := r } := (rfl)
@[simp] theorem State.setRun_engine (s : State) (r : RunState) :
    (s.setRun r).engine = s.engine := (rfl)
@[simp] theorem State.setRun_registry (s : State) (r : RunState) :
    (s.setRun r).registry = s.registry := (rfl)
@[simp] theorem State.setRun_links (s : State) (r : RunState) : (s.setRun r).links = s.links := (rfl)
@[simp] theorem State.setRun_spot (s : State) (r : RunState) : (s.setRun r).spot = s.spot := (rfl)
@[simp] theorem State.setRun_router (s : State) (r : RunState) :
    (s.setRun r).router = s.router := (rfl)
@[simp] theorem State.setRun_plans (s : State) (r : RunState) : (s.setRun r).plans = s.plans := (rfl)
@[simp] theorem State.setRun_store (s : State) (r : RunState) : (s.setRun r).store = s.store := (rfl)
@[simp] theorem State.setRun_port (s : State) (r : RunState) : (s.setRun r).port = s.port := (rfl)

/-! ## State.setLatch -/

@[simp] theorem State.setLatch_pending (s : State) (b : Bool) :
    (s.setLatch b).pending = s.pending := (rfl)
@[simp] theorem State.setLatch_freeCount (s : State) (b : Bool) :
    (s.setLatch b).freeCount = s.freeCount := (rfl)
@[simp] theorem State.setLatch_clock (s : State) (b : Bool) : (s.setLatch b).clock = s.clock := (rfl)
@[simp] theorem State.setLatch_timer (s : State) (b : Bool) : (s.setLatch b).timer = s.timer := (rfl)
@[simp] theorem State.setLatch_engine (s : State) (b : Bool) :
    (s.setLatch b).engine = s.engine := (rfl)
@[simp] theorem State.setLatch_registry (s : State) (b : Bool) :
    (s.setLatch b).registry = s.registry := (rfl)
@[simp] theorem State.setLatch_links (s : State) (b : Bool) : (s.setLatch b).links = s.links := (rfl)
@[simp] theorem State.setLatch_spot (s : State) (b : Bool) : (s.setLatch b).spot = s.spot := (rfl)
@[simp] theorem State.setLatch_router (s : State) (b : Bool) :
    (s.setLatch b).router = s.router := (rfl)
@[simp] theorem State.setLatch_plans (s : State) (b : Bool) : (s.setLatch b).plans = s.plans := (rfl)
@[simp] theorem State.setLatch_store (s : State) (b : Bool) :
    (s.setLatch b).store = { s.store with latch := b } := (rfl)
@[simp] theorem State.setLatch_port (s : State) (b : Bool) : (s.setLatch b).port = s.port := (rfl)

/-! ## State.setStoreSlot -/

@[simp] theorem State.setStoreSlot_pending (s : State) (n : Fin 4) (x : StoreSlot) :
    (s.setStoreSlot n x).pending = s.pending := (rfl)
@[simp] theorem State.setStoreSlot_freeCount (s : State) (n : Fin 4) (x : StoreSlot) :
    (s.setStoreSlot n x).freeCount = s.freeCount := (rfl)
@[simp] theorem State.setStoreSlot_clock (s : State) (n : Fin 4) (x : StoreSlot) :
    (s.setStoreSlot n x).clock = s.clock := (rfl)
@[simp] theorem State.setStoreSlot_timer (s : State) (n : Fin 4) (x : StoreSlot) :
    (s.setStoreSlot n x).timer = s.timer := (rfl)
@[simp] theorem State.setStoreSlot_engine (s : State) (n : Fin 4) (x : StoreSlot) :
    (s.setStoreSlot n x).engine = s.engine := (rfl)
@[simp] theorem State.setStoreSlot_registry (s : State) (n : Fin 4) (x : StoreSlot) :
    (s.setStoreSlot n x).registry = s.registry := (rfl)
@[simp] theorem State.setStoreSlot_links (s : State) (n : Fin 4) (x : StoreSlot) :
    (s.setStoreSlot n x).links = s.links := (rfl)
@[simp] theorem State.setStoreSlot_spot (s : State) (n : Fin 4) (x : StoreSlot) :
    (s.setStoreSlot n x).spot = s.spot := (rfl)
@[simp] theorem State.setStoreSlot_router (s : State) (n : Fin 4) (x : StoreSlot) :
    (s.setStoreSlot n x).router = s.router := (rfl)
@[simp] theorem State.setStoreSlot_plans (s : State) (n : Fin 4) (x : StoreSlot) :
    (s.setStoreSlot n x).plans = s.plans := (rfl)
@[simp] theorem State.setStoreSlot_store (s : State) (n : Fin 4) (x : StoreSlot) :
    (s.setStoreSlot n x).store = { s.store with slots := Tab.put s.store.slots n.val x } := (rfl)
@[simp] theorem State.setStoreSlot_port (s : State) (n : Fin 4) (x : StoreSlot) :
    (s.setStoreSlot n x).port = s.port := (rfl)

/-! ## State.answered -/

@[simp] theorem State.answered_pending (s : State) (a : Answer) :
    (s.answered a).pending = s.pending := (rfl)
@[simp] theorem State.answered_freeCount (s : State) (a : Answer) :
    (s.answered a).freeCount = s.freeCount := (rfl)
@[simp] theorem State.answered_clock (s : State) (a : Answer) :
    (s.answered a).clock = s.clock := (rfl)
@[simp] theorem State.answered_timer (s : State) (a : Answer) :
    (s.answered a).timer = s.timer := (rfl)
@[simp] theorem State.answered_engine (s : State) (a : Answer) :
    (s.answered a).engine = s.engine := (rfl)
@[simp] theorem State.answered_registry (s : State) (a : Answer) :
    (s.answered a).registry = s.registry := (rfl)
@[simp] theorem State.answered_links (s : State) (a : Answer) :
    (s.answered a).links = s.links := (rfl)
@[simp] theorem State.answered_spot (s : State) (a : Answer) : (s.answered a).spot = s.spot := (rfl)
@[simp] theorem State.answered_router (s : State) (a : Answer) :
    (s.answered a).router = s.router := (rfl)
@[simp] theorem State.answered_plans (s : State) (a : Answer) :
    (s.answered a).plans = s.plans := (rfl)
@[simp] theorem State.answered_store (s : State) (a : Answer) :
    (s.answered a).store = s.store := (rfl)
@[simp] theorem State.answered_port (s : State) (a : Answer) :
    (s.answered a).port = { s.port with answer := some a } := (rfl)

/-! ## raise -/

@[simp] theorem raise_pending (s : State) (f : Flag) : (raise f s).pending = s.pending := (rfl)
@[simp] theorem raise_freeCount (s : State) (f : Flag) : (raise f s).freeCount = s.freeCount := (rfl)
@[simp] theorem raise_clock (s : State) (f : Flag) : (raise f s).clock = s.clock := (rfl)
@[simp] theorem raise_timer (s : State) (f : Flag) : (raise f s).timer = s.timer := (rfl)
@[simp] theorem raise_engine (s : State) (f : Flag) : (raise f s).engine = s.engine := (rfl)
@[simp] theorem raise_registry (s : State) (f : Flag) : (raise f s).registry = s.registry := (rfl)
@[simp] theorem raise_links (s : State) (f : Flag) : (raise f s).links = s.links := (rfl)
@[simp] theorem raise_spot (s : State) (f : Flag) : (raise f s).spot = s.spot := (rfl)
@[simp] theorem raise_router (s : State) (f : Flag) : (raise f s).router = s.router := (rfl)
@[simp] theorem raise_plans (s : State) (f : Flag) : (raise f s).plans = s.plans := (rfl)
@[simp] theorem raise_store (s : State) (f : Flag) : (raise f s).store = s.store := (rfl)
@[simp] theorem raise_port (s : State) (f : Flag) : (raise f s).port = s.port.raise f := (rfl)

end Sys2Proof.Machine
end

