-- ==== Sys2Proof/Laws/Reads.lean ====
section
/-! SUPPORT. Laws/Reads.lean: what each update of the state leaves in each read of its tables, all true
by rfl. -/

namespace Sys2Proof.Machine

/-! ## State.withTimer -/

@[simp] theorem State.withTimer_probe (s : State) (t : SweepTimer) (m : Nat) :
    (s.withTimer t).probe m = s.probe m := (rfl)
@[simp] theorem State.withTimer_portState (s : State) (t : SweepTimer) (m : Nat) :
    (s.withTimer t).portState m = s.portState m := (rfl)
@[simp] theorem State.withTimer_link (s : State) (t : SweepTimer) (i : Nat) :
    (s.withTimer t).link i = s.link i := (rfl)
@[simp] theorem State.withTimer_openAt (s : State) (t : SweepTimer) (j : Fin 8) :
    (s.withTimer t).openAt j = s.openAt j := (rfl)
@[simp] theorem State.withTimer_turn (s : State) (t : SweepTimer) (j : Fin 8) :
    (s.withTimer t).turn j = s.turn j := (rfl)
@[simp] theorem State.withTimer_tableEmpty (s : State) (t : SweepTimer) :
    (s.withTimer t).tableEmpty = s.tableEmpty := (rfl)
@[simp] theorem State.withTimer_pendingSteps (s : State) (t : SweepTimer) :
    (s.withTimer t).pendingSteps = s.pendingSteps := (rfl)
@[simp] theorem State.withTimer_active (s : State) (t : SweepTimer) :
    (s.withTimer t).active = s.active := (rfl)
@[simp] theorem State.withTimer_params (s : State) (t : SweepTimer) :
    (s.withTimer t).params = s.params := (rfl)
@[simp] theorem State.withTimer_linkDefined (s : State) (t : SweepTimer) (i : Nat) :
    (s.withTimer t).linkDefined i = s.linkDefined i := (rfl)
@[simp] theorem State.withTimer_starting (s : State) (t : SweepTimer) :
    (s.withTimer t).starting = s.starting := (rfl)
@[simp] theorem State.withTimer_storeSlot (s : State) (t : SweepTimer) (j : Fin 4) :
    (s.withTimer t).storeSlot j = s.storeSlot j := (rfl)

/-! ## State.withEngine -/

@[simp] theorem State.withEngine_probe (s : State) (e : StepEngine) (m : Nat) :
    (s.withEngine e).probe m = s.probe m := (rfl)
@[simp] theorem State.withEngine_portState (s : State) (e : StepEngine) (m : Nat) :
    (s.withEngine e).portState m = s.portState m := (rfl)
@[simp] theorem State.withEngine_link (s : State) (e : StepEngine) (i : Nat) :
    (s.withEngine e).link i = s.link i := (rfl)
@[simp] theorem State.withEngine_active (s : State) (e : StepEngine) :
    (s.withEngine e).active = s.active := (rfl)
@[simp] theorem State.withEngine_params (s : State) (e : StepEngine) :
    (s.withEngine e).params = s.params := (rfl)
@[simp] theorem State.withEngine_linkDefined (s : State) (e : StepEngine) (i : Nat) :
    (s.withEngine e).linkDefined i = s.linkDefined i := (rfl)
@[simp] theorem State.withEngine_starting (s : State) (e : StepEngine) :
    (s.withEngine e).starting = s.starting := (rfl)
@[simp] theorem State.withEngine_storeSlot (s : State) (e : StepEngine) (j : Fin 4) :
    (s.withEngine e).storeSlot j = s.storeSlot j := (rfl)

/-! ## State.withRegistry -/

@[simp] theorem State.withRegistry_link (s : State) (r : ProbeRegistry) (i : Nat) :
    (s.withRegistry r).link i = s.link i := (rfl)
@[simp] theorem State.withRegistry_openAt (s : State) (r : ProbeRegistry) (j : Fin 8) :
    (s.withRegistry r).openAt j = s.openAt j := (rfl)
@[simp] theorem State.withRegistry_turn (s : State) (r : ProbeRegistry) (j : Fin 8) :
    (s.withRegistry r).turn j = s.turn j := (rfl)
@[simp] theorem State.withRegistry_tableEmpty (s : State) (r : ProbeRegistry) :
    (s.withRegistry r).tableEmpty = s.tableEmpty := (rfl)
@[simp] theorem State.withRegistry_pendingSteps (s : State) (r : ProbeRegistry) :
    (s.withRegistry r).pendingSteps = s.pendingSteps := (rfl)
@[simp] theorem State.withRegistry_active (s : State) (r : ProbeRegistry) :
    (s.withRegistry r).active = s.active := (rfl)
@[simp] theorem State.withRegistry_params (s : State) (r : ProbeRegistry) :
    (s.withRegistry r).params = s.params := (rfl)
@[simp] theorem State.withRegistry_linkDefined (s : State) (r : ProbeRegistry) (i : Nat) :
    (s.withRegistry r).linkDefined i = s.linkDefined i := (rfl)
@[simp] theorem State.withRegistry_starting (s : State) (r : ProbeRegistry) :
    (s.withRegistry r).starting = s.starting := (rfl)
@[simp] theorem State.withRegistry_storeSlot (s : State) (r : ProbeRegistry) (j : Fin 4) :
    (s.withRegistry r).storeSlot j = s.storeSlot j := (rfl)

/-! ## State.withRouter -/

@[simp] theorem State.withRouter_probe (s : State) (r : ResultRouter) (m : Nat) :
    (s.withRouter r).probe m = s.probe m := (rfl)
@[simp] theorem State.withRouter_portState (s : State) (r : ResultRouter) (m : Nat) :
    (s.withRouter r).portState m = s.portState m := (rfl)
@[simp] theorem State.withRouter_link (s : State) (r : ResultRouter) (i : Nat) :
    (s.withRouter r).link i = s.link i := (rfl)
@[simp] theorem State.withRouter_openAt (s : State) (r : ResultRouter) (j : Fin 8) :
    (s.withRouter r).openAt j = s.openAt j := (rfl)
@[simp] theorem State.withRouter_turn (s : State) (r : ResultRouter) (j : Fin 8) :
    (s.withRouter r).turn j = s.turn j := (rfl)
@[simp] theorem State.withRouter_tableEmpty (s : State) (r : ResultRouter) :
    (s.withRouter r).tableEmpty = s.tableEmpty := (rfl)
@[simp] theorem State.withRouter_pendingSteps (s : State) (r : ResultRouter) :
    (s.withRouter r).pendingSteps = s.pendingSteps := (rfl)
@[simp] theorem State.withRouter_active (s : State) (r : ResultRouter) :
    (s.withRouter r).active = s.active := (rfl)
@[simp] theorem State.withRouter_params (s : State) (r : ResultRouter) :
    (s.withRouter r).params = s.params := (rfl)
@[simp] theorem State.withRouter_linkDefined (s : State) (r : ResultRouter) (i : Nat) :
    (s.withRouter r).linkDefined i = s.linkDefined i := (rfl)
@[simp] theorem State.withRouter_starting (s : State) (r : ResultRouter) :
    (s.withRouter r).starting = s.starting := (rfl)
@[simp] theorem State.withRouter_storeSlot (s : State) (r : ResultRouter) (j : Fin 4) :
    (s.withRouter r).storeSlot j = s.storeSlot j := (rfl)

/-! ## State.withPlans -/

@[simp] theorem State.withPlans_probe (s : State) (p : PlanMemory) (m : Nat) :
    (s.withPlans p).probe m = s.probe m := (rfl)
@[simp] theorem State.withPlans_portState (s : State) (p : PlanMemory) (m : Nat) :
    (s.withPlans p).portState m = s.portState m := (rfl)
@[simp] theorem State.withPlans_link (s : State) (p : PlanMemory) (i : Nat) :
    (s.withPlans p).link i = s.link i := (rfl)
@[simp] theorem State.withPlans_openAt (s : State) (p : PlanMemory) (j : Fin 8) :
    (s.withPlans p).openAt j = s.openAt j := (rfl)
@[simp] theorem State.withPlans_turn (s : State) (p : PlanMemory) (j : Fin 8) :
    (s.withPlans p).turn j = s.turn j := (rfl)
@[simp] theorem State.withPlans_tableEmpty (s : State) (p : PlanMemory) :
    (s.withPlans p).tableEmpty = s.tableEmpty := (rfl)
@[simp] theorem State.withPlans_pendingSteps (s : State) (p : PlanMemory) :
    (s.withPlans p).pendingSteps = s.pendingSteps := (rfl)
@[simp] theorem State.withPlans_starting (s : State) (p : PlanMemory) :
    (s.withPlans p).starting = s.starting := (rfl)
@[simp] theorem State.withPlans_storeSlot (s : State) (p : PlanMemory) (j : Fin 4) :
    (s.withPlans p).storeSlot j = s.storeSlot j := (rfl)

/-! ## State.withStore -/

@[simp] theorem State.withStore_probe (s : State) (x : PlanStore) (m : Nat) :
    (s.withStore x).probe m = s.probe m := (rfl)
@[simp] theorem State.withStore_portState (s : State) (x : PlanStore) (m : Nat) :
    (s.withStore x).portState m = s.portState m := (rfl)
@[simp] theorem State.withStore_link (s : State) (x : PlanStore) (i : Nat) :
    (s.withStore x).link i = s.link i := (rfl)
@[simp] theorem State.withStore_openAt (s : State) (x : PlanStore) (j : Fin 8) :
    (s.withStore x).openAt j = s.openAt j := (rfl)
@[simp] theorem State.withStore_turn (s : State) (x : PlanStore) (j : Fin 8) :
    (s.withStore x).turn j = s.turn j := (rfl)
@[simp] theorem State.withStore_tableEmpty (s : State) (x : PlanStore) :
    (s.withStore x).tableEmpty = s.tableEmpty := (rfl)
@[simp] theorem State.withStore_pendingSteps (s : State) (x : PlanStore) :
    (s.withStore x).pendingSteps = s.pendingSteps := (rfl)
@[simp] theorem State.withStore_active (s : State) (x : PlanStore) :
    (s.withStore x).active = s.active := (rfl)
@[simp] theorem State.withStore_params (s : State) (x : PlanStore) :
    (s.withStore x).params = s.params := (rfl)
@[simp] theorem State.withStore_linkDefined (s : State) (x : PlanStore) (i : Nat) :
    (s.withStore x).linkDefined i = s.linkDefined i := (rfl)

/-! ## State.withPort -/

@[simp] theorem State.withPort_probe (s : State) (p : StationPort) (m : Nat) :
    (s.withPort p).probe m = s.probe m := (rfl)
@[simp] theorem State.withPort_portState (s : State) (p : StationPort) (m : Nat) :
    (s.withPort p).portState m = s.portState m := (rfl)
@[simp] theorem State.withPort_link (s : State) (p : StationPort) (i : Nat) :
    (s.withPort p).link i = s.link i := (rfl)
@[simp] theorem State.withPort_openAt (s : State) (p : StationPort) (j : Fin 8) :
    (s.withPort p).openAt j = s.openAt j := (rfl)
@[simp] theorem State.withPort_turn (s : State) (p : StationPort) (j : Fin 8) :
    (s.withPort p).turn j = s.turn j := (rfl)
@[simp] theorem State.withPort_tableEmpty (s : State) (p : StationPort) :
    (s.withPort p).tableEmpty = s.tableEmpty := (rfl)
@[simp] theorem State.withPort_pendingSteps (s : State) (p : StationPort) :
    (s.withPort p).pendingSteps = s.pendingSteps := (rfl)
@[simp] theorem State.withPort_active (s : State) (p : StationPort) :
    (s.withPort p).active = s.active := (rfl)
@[simp] theorem State.withPort_params (s : State) (p : StationPort) :
    (s.withPort p).params = s.params := (rfl)
@[simp] theorem State.withPort_linkDefined (s : State) (p : StationPort) (i : Nat) :
    (s.withPort p).linkDefined i = s.linkDefined i := (rfl)
@[simp] theorem State.withPort_starting (s : State) (p : StationPort) :
    (s.withPort p).starting = s.starting := (rfl)
@[simp] theorem State.withPort_storeSlot (s : State) (p : StationPort) (j : Fin 4) :
    (s.withPort p).storeSlot j = s.storeSlot j := (rfl)

/-! ## State.withSpot -/

@[simp] theorem State.withSpot_probe (s : State) (q : List SpotRequest) (m : Nat) :
    (s.withSpot q).probe m = s.probe m := (rfl)
@[simp] theorem State.withSpot_portState (s : State) (q : List SpotRequest) (m : Nat) :
    (s.withSpot q).portState m = s.portState m := (rfl)
@[simp] theorem State.withSpot_link (s : State) (q : List SpotRequest) (i : Nat) :
    (s.withSpot q).link i = s.link i := (rfl)
@[simp] theorem State.withSpot_openAt (s : State) (q : List SpotRequest) (j : Fin 8) :
    (s.withSpot q).openAt j = s.openAt j := (rfl)
@[simp] theorem State.withSpot_turn (s : State) (q : List SpotRequest) (j : Fin 8) :
    (s.withSpot q).turn j = s.turn j := (rfl)
@[simp] theorem State.withSpot_tableEmpty (s : State) (q : List SpotRequest) :
    (s.withSpot q).tableEmpty = s.tableEmpty := (rfl)
@[simp] theorem State.withSpot_pendingSteps (s : State) (q : List SpotRequest) :
    (s.withSpot q).pendingSteps = s.pendingSteps := (rfl)
@[simp] theorem State.withSpot_active (s : State) (q : List SpotRequest) :
    (s.withSpot q).active = s.active := (rfl)
@[simp] theorem State.withSpot_params (s : State) (q : List SpotRequest) :
    (s.withSpot q).params = s.params := (rfl)
@[simp] theorem State.withSpot_linkDefined (s : State) (q : List SpotRequest) (i : Nat) :
    (s.withSpot q).linkDefined i = s.linkDefined i := (rfl)
@[simp] theorem State.withSpot_starting (s : State) (q : List SpotRequest) :
    (s.withSpot q).starting = s.starting := (rfl)
@[simp] theorem State.withSpot_storeSlot (s : State) (q : List SpotRequest) (j : Fin 4) :
    (s.withSpot q).storeSlot j = s.storeSlot j := (rfl)

/-! ## State.withPending -/

@[simp] theorem State.withPending_probe (s : State) (q : List Instr) (m : Nat) :
    (s.withPending q).probe m = s.probe m := (rfl)
@[simp] theorem State.withPending_portState (s : State) (q : List Instr) (m : Nat) :
    (s.withPending q).portState m = s.portState m := (rfl)
@[simp] theorem State.withPending_link (s : State) (q : List Instr) (i : Nat) :
    (s.withPending q).link i = s.link i := (rfl)
@[simp] theorem State.withPending_openAt (s : State) (q : List Instr) (j : Fin 8) :
    (s.withPending q).openAt j = s.openAt j := (rfl)
@[simp] theorem State.withPending_turn (s : State) (q : List Instr) (j : Fin 8) :
    (s.withPending q).turn j = s.turn j := (rfl)
@[simp] theorem State.withPending_tableEmpty (s : State) (q : List Instr) :
    (s.withPending q).tableEmpty = s.tableEmpty := (rfl)
@[simp] theorem State.withPending_pendingSteps (s : State) (q : List Instr) :
    (s.withPending q).pendingSteps = s.pendingSteps := (rfl)
@[simp] theorem State.withPending_active (s : State) (q : List Instr) :
    (s.withPending q).active = s.active := (rfl)
@[simp] theorem State.withPending_params (s : State) (q : List Instr) :
    (s.withPending q).params = s.params := (rfl)
@[simp] theorem State.withPending_linkDefined (s : State) (q : List Instr) (i : Nat) :
    (s.withPending q).linkDefined i = s.linkDefined i := (rfl)
@[simp] theorem State.withPending_starting (s : State) (q : List Instr) :
    (s.withPending q).starting = s.starting := (rfl)
@[simp] theorem State.withPending_storeSlot (s : State) (q : List Instr) (j : Fin 4) :
    (s.withPending q).storeSlot j = s.storeSlot j := (rfl)

/-! ## State.withSession -/

@[simp] theorem State.withSession_probe (s : State) (x : Session) (m : Nat) :
    (s.withSession x).probe m = s.probe m := (rfl)
@[simp] theorem State.withSession_portState (s : State) (x : Session) (m : Nat) :
    (s.withSession x).portState m = s.portState m := (rfl)
@[simp] theorem State.withSession_link (s : State) (x : Session) (i : Nat) :
    (s.withSession x).link i = s.link i := (rfl)
@[simp] theorem State.withSession_openAt (s : State) (x : Session) (j : Fin 8) :
    (s.withSession x).openAt j = s.openAt j := (rfl)
@[simp] theorem State.withSession_turn (s : State) (x : Session) (j : Fin 8) :
    (s.withSession x).turn j = s.turn j := (rfl)
@[simp] theorem State.withSession_tableEmpty (s : State) (x : Session) :
    (s.withSession x).tableEmpty = s.tableEmpty := (rfl)
@[simp] theorem State.withSession_pendingSteps (s : State) (x : Session) :
    (s.withSession x).pendingSteps = s.pendingSteps := (rfl)
@[simp] theorem State.withSession_active (s : State) (x : Session) :
    (s.withSession x).active = s.active := (rfl)
@[simp] theorem State.withSession_params (s : State) (x : Session) :
    (s.withSession x).params = s.params := (rfl)
@[simp] theorem State.withSession_linkDefined (s : State) (x : Session) (i : Nat) :
    (s.withSession x).linkDefined i = s.linkDefined i := (rfl)
@[simp] theorem State.withSession_starting (s : State) (x : Session) :
    (s.withSession x).starting = s.starting := (rfl)
@[simp] theorem State.withSession_storeSlot (s : State) (x : Session) (j : Fin 4) :
    (s.withSession x).storeSlot j = s.storeSlot j := (rfl)

/-! ## State.bump -/

@[simp] theorem State.bump_probe (s : State) (m : Nat) : (s.bump).probe m = s.probe m := (rfl)
@[simp] theorem State.bump_portState (s : State) (m : Nat) :
    (s.bump).portState m = s.portState m := (rfl)
@[simp] theorem State.bump_link (s : State) (i : Nat) : (s.bump).link i = s.link i := (rfl)
@[simp] theorem State.bump_openAt (s : State) (j : Fin 8) : (s.bump).openAt j = s.openAt j := (rfl)
@[simp] theorem State.bump_turn (s : State) (j : Fin 8) : (s.bump).turn j = s.turn j := (rfl)
@[simp] theorem State.bump_tableEmpty (s : State) : (s.bump).tableEmpty = s.tableEmpty := (rfl)
@[simp] theorem State.bump_pendingSteps (s : State) : (s.bump).pendingSteps = s.pendingSteps := (rfl)
@[simp] theorem State.bump_active (s : State) : (s.bump).active = s.active := (rfl)
@[simp] theorem State.bump_params (s : State) : (s.bump).params = s.params := (rfl)
@[simp] theorem State.bump_linkDefined (s : State) (i : Nat) :
    (s.bump).linkDefined i = s.linkDefined i := (rfl)
@[simp] theorem State.bump_starting (s : State) : (s.bump).starting = s.starting := (rfl)
@[simp] theorem State.bump_storeSlot (s : State) (j : Fin 4) :
    (s.bump).storeSlot j = s.storeSlot j := (rfl)

/-! ## State.setProbe -/

@[simp] theorem State.setProbe_portState (s : State) (n : Nat) (e : ProbeEntry) (m : Nat) :
    (s.setProbe n e).portState m = s.portState m := (rfl)
@[simp] theorem State.setProbe_link (s : State) (n : Nat) (e : ProbeEntry) (i : Nat) :
    (s.setProbe n e).link i = s.link i := (rfl)
@[simp] theorem State.setProbe_openAt (s : State) (n : Nat) (e : ProbeEntry) (j : Fin 8) :
    (s.setProbe n e).openAt j = s.openAt j := (rfl)
@[simp] theorem State.setProbe_turn (s : State) (n : Nat) (e : ProbeEntry) (j : Fin 8) :
    (s.setProbe n e).turn j = s.turn j := (rfl)
@[simp] theorem State.setProbe_tableEmpty (s : State) (n : Nat) (e : ProbeEntry) :
    (s.setProbe n e).tableEmpty = s.tableEmpty := (rfl)
@[simp] theorem State.setProbe_pendingSteps (s : State) (n : Nat) (e : ProbeEntry) :
    (s.setProbe n e).pendingSteps = s.pendingSteps := (rfl)
@[simp] theorem State.setProbe_active (s : State) (n : Nat) (e : ProbeEntry) :
    (s.setProbe n e).active = s.active := (rfl)
@[simp] theorem State.setProbe_params (s : State) (n : Nat) (e : ProbeEntry) :
    (s.setProbe n e).params = s.params := (rfl)
@[simp] theorem State.setProbe_linkDefined (s : State) (n : Nat) (e : ProbeEntry) (i : Nat) :
    (s.setProbe n e).linkDefined i = s.linkDefined i := (rfl)
@[simp] theorem State.setProbe_starting (s : State) (n : Nat) (e : ProbeEntry) :
    (s.setProbe n e).starting = s.starting := (rfl)
@[simp] theorem State.setProbe_storeSlot (s : State) (n : Nat) (e : ProbeEntry) (j : Fin 4) :
    (s.setProbe n e).storeSlot j = s.storeSlot j := (rfl)

/-! ## State.mapProbe -/

@[simp] theorem State.mapProbe_portState (s : State) (n : Nat) (f : ProbeEntry → ProbeEntry) (m : Nat) :
    (s.mapProbe n f).portState m = s.portState m := (rfl)
@[simp] theorem State.mapProbe_link (s : State) (n : Nat) (f : ProbeEntry → ProbeEntry) (i : Nat) :
    (s.mapProbe n f).link i = s.link i := (rfl)
@[simp] theorem State.mapProbe_openAt (s : State) (n : Nat) (f : ProbeEntry → ProbeEntry) (j : Fin 8) :
    (s.mapProbe n f).openAt j = s.openAt j := (rfl)
@[simp] theorem State.mapProbe_turn (s : State) (n : Nat) (f : ProbeEntry → ProbeEntry) (j : Fin 8) :
    (s.mapProbe n f).turn j = s.turn j := (rfl)
@[simp] theorem State.mapProbe_tableEmpty (s : State) (n : Nat) (f : ProbeEntry → ProbeEntry) :
    (s.mapProbe n f).tableEmpty = s.tableEmpty := (rfl)
@[simp] theorem State.mapProbe_pendingSteps (s : State) (n : Nat) (f : ProbeEntry → ProbeEntry) :
    (s.mapProbe n f).pendingSteps = s.pendingSteps := (rfl)
@[simp] theorem State.mapProbe_active (s : State) (n : Nat) (f : ProbeEntry → ProbeEntry) :
    (s.mapProbe n f).active = s.active := (rfl)
@[simp] theorem State.mapProbe_params (s : State) (n : Nat) (f : ProbeEntry → ProbeEntry) :
    (s.mapProbe n f).params = s.params := (rfl)
@[simp] theorem State.mapProbe_linkDefined (s : State) (n : Nat) (f : ProbeEntry → ProbeEntry) (i : Nat) :
    (s.mapProbe n f).linkDefined i = s.linkDefined i := (rfl)
@[simp] theorem State.mapProbe_starting (s : State) (n : Nat) (f : ProbeEntry → ProbeEntry) :
    (s.mapProbe n f).starting = s.starting := (rfl)
@[simp] theorem State.mapProbe_storeSlot (s : State) (n : Nat) (f : ProbeEntry → ProbeEntry) (j : Fin 4) :
    (s.mapProbe n f).storeSlot j = s.storeSlot j := (rfl)

/-! ## State.setPortState -/

@[simp] theorem State.setPortState_probe (s : State) (n : Nat) (p : PortState) (m : Nat) :
    (s.setPortState n p).probe m = s.probe m := (rfl)
@[simp] theorem State.setPortState_link (s : State) (n : Nat) (p : PortState) (i : Nat) :
    (s.setPortState n p).link i = s.link i := (rfl)
@[simp] theorem State.setPortState_openAt (s : State) (n : Nat) (p : PortState) (j : Fin 8) :
    (s.setPortState n p).openAt j = s.openAt j := (rfl)
@[simp] theorem State.setPortState_turn (s : State) (n : Nat) (p : PortState) (j : Fin 8) :
    (s.setPortState n p).turn j = s.turn j := (rfl)
@[simp] theorem State.setPortState_tableEmpty (s : State) (n : Nat) (p : PortState) :
    (s.setPortState n p).tableEmpty = s.tableEmpty := (rfl)
@[simp] theorem State.setPortState_pendingSteps (s : State) (n : Nat) (p : PortState) :
    (s.setPortState n p).pendingSteps = s.pendingSteps := (rfl)
@[simp] theorem State.setPortState_active (s : State) (n : Nat) (p : PortState) :
    (s.setPortState n p).active = s.active := (rfl)
@[simp] theorem State.setPortState_params (s : State) (n : Nat) (p : PortState) :
    (s.setPortState n p).params = s.params := (rfl)
@[simp] theorem State.setPortState_linkDefined (s : State) (n : Nat) (p : PortState) (i : Nat) :
    (s.setPortState n p).linkDefined i = s.linkDefined i := (rfl)
@[simp] theorem State.setPortState_starting (s : State) (n : Nat) (p : PortState) :
    (s.setPortState n p).starting = s.starting := (rfl)
@[simp] theorem State.setPortState_storeSlot (s : State) (n : Nat) (p : PortState) (j : Fin 4) :
    (s.setPortState n p).storeSlot j = s.storeSlot j := (rfl)

/-! ## State.setLink -/

@[simp] theorem State.setLink_probe (s : State) (id : Nat) (r : LinkRecord) (m : Nat) :
    (s.setLink id r).probe m = s.probe m := (rfl)
@[simp] theorem State.setLink_portState (s : State) (id : Nat) (r : LinkRecord) (m : Nat) :
    (s.setLink id r).portState m = s.portState m := (rfl)
@[simp] theorem State.setLink_openAt (s : State) (id : Nat) (r : LinkRecord) (j : Fin 8) :
    (s.setLink id r).openAt j = s.openAt j := (rfl)
@[simp] theorem State.setLink_turn (s : State) (id : Nat) (r : LinkRecord) (j : Fin 8) :
    (s.setLink id r).turn j = s.turn j := (rfl)
@[simp] theorem State.setLink_tableEmpty (s : State) (id : Nat) (r : LinkRecord) :
    (s.setLink id r).tableEmpty = s.tableEmpty := (rfl)
@[simp] theorem State.setLink_pendingSteps (s : State) (id : Nat) (r : LinkRecord) :
    (s.setLink id r).pendingSteps = s.pendingSteps := (rfl)
@[simp] theorem State.setLink_active (s : State) (id : Nat) (r : LinkRecord) :
    (s.setLink id r).active = s.active := (rfl)
@[simp] theorem State.setLink_params (s : State) (id : Nat) (r : LinkRecord) :
    (s.setLink id r).params = s.params := (rfl)
@[simp] theorem State.setLink_linkDefined (s : State) (id : Nat) (r : LinkRecord) (i : Nat) :
    (s.setLink id r).linkDefined i = s.linkDefined i := (rfl)
@[simp] theorem State.setLink_starting (s : State) (id : Nat) (r : LinkRecord) :
    (s.setLink id r).starting = s.starting := (rfl)
@[simp] theorem State.setLink_storeSlot (s : State) (id : Nat) (r : LinkRecord) (j : Fin 4) :
    (s.setLink id r).storeSlot j = s.storeSlot j := (rfl)

/-! ## State.setOpen -/

@[simp] theorem State.setOpen_probe (s : State) (k : Fin 8) (o : Option OpenStep) (m : Nat) :
    (s.setOpen k o).probe m = s.probe m := (rfl)
@[simp] theorem State.setOpen_portState (s : State) (k : Fin 8) (o : Option OpenStep) (m : Nat) :
    (s.setOpen k o).portState m = s.portState m := (rfl)
@[simp] theorem State.setOpen_link (s : State) (k : Fin 8) (o : Option OpenStep) (i : Nat) :
    (s.setOpen k o).link i = s.link i := (rfl)
@[simp] theorem State.setOpen_turn (s : State) (k : Fin 8) (o : Option OpenStep) (j : Fin 8) :
    (s.setOpen k o).turn j = s.turn j := (rfl)
@[simp] theorem State.setOpen_pendingSteps (s : State) (k : Fin 8) (o : Option OpenStep) :
    (s.setOpen k o).pendingSteps = s.pendingSteps := (rfl)
@[simp] theorem State.setOpen_active (s : State) (k : Fin 8) (o : Option OpenStep) :
    (s.setOpen k o).active = s.active := (rfl)
@[simp] theorem State.setOpen_params (s : State) (k : Fin 8) (o : Option OpenStep) :
    (s.setOpen k o).params = s.params := (rfl)
@[simp] theorem State.setOpen_linkDefined (s : State) (k : Fin 8) (o : Option OpenStep) (i : Nat) :
    (s.setOpen k o).linkDefined i = s.linkDefined i := (rfl)
@[simp] theorem State.setOpen_starting (s : State) (k : Fin 8) (o : Option OpenStep) :
    (s.setOpen k o).starting = s.starting := (rfl)
@[simp] theorem State.setOpen_storeSlot (s : State) (k : Fin 8) (o : Option OpenStep) (j : Fin 4) :
    (s.setOpen k o).storeSlot j = s.storeSlot j := (rfl)

/-! ## State.setMerged -/

@[simp] theorem State.setMerged_probe (s : State) (w : MergedWindow) (m : Nat) :
    (s.setMerged w).probe m = s.probe m := (rfl)
@[simp] theorem State.setMerged_portState (s : State) (w : MergedWindow) (m : Nat) :
    (s.setMerged w).portState m = s.portState m := (rfl)
@[simp] theorem State.setMerged_link (s : State) (w : MergedWindow) (i : Nat) :
    (s.setMerged w).link i = s.link i := (rfl)
@[simp] theorem State.setMerged_openAt (s : State) (w : MergedWindow) (j : Fin 8) :
    (s.setMerged w).openAt j = s.openAt j := (rfl)
@[simp] theorem State.setMerged_turn (s : State) (w : MergedWindow) (j : Fin 8) :
    (s.setMerged w).turn j = s.turn j := (rfl)
@[simp] theorem State.setMerged_tableEmpty (s : State) (w : MergedWindow) :
    (s.setMerged w).tableEmpty = s.tableEmpty := (rfl)
@[simp] theorem State.setMerged_active (s : State) (w : MergedWindow) :
    (s.setMerged w).active = s.active := (rfl)
@[simp] theorem State.setMerged_params (s : State) (w : MergedWindow) :
    (s.setMerged w).params = s.params := (rfl)
@[simp] theorem State.setMerged_linkDefined (s : State) (w : MergedWindow) (i : Nat) :
    (s.setMerged w).linkDefined i = s.linkDefined i := (rfl)
@[simp] theorem State.setMerged_starting (s : State) (w : MergedWindow) :
    (s.setMerged w).starting = s.starting := (rfl)
@[simp] theorem State.setMerged_storeSlot (s : State) (w : MergedWindow) (j : Fin 4) :
    (s.setMerged w).storeSlot j = s.storeSlot j := (rfl)

/-! ## State.setRun -/

@[simp] theorem State.setRun_probe (s : State) (r : RunState) (m : Nat) :
    (s.setRun r).probe m = s.probe m := (rfl)
@[simp] theorem State.setRun_portState (s : State) (r : RunState) (m : Nat) :
    (s.setRun r).portState m = s.portState m := (rfl)
@[simp] theorem State.setRun_link (s : State) (r : RunState) (i : Nat) :
    (s.setRun r).link i = s.link i := (rfl)
@[simp] theorem State.setRun_openAt (s : State) (r : RunState) (j : Fin 8) :
    (s.setRun r).openAt j = s.openAt j := (rfl)
@[simp] theorem State.setRun_turn (s : State) (r : RunState) (j : Fin 8) :
    (s.setRun r).turn j = s.turn j := (rfl)
@[simp] theorem State.setRun_tableEmpty (s : State) (r : RunState) :
    (s.setRun r).tableEmpty = s.tableEmpty := (rfl)
@[simp] theorem State.setRun_pendingSteps (s : State) (r : RunState) :
    (s.setRun r).pendingSteps = s.pendingSteps := (rfl)
@[simp] theorem State.setRun_active (s : State) (r : RunState) :
    (s.setRun r).active = s.active := (rfl)
@[simp] theorem State.setRun_params (s : State) (r : RunState) :
    (s.setRun r).params = s.params := (rfl)
@[simp] theorem State.setRun_linkDefined (s : State) (r : RunState) (i : Nat) :
    (s.setRun r).linkDefined i = s.linkDefined i := (rfl)
@[simp] theorem State.setRun_starting (s : State) (r : RunState) :
    (s.setRun r).starting = s.starting := (rfl)
@[simp] theorem State.setRun_storeSlot (s : State) (r : RunState) (j : Fin 4) :
    (s.setRun r).storeSlot j = s.storeSlot j := (rfl)

/-! ## State.setLatch -/

@[simp] theorem State.setLatch_probe (s : State) (b : Bool) (m : Nat) :
    (s.setLatch b).probe m = s.probe m := (rfl)
@[simp] theorem State.setLatch_portState (s : State) (b : Bool) (m : Nat) :
    (s.setLatch b).portState m = s.portState m := (rfl)
@[simp] theorem State.setLatch_link (s : State) (b : Bool) (i : Nat) :
    (s.setLatch b).link i = s.link i := (rfl)
@[simp] theorem State.setLatch_openAt (s : State) (b : Bool) (j : Fin 8) :
    (s.setLatch b).openAt j = s.openAt j := (rfl)
@[simp] theorem State.setLatch_turn (s : State) (b : Bool) (j : Fin 8) :
    (s.setLatch b).turn j = s.turn j := (rfl)
@[simp] theorem State.setLatch_tableEmpty (s : State) (b : Bool) :
    (s.setLatch b).tableEmpty = s.tableEmpty := (rfl)
@[simp] theorem State.setLatch_pendingSteps (s : State) (b : Bool) :
    (s.setLatch b).pendingSteps = s.pendingSteps := (rfl)
@[simp] theorem State.setLatch_active (s : State) (b : Bool) :
    (s.setLatch b).active = s.active := (rfl)
@[simp] theorem State.setLatch_params (s : State) (b : Bool) :
    (s.setLatch b).params = s.params := (rfl)
@[simp] theorem State.setLatch_linkDefined (s : State) (b : Bool) (i : Nat) :
    (s.setLatch b).linkDefined i = s.linkDefined i := (rfl)
@[simp] theorem State.setLatch_starting (s : State) (b : Bool) :
    (s.setLatch b).starting = s.starting := (rfl)
@[simp] theorem State.setLatch_storeSlot (s : State) (b : Bool) (j : Fin 4) :
    (s.setLatch b).storeSlot j = s.storeSlot j := (rfl)

/-! ## State.setStoreSlot -/

@[simp] theorem State.setStoreSlot_probe (s : State) (n : Fin 4) (x : StoreSlot) (m : Nat) :
    (s.setStoreSlot n x).probe m = s.probe m := (rfl)
@[simp] theorem State.setStoreSlot_portState (s : State) (n : Fin 4) (x : StoreSlot) (m : Nat) :
    (s.setStoreSlot n x).portState m = s.portState m := (rfl)
@[simp] theorem State.setStoreSlot_link (s : State) (n : Fin 4) (x : StoreSlot) (i : Nat) :
    (s.setStoreSlot n x).link i = s.link i := (rfl)
@[simp] theorem State.setStoreSlot_openAt (s : State) (n : Fin 4) (x : StoreSlot) (j : Fin 8) :
    (s.setStoreSlot n x).openAt j = s.openAt j := (rfl)
@[simp] theorem State.setStoreSlot_turn (s : State) (n : Fin 4) (x : StoreSlot) (j : Fin 8) :
    (s.setStoreSlot n x).turn j = s.turn j := (rfl)
@[simp] theorem State.setStoreSlot_tableEmpty (s : State) (n : Fin 4) (x : StoreSlot) :
    (s.setStoreSlot n x).tableEmpty = s.tableEmpty := (rfl)
@[simp] theorem State.setStoreSlot_pendingSteps (s : State) (n : Fin 4) (x : StoreSlot) :
    (s.setStoreSlot n x).pendingSteps = s.pendingSteps := (rfl)
@[simp] theorem State.setStoreSlot_active (s : State) (n : Fin 4) (x : StoreSlot) :
    (s.setStoreSlot n x).active = s.active := (rfl)
@[simp] theorem State.setStoreSlot_params (s : State) (n : Fin 4) (x : StoreSlot) :
    (s.setStoreSlot n x).params = s.params := (rfl)
@[simp] theorem State.setStoreSlot_linkDefined (s : State) (n : Fin 4) (x : StoreSlot) (i : Nat) :
    (s.setStoreSlot n x).linkDefined i = s.linkDefined i := (rfl)
@[simp] theorem State.setStoreSlot_starting (s : State) (n : Fin 4) (x : StoreSlot) :
    (s.setStoreSlot n x).starting = s.starting := (rfl)

/-! ## State.answered -/

@[simp] theorem State.answered_probe (s : State) (a : Answer) (m : Nat) :
    (s.answered a).probe m = s.probe m := (rfl)
@[simp] theorem State.answered_portState (s : State) (a : Answer) (m : Nat) :
    (s.answered a).portState m = s.portState m := (rfl)
@[simp] theorem State.answered_link (s : State) (a : Answer) (i : Nat) :
    (s.answered a).link i = s.link i := (rfl)
@[simp] theorem State.answered_openAt (s : State) (a : Answer) (j : Fin 8) :
    (s.answered a).openAt j = s.openAt j := (rfl)
@[simp] theorem State.answered_turn (s : State) (a : Answer) (j : Fin 8) :
    (s.answered a).turn j = s.turn j := (rfl)
@[simp] theorem State.answered_tableEmpty (s : State) (a : Answer) :
    (s.answered a).tableEmpty = s.tableEmpty := (rfl)
@[simp] theorem State.answered_pendingSteps (s : State) (a : Answer) :
    (s.answered a).pendingSteps = s.pendingSteps := (rfl)
@[simp] theorem State.answered_active (s : State) (a : Answer) :
    (s.answered a).active = s.active := (rfl)
@[simp] theorem State.answered_params (s : State) (a : Answer) :
    (s.answered a).params = s.params := (rfl)
@[simp] theorem State.answered_linkDefined (s : State) (a : Answer) (i : Nat) :
    (s.answered a).linkDefined i = s.linkDefined i := (rfl)
@[simp] theorem State.answered_starting (s : State) (a : Answer) :
    (s.answered a).starting = s.starting := (rfl)
@[simp] theorem State.answered_storeSlot (s : State) (a : Answer) (j : Fin 4) :
    (s.answered a).storeSlot j = s.storeSlot j := (rfl)

/-! ## raise -/

@[simp] theorem raise_probe (s : State) (f : Flag) (m : Nat) :
    (raise f s).probe m = s.probe m := (rfl)
@[simp] theorem raise_portState (s : State) (f : Flag) (m : Nat) :
    (raise f s).portState m = s.portState m := (rfl)
@[simp] theorem raise_link (s : State) (f : Flag) (i : Nat) : (raise f s).link i = s.link i := (rfl)
@[simp] theorem raise_openAt (s : State) (f : Flag) (j : Fin 8) :
    (raise f s).openAt j = s.openAt j := (rfl)
@[simp] theorem raise_turn (s : State) (f : Flag) (j : Fin 8) : (raise f s).turn j = s.turn j := (rfl)
@[simp] theorem raise_tableEmpty (s : State) (f : Flag) :
    (raise f s).tableEmpty = s.tableEmpty := (rfl)
@[simp] theorem raise_pendingSteps (s : State) (f : Flag) :
    (raise f s).pendingSteps = s.pendingSteps := (rfl)
@[simp] theorem raise_active (s : State) (f : Flag) : (raise f s).active = s.active := (rfl)
@[simp] theorem raise_params (s : State) (f : Flag) : (raise f s).params = s.params := (rfl)
@[simp] theorem raise_linkDefined (s : State) (f : Flag) (i : Nat) :
    (raise f s).linkDefined i = s.linkDefined i := (rfl)
@[simp] theorem raise_starting (s : State) (f : Flag) : (raise f s).starting = s.starting := (rfl)
@[simp] theorem raise_storeSlot (s : State) (f : Flag) (j : Fin 4) :
    (raise f s).storeSlot j = s.storeSlot j := (rfl)

end Sys2Proof.Machine
end

