-- ==== Sys2Proof/Laws/Tables.lean ====
section
/-! SUPPORT. Laws/Tables.lean: reading back what was written to a table of the state. -/

namespace Sys2Proof.Machine

/-! ## Tables of fixed length -/

theorem Tab.get_put {α : Type} {n : Nat} (d : α) (v : Vector α n) (i j : Nat) (x : α) :
    Tab.get d (Tab.put v i x) j = if i = j ∧ j < n then x else Tab.get d v j := by
  unfold Tab.get Tab.put
  rw [Vector.getElem?_setIfInBounds]
  by_cases h : i = j
  · subst h
    by_cases hn : i < n <;> simp [hn]
  · simp [h]

theorem Tab.get_put_same {α : Type} {n : Nat} (d : α) (v : Vector α n) (i : Nat) (x : α) (h : i < n) :
    Tab.get d (Tab.put v i x) i = x := by simp [Tab.get_put, h]

theorem Tab.get_put_ne {α : Type} {n : Nat} (d : α) (v : Vector α n) {i j : Nat} (x : α) (h : i ≠ j) :
    Tab.get d (Tab.put v i x) j = Tab.get d v j := by simp [Tab.get_put, h]

theorem Tab.get_replicate {α : Type} {n : Nat} (d x : α) (i : Nat) :
    Tab.get d (Vector.replicate n x) i = if i < n then x else d := by
  unfold Tab.get
  by_cases h : i < n <;> simp [h]

theorem Tab.get_replicate_same {α : Type} {n : Nat} (d : α) (i : Nat) :
    Tab.get d (Vector.replicate n d) i = d := by simp [Tab.get_replicate]

theorem Tab.getSlot_putSlot {α : Type} {n : Nat} (d : α) (v : Vector α n) (k m : Nat) (x : α) :
    Tab.getSlot d (Tab.putSlot v k x) m
      = if k = m ∧ 1 ≤ m ∧ m ≤ n then x else Tab.getSlot d v m := by
  match k, m with
  | 0, 0 => simp [Tab.getSlot]
  | 0, m + 1 => simp [Tab.getSlot, Tab.putSlot]
  | k + 1, 0 => simp [Tab.getSlot]
  | k + 1, m + 1 =>
    have hm : 1 ≤ m + 1 := Nat.succ_pos m
    by_cases h : k = m <;> by_cases hn : m < n <;>
      simp [Tab.getSlot, Tab.putSlot, Tab.get_put, h, hn, hm, Nat.succ_le_of_lt]
    all_goals omega

/-! ## The tables of the state -/

/-- A write to a slot's entry is read back at that slot alone. -/
theorem State.probe_setProbe (s : State) (n m : Nat) (e : ProbeEntry) :
    (s.setProbe n e).probe m = if n = m ∧ 1 ≤ m ∧ m ≤ 18 then e else s.probe m :=
  Tab.getSlot_putSlot _ _ _ _ _

theorem State.probe_mapProbe (s : State) (n m : Nat) (f : ProbeEntry → ProbeEntry) :
    (s.mapProbe n f).probe m = if n = m ∧ 1 ≤ m ∧ m ≤ 18 then f (s.probe m) else s.probe m := by
  unfold State.mapProbe
  rw [State.probe_setProbe]
  by_cases h : n = m
  · subst h; rfl
  · simp [h]

theorem State.probe_mapProbe_same (s : State) (n : Nat) (f : ProbeEntry → ProbeEntry) (h : 1 ≤ n)
    (h' : n ≤ 18) : (s.mapProbe n f).probe n = f (s.probe n) := by
  simp [State.probe_mapProbe, h, h']

theorem State.portState_setPortState (s : State) (n m : Nat) (p : PortState) :
    (s.setPortState n p).portState m = if n = m ∧ 1 ≤ m ∧ m ≤ 18 then p else s.portState m :=
  Tab.getSlot_putSlot _ _ _ _ _

/-- A write to a link record is read back at that id alone. -/
theorem State.link_setLink (s : State) (i j : Nat) (r : LinkRecord) :
    (s.setLink i r).link j = if i = j ∧ j < 512 then r else s.link j :=
  Tab.get_put _ _ _ _ _

theorem State.link_setLink_same (s : State) (i : Nat) (r : LinkRecord) (h : i < 512) :
    (s.setLink i r).link i = r := by simp [State.link_setLink, h]

theorem State.openAt_setOpen (s : State) (k j : Fin 8) (o : Option OpenStep) :
    (s.setOpen k o).openAt j = if k = j then o else s.openAt j := by
  have h := Tab.get_put (none : Option OpenStep) s.engine.table k.val j.val o
  have hj : j.val < 8 := j.isLt
  simp only [hj, and_true, Fin.val_inj] at h
  exact h

theorem State.storeSlot_setStoreSlot (s : State) (k j : Fin 4) (x : StoreSlot) :
    (s.setStoreSlot k x).storeSlot j = if k = j then x else s.storeSlot j := by
  have h := Tab.get_put StoreSlot.erased s.store.slots k.val j.val x
  have hj : j.val < 4 := j.isLt
  simp only [hj, and_true, Fin.val_inj] at h
  exact h

/-- A defined link has an id below 512. -/
theorem State.lt_of_linkDefined {s : State} {id : Nat} (h : s.linkDefined id = true) : id < 512 := by
  apply Classical.byContradiction
  intro hn
  have hge : 512 ≤ id := Nat.le_of_not_lt hn
  have : s.active.link id = LinkDef.undefined := by
    simp [Plan.link, Tab.get, hn]
  rw [State.linkDefined, this] at h
  exact absurd h (by decide)

/-- A slot number of a port lies from 1 to 18. -/
theorem slotOf_bounds (p : Port) : 1 ≤ slotOf p ∧ slotOf p ≤ 18 := by
  unfold slotOf
  have := p.isLt
  omega

/-! ## Folds -/

/-- What every step of a fold keeps, the fold keeps. -/
theorem foldl_keeps {α β : Type} (P : β → Prop) (f : β → α → β) (h : ∀ b a, P b → P (f b a)) :
    ∀ (xs : List α) (b : β), P b → P (xs.foldl f b)
  | [], _, hb => hb
  | a :: xs, b, hb => foldl_keeps P f h xs (f b a) (h b a hb)

/-- A read that every step of a fold leaves is left by the fold. -/
theorem foldl_frame {α β γ : Type} (g : β → γ) (f : β → α → β) (h : ∀ b a, g (f b a) = g b)
    (xs : List α) (b : β) : g (xs.foldl f b) = g b :=
  foldl_keeps (fun x => g x = g b) f (fun x a hx => (h x a).trans hx) xs b rfl

end Sys2Proof.Machine
end

