-- ==== Sys2Proof/Laws/FrameBlocks.lean ====
section
/-! SUPPORT. Laws/FrameBlocks.lean: which fields of the state the operations of the router, the registry, the
Spot Queue, the plans, the run and the engine leave as they are. -/

namespace Sys2Proof.Machine

/-- `raiseIf` changes at most the port. -/
@[simp] theorem raiseIf_frame (c : Bool) (f : Flag) (s : State) :
    (raiseIf c f s).pending = s.pending ∧ (raiseIf c f s).freeCount = s.freeCount ∧
    (raiseIf c f s).clock = s.clock ∧ (raiseIf c f s).timer = s.timer ∧
    (raiseIf c f s).engine = s.engine ∧ (raiseIf c f s).registry = s.registry ∧
    (raiseIf c f s).links = s.links ∧ (raiseIf c f s).spot = s.spot ∧
    (raiseIf c f s).router = s.router ∧ (raiseIf c f s).plans = s.plans ∧
    (raiseIf c f s).store = s.store := by
  simp only [raiseIf]
  (repeat' split) <;> simp

/-- `send` changes at most the registry. -/
@[simp] theorem send_frame (n : Nat) (m : Message) (s : State) :
    (send n m s).pending = s.pending ∧ (send n m s).freeCount = s.freeCount ∧
    (send n m s).clock = s.clock ∧ (send n m s).timer = s.timer ∧ (send n m s).engine = s.engine ∧
    (send n m s).links = s.links ∧ (send n m s).spot = s.spot ∧ (send n m s).router = s.router ∧
    (send n m s).plans = s.plans ∧ (send n m s).store = s.store ∧ (send n m s).port = s.port := by
  simp only [send]
  (repeat' split) <;> simp

/-- `parkAll` changes at most the registry. -/
@[simp] theorem parkAll_frame (s : State) :
    (parkAll s).pending = s.pending ∧ (parkAll s).freeCount = s.freeCount ∧
    (parkAll s).clock = s.clock ∧ (parkAll s).timer = s.timer ∧ (parkAll s).engine = s.engine ∧
    (parkAll s).links = s.links ∧ (parkAll s).spot = s.spot ∧ (parkAll s).router = s.router ∧
    (parkAll s).plans = s.plans ∧ (parkAll s).store = s.store ∧ (parkAll s).port = s.port := by
  simp only [parkAll]
  refine foldl_keeps (fun x : State =>
    x.pending = s.pending ∧ x.freeCount = s.freeCount ∧ x.clock = s.clock ∧ x.timer = s.timer ∧
    x.engine = s.engine ∧ x.links = s.links ∧ x.spot = s.spot ∧ x.router = s.router ∧
    x.plans = s.plans ∧ x.store = s.store ∧ x.port = s.port) _ ?_ _ _ (by simp)
  intro b a h
  (repeat' split) <;> simp [h]

/-- `sendSetup` changes at most the registry. -/
@[simp] theorem sendSetup_frame (n : Nat) (s : State) :
    (sendSetup n s).pending = s.pending ∧ (sendSetup n s).freeCount = s.freeCount ∧
    (sendSetup n s).clock = s.clock ∧ (sendSetup n s).timer = s.timer ∧
    (sendSetup n s).engine = s.engine ∧ (sendSetup n s).links = s.links ∧
    (sendSetup n s).spot = s.spot ∧ (sendSetup n s).router = s.router ∧
    (sendSetup n s).plans = s.plans ∧ (sendSetup n s).store = s.store ∧
    (sendSetup n s).port = s.port := by
  simp only [sendSetup]
  (repeat' split) <;> simp

/-- `offer` changes at most the router and the port. -/
@[simp] theorem offer_frame (id : QueueId) (r : ResultRecord) (s : State) :
    (offer id r s).pending = s.pending ∧ (offer id r s).freeCount = s.freeCount ∧
    (offer id r s).clock = s.clock ∧ (offer id r s).timer = s.timer ∧
    (offer id r s).engine = s.engine ∧ (offer id r s).registry = s.registry ∧
    (offer id r s).links = s.links ∧ (offer id r s).spot = s.spot ∧
    (offer id r s).plans = s.plans ∧ (offer id r s).store = s.store := by
  simp [offer]

/-- `hand` changes at most the router and the port. -/
@[simp] theorem hand_frame (r : ResultRecord) (s : State) :
    (hand r s).pending = s.pending ∧ (hand r s).freeCount = s.freeCount ∧
    (hand r s).clock = s.clock ∧ (hand r s).timer = s.timer ∧ (hand r s).engine = s.engine ∧
    (hand r s).registry = s.registry ∧ (hand r s).links = s.links ∧ (hand r s).spot = s.spot ∧
    (hand r s).plans = s.plans ∧ (hand r s).store = s.store := by
  simp only [hand]
  (repeat' split) <;> simp

/-- `handAll` changes at most the router and the port. -/
@[simp] theorem handAll_frame (rs : List ResultRecord) (s : State) :
    (handAll rs s).pending = s.pending ∧ (handAll rs s).freeCount = s.freeCount ∧
    (handAll rs s).clock = s.clock ∧ (handAll rs s).timer = s.timer ∧
    (handAll rs s).engine = s.engine ∧ (handAll rs s).registry = s.registry ∧
    (handAll rs s).links = s.links ∧ (handAll rs s).spot = s.spot ∧
    (handAll rs s).plans = s.plans ∧ (handAll rs s).store = s.store := by
  simp only [handAll]
  refine foldl_keeps (fun x : State =>
    x.pending = s.pending ∧ x.freeCount = s.freeCount ∧ x.clock = s.clock ∧ x.timer = s.timer ∧
    x.engine = s.engine ∧ x.registry = s.registry ∧ x.links = s.links ∧ x.spot = s.spot ∧
    x.plans = s.plans ∧ x.store = s.store) _ ?_ _ _ (by simp)
  intro b a h
  (repeat' split) <;> simp [h]

/-- `countNotStarted` changes at most the links. -/
@[simp] theorem countNotStarted_frame (id : Nat) (s : State) :
    (countNotStarted id s).pending = s.pending ∧ (countNotStarted id s).freeCount = s.freeCount ∧
    (countNotStarted id s).clock = s.clock ∧ (countNotStarted id s).timer = s.timer ∧
    (countNotStarted id s).engine = s.engine ∧ (countNotStarted id s).registry = s.registry ∧
    (countNotStarted id s).spot = s.spot ∧ (countNotStarted id s).router = s.router ∧
    (countNotStarted id s).plans = s.plans ∧ (countNotStarted id s).store = s.store ∧
    (countNotStarted id s).port = s.port := by
  simp only [countNotStarted]
  (repeat' split) <;> simp

/-- `notStarted` changes at most the links, the timer, the router and the port. -/
@[simp] theorem notStarted_frame (i : Nat) (e : StepEntry) (w : NotStarted) (s : State) :
    (notStarted i e w s).pending = s.pending ∧ (notStarted i e w s).freeCount = s.freeCount ∧
    (notStarted i e w s).clock = s.clock ∧ (notStarted i e w s).engine = s.engine ∧
    (notStarted i e w s).registry = s.registry ∧ (notStarted i e w s).spot = s.spot ∧
    (notStarted i e w s).plans = s.plans ∧ (notStarted i e w s).store = s.store := by
  simp only [notStarted]
  (repeat' split) <;> simp

/-- `discardWindows` changes at most the engine. -/
@[simp] theorem discardWindows_frame (s : State) :
    (discardWindows s).pending = s.pending ∧ (discardWindows s).freeCount = s.freeCount ∧
    (discardWindows s).clock = s.clock ∧ (discardWindows s).timer = s.timer ∧
    (discardWindows s).registry = s.registry ∧ (discardWindows s).links = s.links ∧
    (discardWindows s).spot = s.spot ∧ (discardWindows s).router = s.router ∧
    (discardWindows s).plans = s.plans ∧ (discardWindows s).store = s.store ∧
    (discardWindows s).port = s.port := by
  simp only [discardWindows]
  (repeat' split) <;> simp

/-- `closeWindows` changes at most the engine, the links, the timer, the router and the port. -/
@[simp] theorem closeWindows_frame (s : State) :
    (closeWindows s).pending = s.pending ∧ (closeWindows s).freeCount = s.freeCount ∧
    (closeWindows s).clock = s.clock ∧ (closeWindows s).registry = s.registry ∧
    (closeWindows s).spot = s.spot ∧ (closeWindows s).plans = s.plans ∧
    (closeWindows s).store = s.store := by
  simp only [closeWindows]
  refine foldl_keeps (fun x : State =>
    x.pending = s.pending ∧ x.freeCount = s.freeCount ∧ x.clock = s.clock ∧
    x.registry = s.registry ∧ x.spot = s.spot ∧ x.plans = s.plans ∧ x.store = s.store) _ ?_ _ _ (by simp)
  intro b a h
  (repeat' split) <;> simp [h]

/-- `endSweep` changes at most the engine, the links, the timer, the router and the port. -/
@[simp] theorem endSweep_frame (s : State) :
    (endSweep s).pending = s.pending ∧ (endSweep s).freeCount = s.freeCount ∧
    (endSweep s).clock = s.clock ∧ (endSweep s).registry = s.registry ∧
    (endSweep s).spot = s.spot ∧ (endSweep s).plans = s.plans ∧ (endSweep s).store = s.store := by
  simp [endSweep]

/-- `changeState` changes at most the registry, the router and the port. -/
@[simp] theorem changeState_frame (n : Nat) (st : ProbeState) (s : State) :
    (changeState n st s).pending = s.pending ∧ (changeState n st s).freeCount = s.freeCount ∧
    (changeState n st s).clock = s.clock ∧ (changeState n st s).timer = s.timer ∧
    (changeState n st s).engine = s.engine ∧ (changeState n st s).links = s.links ∧
    (changeState n st s).spot = s.spot ∧ (changeState n st s).plans = s.plans ∧
    (changeState n st s).store = s.store := by
  simp only [changeState]
  (repeat' split) <;> simp

/-- `endAssignment` changes at most the registry. -/
@[simp] theorem endAssignment_frame (t : Tag) (n : Nat) (s : State) :
    (endAssignment t n s).pending = s.pending ∧ (endAssignment t n s).freeCount = s.freeCount ∧
    (endAssignment t n s).clock = s.clock ∧ (endAssignment t n s).timer = s.timer ∧
    (endAssignment t n s).engine = s.engine ∧ (endAssignment t n s).links = s.links ∧
    (endAssignment t n s).spot = s.spot ∧ (endAssignment t n s).router = s.router ∧
    (endAssignment t n s).plans = s.plans ∧ (endAssignment t n s).store = s.store ∧
    (endAssignment t n s).port = s.port := by
  simp only [endAssignment]
  (repeat' split) <;> simp

/-- `stray` changes at most the registry. -/
@[simp] theorem stray_frame (n : Nat) (s : State) :
    (stray n s).pending = s.pending ∧ (stray n s).freeCount = s.freeCount ∧
    (stray n s).clock = s.clock ∧ (stray n s).timer = s.timer ∧ (stray n s).engine = s.engine ∧
    (stray n s).links = s.links ∧ (stray n s).spot = s.spot ∧ (stray n s).router = s.router ∧
    (stray n s).plans = s.plans ∧ (stray n s).store = s.store ∧ (stray n s).port = s.port := by
  simp only [stray]
  (repeat' split) <;> simp

/-- `spotDone` changes at most the router and the port. -/
@[simp] theorem spotDone_frame (r : SpotRequest) (e : Ending) (b : Bool) (s : State) :
    (spotDone r e b s).pending = s.pending ∧ (spotDone r e b s).freeCount = s.freeCount ∧
    (spotDone r e b s).clock = s.clock ∧ (spotDone r e b s).timer = s.timer ∧
    (spotDone r e b s).engine = s.engine ∧ (spotDone r e b s).registry = s.registry ∧
    (spotDone r e b s).links = s.links ∧ (spotDone r e b s).spot = s.spot ∧
    (spotDone r e b s).plans = s.plans ∧ (spotDone r e b s).store = s.store := by
  simp only [spotDone]
  (repeat' split) <;> simp

/-- `arrive` changes at most the Spot Queue. -/
@[simp] theorem arrive_frame (q : Option Nat) (l n : Nat) (m : Byte) (s : State) :
    (arrive q l n m s).pending = s.pending ∧ (arrive q l n m s).freeCount = s.freeCount ∧
    (arrive q l n m s).clock = s.clock ∧ (arrive q l n m s).timer = s.timer ∧
    (arrive q l n m s).engine = s.engine ∧ (arrive q l n m s).registry = s.registry ∧
    (arrive q l n m s).links = s.links ∧ (arrive q l n m s).router = s.router ∧
    (arrive q l n m s).plans = s.plans ∧ (arrive q l n m s).store = s.store ∧
    (arrive q l n m s).port = s.port := by
  simp only [arrive]
  (repeat' split) <;> simp

/-- `cancelSpot` changes at most the Spot Queue, the router and the port. -/
@[simp] theorem cancelSpot_frame (r : SpotRequest) (s : State) :
    (cancelSpot r s).pending = s.pending ∧ (cancelSpot r s).freeCount = s.freeCount ∧
    (cancelSpot r s).clock = s.clock ∧ (cancelSpot r s).timer = s.timer ∧
    (cancelSpot r s).engine = s.engine ∧ (cancelSpot r s).registry = s.registry ∧
    (cancelSpot r s).links = s.links ∧ (cancelSpot r s).plans = s.plans ∧
    (cancelSpot r s).store = s.store := by
  simp only [cancelSpot]
  (repeat' split) <;> simp

/-- `withdrawSpot` changes at most the Spot Queue, the router and the port. -/
@[simp] theorem withdrawSpot_frame (l : Nat) (s : State) :
    (withdrawSpot l s).pending = s.pending ∧ (withdrawSpot l s).freeCount = s.freeCount ∧
    (withdrawSpot l s).clock = s.clock ∧ (withdrawSpot l s).timer = s.timer ∧
    (withdrawSpot l s).engine = s.engine ∧ (withdrawSpot l s).registry = s.registry ∧
    (withdrawSpot l s).links = s.links ∧ (withdrawSpot l s).plans = s.plans ∧
    (withdrawSpot l s).store = s.store := by
  simp only [withdrawSpot]
  (repeat' split) <;> simp

/-- `installSpot` changes at most the Spot Queue, the router and the port. -/
@[simp] theorem installSpot_frame (s : State) :
    (installSpot s).pending = s.pending ∧ (installSpot s).freeCount = s.freeCount ∧
    (installSpot s).clock = s.clock ∧ (installSpot s).timer = s.timer ∧
    (installSpot s).engine = s.engine ∧ (installSpot s).registry = s.registry ∧
    (installSpot s).links = s.links ∧ (installSpot s).plans = s.plans ∧
    (installSpot s).store = s.store := by
  simp only [installSpot]
  refine foldl_keeps (fun x : State =>
    x.pending = s.pending ∧ x.freeCount = s.freeCount ∧ x.clock = s.clock ∧ x.timer = s.timer ∧
    x.engine = s.engine ∧ x.registry = s.registry ∧ x.links = s.links ∧ x.plans = s.plans ∧
    x.store = s.store) _ ?_ _ _ (by simp)
  intro b a h
  (repeat' split) <;> simp [h]

/-- `spotClosure` changes at most the Spot Queue, the router and the port. -/
@[simp] theorem spotClosure_frame (t : Tag) (g : OutcomeGroup) (b : Bool) (s : State) :
    (spotClosure t g b s).pending = s.pending ∧ (spotClosure t g b s).freeCount = s.freeCount ∧
    (spotClosure t g b s).clock = s.clock ∧ (spotClosure t g b s).timer = s.timer ∧
    (spotClosure t g b s).engine = s.engine ∧ (spotClosure t g b s).registry = s.registry ∧
    (spotClosure t g b s).links = s.links ∧ (spotClosure t g b s).plans = s.plans ∧
    (spotClosure t g b s).store = s.store := by
  simp only [spotClosure]
  (repeat' split) <;> simp

/-- `spotHandBack` changes at most the Spot Queue, the router and the port. -/
@[simp] theorem spotHandBack_frame (s : State) :
    (spotHandBack s).pending = s.pending ∧ (spotHandBack s).freeCount = s.freeCount ∧
    (spotHandBack s).clock = s.clock ∧ (spotHandBack s).timer = s.timer ∧
    (spotHandBack s).engine = s.engine ∧ (spotHandBack s).registry = s.registry ∧
    (spotHandBack s).links = s.links ∧ (spotHandBack s).plans = s.plans ∧
    (spotHandBack s).store = s.store := by
  simp only [spotHandBack]
  (repeat' split) <;> simp

/-- `freshen` changes at most the links, the router and the port. -/
@[simp] theorem freshen_frame (i : Nat) (r : LinkRecord) (s : State) :
    (freshen i r s).pending = s.pending ∧ (freshen i r s).freeCount = s.freeCount ∧
    (freshen i r s).clock = s.clock ∧ (freshen i r s).timer = s.timer ∧
    (freshen i r s).engine = s.engine ∧ (freshen i r s).registry = s.registry ∧
    (freshen i r s).spot = s.spot ∧ (freshen i r s).plans = s.plans ∧
    (freshen i r s).store = s.store := by
  simp only [freshen]
  (repeat' split) <;> simp

/-- `clearLink` changes at most the links, the router and the port. -/
@[simp] theorem clearLink_frame (i : Nat) (s : State) :
    (clearLink i s).pending = s.pending ∧ (clearLink i s).freeCount = s.freeCount ∧
    (clearLink i s).clock = s.clock ∧ (clearLink i s).timer = s.timer ∧
    (clearLink i s).engine = s.engine ∧ (clearLink i s).registry = s.registry ∧
    (clearLink i s).spot = s.spot ∧ (clearLink i s).plans = s.plans ∧
    (clearLink i s).store = s.store := by
  simp only [clearLink]
  (repeat' split) <;> simp

/-- `clearAllLinks` changes at most the links, the router and the port. -/
@[simp] theorem clearAllLinks_frame (s : State) :
    (clearAllLinks s).pending = s.pending ∧ (clearAllLinks s).freeCount = s.freeCount ∧
    (clearAllLinks s).clock = s.clock ∧ (clearAllLinks s).timer = s.timer ∧
    (clearAllLinks s).engine = s.engine ∧ (clearAllLinks s).registry = s.registry ∧
    (clearAllLinks s).spot = s.spot ∧ (clearAllLinks s).plans = s.plans ∧
    (clearAllLinks s).store = s.store := by
  unfold clearAllLinks
  refine foldl_keeps (fun x : State =>
    x.pending = s.pending ∧ x.freeCount = s.freeCount ∧ x.clock = s.clock ∧ x.timer = s.timer ∧
    x.engine = s.engine ∧ x.registry = s.registry ∧ x.spot = s.spot ∧ x.plans = s.plans ∧
    x.store = s.store) _ ?_ _ _
    ⟨rfl, rfl, rfl, rfl, rfl, rfl, rfl, rfl, rfl⟩
  intro b a h
  (repeat' split) <;> simp [h]

/-- `installLink` changes at most the links, the router and the port. -/
@[simp] theorem installLink_frame (old : Plan) (i : Nat) (s : State) :
    (installLink old i s).pending = s.pending ∧ (installLink old i s).freeCount = s.freeCount ∧
    (installLink old i s).clock = s.clock ∧ (installLink old i s).timer = s.timer ∧
    (installLink old i s).engine = s.engine ∧ (installLink old i s).registry = s.registry ∧
    (installLink old i s).spot = s.spot ∧ (installLink old i s).plans = s.plans ∧
    (installLink old i s).store = s.store := by
  simp only [installLink]
  (repeat' split) <;> simp

/-- `installLinks` changes at most the links, the router and the port. -/
@[simp] theorem installLinks_frame (old : Plan) (s : State) :
    (installLinks old s).pending = s.pending ∧ (installLinks old s).freeCount = s.freeCount ∧
    (installLinks old s).clock = s.clock ∧ (installLinks old s).timer = s.timer ∧
    (installLinks old s).engine = s.engine ∧ (installLinks old s).registry = s.registry ∧
    (installLinks old s).spot = s.spot ∧ (installLinks old s).plans = s.plans ∧
    (installLinks old s).store = s.store := by
  unfold installLinks
  refine foldl_keeps (fun x : State =>
    x.pending = s.pending ∧ x.freeCount = s.freeCount ∧ x.clock = s.clock ∧ x.timer = s.timer ∧
    x.engine = s.engine ∧ x.registry = s.registry ∧ x.spot = s.spot ∧ x.plans = s.plans ∧
    x.store = s.store) _ ?_ _ _
    ⟨rfl, rfl, rfl, rfl, rfl, rfl, rfl, rfl, rfl⟩
  intro b a h
  (repeat' split) <;> simp [h]

/-- `installLevel` changes at most the port. -/
@[simp] theorem installLevel_frame (old : Params) (id : QueueId) (s : State) :
    (installLevel old id s).pending = s.pending ∧ (installLevel old id s).freeCount = s.freeCount ∧
    (installLevel old id s).clock = s.clock ∧ (installLevel old id s).timer = s.timer ∧
    (installLevel old id s).engine = s.engine ∧ (installLevel old id s).registry = s.registry ∧
    (installLevel old id s).links = s.links ∧ (installLevel old id s).spot = s.spot ∧
    (installLevel old id s).router = s.router ∧ (installLevel old id s).plans = s.plans ∧
    (installLevel old id s).store = s.store := by
  simp only [installLevel]
  (repeat' split) <;> simp

/-- `installProbe` changes at most the registry. -/
@[simp] theorem installProbe_frame (old : Params) (n : Nat) (s : State) :
    (installProbe old n s).pending = s.pending ∧ (installProbe old n s).freeCount = s.freeCount ∧
    (installProbe old n s).clock = s.clock ∧ (installProbe old n s).timer = s.timer ∧
    (installProbe old n s).engine = s.engine ∧ (installProbe old n s).links = s.links ∧
    (installProbe old n s).spot = s.spot ∧ (installProbe old n s).router = s.router ∧
    (installProbe old n s).plans = s.plans ∧ (installProbe old n s).store = s.store ∧
    (installProbe old n s).port = s.port := by
  simp only [installProbe]
  (repeat' split) <;> simp

/-- `installProbes` changes at most the registry. -/
@[simp] theorem installProbes_frame (old : Params) (s : State) :
    (installProbes old s).pending = s.pending ∧ (installProbes old s).freeCount = s.freeCount ∧
    (installProbes old s).clock = s.clock ∧ (installProbes old s).timer = s.timer ∧
    (installProbes old s).engine = s.engine ∧ (installProbes old s).links = s.links ∧
    (installProbes old s).spot = s.spot ∧ (installProbes old s).router = s.router ∧
    (installProbes old s).plans = s.plans ∧ (installProbes old s).store = s.store ∧
    (installProbes old s).port = s.port := by
  simp only [installProbes]
  refine foldl_keeps (fun x : State =>
    x.pending = s.pending ∧ x.freeCount = s.freeCount ∧ x.clock = s.clock ∧ x.timer = s.timer ∧
    x.engine = s.engine ∧ x.links = s.links ∧ x.spot = s.spot ∧ x.router = s.router ∧
    x.plans = s.plans ∧ x.store = s.store ∧ x.port = s.port) _ ?_ _ _ (by simp)
  intro b a h
  (repeat' split) <;> simp [h]

/-- `installPlan` changes at most the plans. -/
@[simp] theorem installPlan_frame (s : State) :
    (installPlan s).pending = s.pending ∧ (installPlan s).freeCount = s.freeCount ∧
    (installPlan s).clock = s.clock ∧ (installPlan s).timer = s.timer ∧
    (installPlan s).engine = s.engine ∧ (installPlan s).registry = s.registry ∧
    (installPlan s).links = s.links ∧ (installPlan s).spot = s.spot ∧
    (installPlan s).router = s.router ∧ (installPlan s).store = s.store ∧
    (installPlan s).port = s.port := by
  simp only [installPlan]
  (repeat' split) <;> simp

/-- `install` changes at most the plans, the port, the links, the router, the Spot Queue and the
registry. -/
@[simp] theorem install_frame (s : State) :
    (install s).pending = s.pending ∧ (install s).freeCount = s.freeCount ∧
    (install s).clock = s.clock ∧ (install s).timer = s.timer ∧ (install s).engine = s.engine ∧
    (install s).store = s.store := by
  simp [install]

/-- `installPending` changes at most the plans, the port, the links, the router, the Spot Queue
and the registry. -/
@[simp] theorem installPending_frame (s : State) :
    (installPending s).pending = s.pending ∧ (installPending s).freeCount = s.freeCount ∧
    (installPending s).clock = s.clock ∧ (installPending s).timer = s.timer ∧
    (installPending s).engine = s.engine ∧ (installPending s).store = s.store := by
  simp only [installPending]
  (repeat' split) <;> simp -implicitDefEqProofs

/-- `setHealth` changes at most the timer and the port. -/
@[simp] theorem setHealth_frame (h : Health) (s : State) :
    (setHealth h s).pending = s.pending ∧ (setHealth h s).freeCount = s.freeCount ∧
    (setHealth h s).clock = s.clock ∧ (setHealth h s).engine = s.engine ∧
    (setHealth h s).registry = s.registry ∧ (setHealth h s).links = s.links ∧
    (setHealth h s).spot = s.spot ∧ (setHealth h s).router = s.router ∧
    (setHealth h s).plans = s.plans ∧ (setHealth h s).store = s.store := by
  simp only [setHealth]
  (repeat' split) <;> simp

/-- `enterPaused` changes at most the timer, the registry and the port. -/
@[simp] theorem enterPaused_frame (s : State) :
    (enterPaused s).pending = s.pending ∧ (enterPaused s).freeCount = s.freeCount ∧
    (enterPaused s).clock = s.clock ∧ (enterPaused s).engine = s.engine ∧
    (enterPaused s).links = s.links ∧ (enterPaused s).spot = s.spot ∧
    (enterPaused s).router = s.router ∧ (enterPaused s).plans = s.plans ∧
    (enterPaused s).store = s.store := by
  simp only [enterPaused]
  (repeat' split) <;> simp

/-- `stopProbe` changes at most the registry, the router and the port. -/
@[simp] theorem stopProbe_frame (n : Nat) (s : State) :
    (stopProbe n s).pending = s.pending ∧ (stopProbe n s).freeCount = s.freeCount ∧
    (stopProbe n s).clock = s.clock ∧ (stopProbe n s).timer = s.timer ∧
    (stopProbe n s).engine = s.engine ∧ (stopProbe n s).links = s.links ∧
    (stopProbe n s).spot = s.spot ∧ (stopProbe n s).plans = s.plans ∧
    (stopProbe n s).store = s.store := by
  simp only [stopProbe]
  (repeat' split) <;> simp

/-- `stopProbes` changes at most the registry, the router and the port. -/
@[simp] theorem stopProbes_frame (s : State) :
    (stopProbes s).pending = s.pending ∧ (stopProbes s).freeCount = s.freeCount ∧
    (stopProbes s).clock = s.clock ∧ (stopProbes s).timer = s.timer ∧
    (stopProbes s).engine = s.engine ∧ (stopProbes s).links = s.links ∧
    (stopProbes s).spot = s.spot ∧ (stopProbes s).plans = s.plans ∧
    (stopProbes s).store = s.store := by
  simp only [stopProbes]
  refine foldl_keeps (fun x : State =>
    x.pending = s.pending ∧ x.freeCount = s.freeCount ∧ x.clock = s.clock ∧ x.timer = s.timer ∧
    x.engine = s.engine ∧ x.links = s.links ∧ x.spot = s.spot ∧ x.plans = s.plans ∧
    x.store = s.store) _ ?_ _ _ (by simp)
  intro b a h
  (repeat' split) <;> simp [h]

/-- `enterStopped` changes at most the timer, the engine, the links, the router, the port, the
plans, the Spot Queue and the registry. -/
@[simp] theorem enterStopped_frame (s : State) :
    (enterStopped s).pending = s.pending ∧ (enterStopped s).freeCount = s.freeCount ∧
    (enterStopped s).clock = s.clock ∧ (enterStopped s).store = s.store := by
  simp [enterStopped]

/-- `timerStop` changes at most the timer, the engine, the links, the router, the port and the
registry. -/
@[simp] theorem timerStop_frame (s : State) :
    (timerStop s).pending = s.pending ∧ (timerStop s).freeCount = s.freeCount ∧
    (timerStop s).clock = s.clock ∧ (timerStop s).spot = s.spot ∧ (timerStop s).plans = s.plans ∧
    (timerStop s).store = s.store := by
  simp [timerStop]

/-- `enterHalted` changes at most the timer and the port. -/
@[simp] theorem enterHalted_frame (s : State) :
    (enterHalted s).pending = s.pending ∧ (enterHalted s).freeCount = s.freeCount ∧
    (enterHalted s).clock = s.clock ∧ (enterHalted s).engine = s.engine ∧
    (enterHalted s).registry = s.registry ∧ (enterHalted s).links = s.links ∧
    (enterHalted s).spot = s.spot ∧ (enterHalted s).router = s.router ∧
    (enterHalted s).plans = s.plans ∧ (enterHalted s).store = s.store := by
  simp [enterHalted]

/-- `quorumWatch` changes at most the timer, the engine, the links, the router, the port and the
registry. -/
@[simp] theorem quorumWatch_frame (b : Bool) (s : State) :
    (quorumWatch b s).pending = s.pending ∧ (quorumWatch b s).freeCount = s.freeCount ∧
    (quorumWatch b s).clock = s.clock ∧ (quorumWatch b s).spot = s.spot ∧
    (quorumWatch b s).plans = s.plans ∧ (quorumWatch b s).store = s.store := by
  simp only [quorumWatch]
  (repeat' split) <;> simp

/-- `reportEmpty` changes at most the timer, the engine, the links, the router, the port, the
plans, the Spot Queue and the registry. -/
@[simp] theorem reportEmpty_frame (s : State) :
    (reportEmpty s).pending = s.pending ∧ (reportEmpty s).freeCount = s.freeCount ∧
    (reportEmpty s).clock = s.clock ∧ (reportEmpty s).store = s.store := by
  simp only [reportEmpty]
  (repeat' split) <;> simp

/-- `takeSlot` changes at most the engine. -/
@[simp] theorem takeSlot_frame (k : Fin 8) (o : OpenStep) (s : State) :
    (takeSlot k o s).pending = s.pending ∧ (takeSlot k o s).freeCount = s.freeCount ∧
    (takeSlot k o s).clock = s.clock ∧ (takeSlot k o s).timer = s.timer ∧
    (takeSlot k o s).registry = s.registry ∧ (takeSlot k o s).links = s.links ∧
    (takeSlot k o s).spot = s.spot ∧ (takeSlot k o s).router = s.router ∧
    (takeSlot k o s).plans = s.plans ∧ (takeSlot k o s).store = s.store ∧
    (takeSlot k o s).port = s.port := by
  simp only [takeSlot]
  (repeat' split) <;> simp

/-- `assign` changes at most the registry. -/
@[simp] theorem assign_frame (t : Tag) (x : TestPlan) (b : Nat) (p : Participant) (s : State) :
    (assign t x b p s).pending = s.pending ∧ (assign t x b p s).freeCount = s.freeCount ∧
    (assign t x b p s).clock = s.clock ∧ (assign t x b p s).timer = s.timer ∧
    (assign t x b p s).engine = s.engine ∧ (assign t x b p s).links = s.links ∧
    (assign t x b p s).spot = s.spot ∧ (assign t x b p s).router = s.router ∧
    (assign t x b p s).plans = s.plans ∧ (assign t x b p s).store = s.store ∧
    (assign t x b p s).port = s.port := by
  simp only [assign]
  (repeat' split) <;> simp

/-- `startTest` changes at most the engine and the registry. -/
@[simp] theorem startTest_frame (k : Fin 8) (x : TestPlan) (s : State) :
    (startTest k x s).pending = s.pending ∧ (startTest k x s).freeCount = s.freeCount ∧
    (startTest k x s).clock = s.clock ∧ (startTest k x s).timer = s.timer ∧
    (startTest k x s).links = s.links ∧ (startTest k x s).spot = s.spot ∧
    (startTest k x s).router = s.router ∧ (startTest k x s).plans = s.plans ∧
    (startTest k x s).store = s.store ∧ (startTest k x s).port = s.port := by
  simp only [startTest]
  refine foldl_keeps (fun x : State =>
    x.pending = s.pending ∧ x.freeCount = s.freeCount ∧ x.clock = s.clock ∧ x.timer = s.timer ∧
    x.links = s.links ∧ x.spot = s.spot ∧ x.router = s.router ∧ x.plans = s.plans ∧
    x.store = s.store ∧ x.port = s.port) _ ?_ _ _ (by simp)
  intro b a h
  (repeat' split) <;> simp [h]

/-- `examineMerged` changes at most the engine, the registry, the links, the timer, the router and
the port. -/
@[simp] theorem examineMerged_frame (n : Nat) (s : State) :
    (examineMerged n s).pending = s.pending ∧ (examineMerged n s).freeCount = s.freeCount ∧
    (examineMerged n s).clock = s.clock ∧ (examineMerged n s).spot = s.spot ∧
    (examineMerged n s).plans = s.plans ∧ (examineMerged n s).store = s.store := by
  induction n generalizing s with
  | zero => simp [examineMerged]
  | succ n ih =>
    simp only [examineMerged]
    (repeat' split) <;> simp [ih]

/-- `examineFree` changes at most the engine, the registry and the Spot Queue. -/
@[simp] theorem examineFree_frame (s : State) :
    (examineFree s).pending = s.pending ∧ (examineFree s).freeCount = s.freeCount ∧
    (examineFree s).clock = s.clock ∧ (examineFree s).timer = s.timer ∧
    (examineFree s).links = s.links ∧ (examineFree s).router = s.router ∧
    (examineFree s).plans = s.plans ∧ (examineFree s).store = s.store ∧
    (examineFree s).port = s.port := by
  simp only [examineFree]
  (repeat' split) <;> simp

/-- `examine` changes at most the engine, the registry, the links, the timer, the router, the port
and the Spot Queue. -/
@[simp] theorem examine_frame (s : State) :
    (examine s).pending = s.pending ∧ (examine s).freeCount = s.freeCount ∧
    (examine s).clock = s.clock ∧ (examine s).plans = s.plans ∧ (examine s).store = s.store := by
  simp only [examine]
  (repeat' split) <;> simp

end Sys2Proof.Machine
end

