-- ==== Sys2Proof/Laws/Slots.lean ====
section
/-! SUPPORT. Laws/Slots.lean: the Probe Table entry and the port of one slot after each operation that works on
one slot, and after each that works on every slot in turn. -/

namespace Sys2Proof.Machine

/-! ## One slot at a time -/

theorem State.probe_of_registry {s t : State} (h : t.registry = s.registry) (n : Nat) :
    t.probe n = s.probe n := by simp [State.probe, h]

theorem State.portState_of_registry {s t : State} (h : t.registry = s.registry) (n : Nat) :
    t.portState n = s.portState n := by simp [State.portState, h]

theorem State.params_of_plans {s t : State} (h : t.plans = s.plans) : t.params = s.params := by
  simp [State.params, h]

@[simp] theorem State.portState_mapProbe (s : State) (n m : Nat) (f : ProbeEntry → ProbeEntry) :
    (s.mapProbe n f).portState m = s.portState m := rfl

@[simp] theorem State.session_mapProbe (s : State) (n : Nat) (f : ProbeEntry → ProbeEntry) :
    (s.mapProbe n f).registry.session = s.registry.session := rfl

@[simp] theorem State.calWrite_mapProbe (s : State) (n : Nat) (f : ProbeEntry → ProbeEntry) :
    (s.mapProbe n f).registry.calWrite = s.registry.calWrite := rfl

@[simp] theorem send_probe (n m : Nat) (x : Message) (s : State) : (send n x s).probe m = s.probe m :=
  rfl

@[simp] theorem send_session (n : Nat) (x : Message) (s : State) :
    (send n x s).registry.session = s.registry.session := rfl

@[simp] theorem send_calWrite (n : Nat) (x : Message) (s : State) :
    (send n x s).registry.calWrite = s.registry.calWrite := rfl

theorem send_portState (n m : Nat) (x : Message) (s : State) :
    (send n x s).portState m
      = if n = m ∧ 1 ≤ m ∧ m ≤ 18 then (s.portState m).hand x else s.portState m := by
  unfold send
  rw [State.portState_setPortState]
  by_cases h : n = m
  · subst h; rfl
  · simp [h]

@[simp] theorem hand_probe (r : ResultRecord) (s : State) (n : Nat) : (hand r s).probe n = s.probe n :=
  State.probe_of_registry (by simp) n

@[simp] theorem hand_portState (r : ResultRecord) (s : State) (n : Nat) :
    (hand r s).portState n = s.portState n := State.portState_of_registry (by simp) n

/-- `changeState` sets the state of its slot's entry. -/
theorem changeState_probe (n m : Nat) (st : ProbeState) (s : State) :
    (changeState n st s).probe m
      = if n = m ∧ 1 ≤ m ∧ m ≤ 18 then { s.probe m with state := st } else s.probe m := by
  unfold changeState
  by_cases h : (s.probe n).state = st
  · rw [if_pos h]
    by_cases hm : n = m
    · subst hm; subst h; split <;> rfl
    · simp [hm]
  · rw [if_neg h, hand_probe, raise_probe, State.probe_mapProbe]

@[simp] theorem changeState_portState (n m : Nat) (st : ProbeState) (s : State) :
    (changeState n st s).portState m = s.portState m := by
  unfold changeState; split <;> simp

@[simp] theorem changeState_session (n : Nat) (st : ProbeState) (s : State) :
    (changeState n st s).registry.session = s.registry.session := by
  unfold changeState; split <;> simp

@[simp] theorem changeState_calWrite (n : Nat) (st : ProbeState) (s : State) :
    (changeState n st s).registry.calWrite = s.registry.calWrite := by
  unfold changeState; split <;> simp

/-- `sendSetup` marks the SETUP as outstanding. -/
theorem sendSetup_probe (n m : Nat) (s : State) :
    (sendSetup n s).probe m
      = if n = m ∧ 1 ≤ m ∧ m ≤ 18 then { s.probe m with setupOutstanding := true } else s.probe m := by
  unfold sendSetup; rw [State.probe_mapProbe]; rfl

theorem sendSetup_portState (n m : Nat) (s : State) :
    (sendSetup n s).portState m
      = if n = m ∧ 1 ≤ m ∧ m ≤ 18 then
          (s.portState m).hand (.setup (s.params.policy n) s.params.parkMode)
        else s.portState m := by
  unfold sendSetup; rw [State.portState_mapProbe, send_portState]

/-! ## Every slot in turn -/

theorem allSlots_nodup : allSlots.Nodup := by decide

theorem mem_allSlots (n : Nat) : n ∈ allSlots ↔ 1 ≤ n ∧ n ≤ 18 := by
  constructor
  · intro h
    have : ∀ m ∈ allSlots, 1 ≤ m ∧ m ≤ 18 := by decide
    exact this n h
  · rintro ⟨h1, h2⟩
    have : ∀ m, m < 19 → 1 ≤ m → m ∈ allSlots := by decide
    exact this n (by omega) h1

/-- A fold over distinct slots, each step of which changes one slot's reading by `F`, changes each slot of
the list by `F`; `I` is what every step keeps. -/
theorem foldl_local {α : Type} (f : State → Nat → State) (get : State → Nat → α) (F : Nat → α → α)
    (I : State → Prop) (hI : ∀ s n, I s → I (f s n)) :
    ∀ (l : List Nat), l.Nodup →
      (∀ s n, n ∈ l → I s → get (f s n) n = F n (get s n)) →
      (∀ s n k, I s → n ≠ k → get (f s n) k = get s k) →
      ∀ (s : State), I s → ∀ k, get (l.foldl f s) k = if k ∈ l then F k (get s k) else get s k := by
  intro l
  induction l with
  | nil => intro _ _ _ s _ k; simp
  | cons a l ih =>
    intro hn hs ho s hi k
    have hn' := List.nodup_cons.1 hn
    rw [List.foldl_cons,
      ih hn'.2 (fun s n hm => hs s n (List.mem_cons_of_mem _ hm)) ho (f s a) (hI s a hi) k]
    by_cases hka : k = a
    · subst hka
      simp [hn'.1, hs s k (List.mem_cons_self ..) hi]
    · rw [ho s a k hi (Ne.symm hka)]
      simp [hka]

/-- The same for an operation on every slot whose entry changes by `mapProbe` alone. -/
theorem foldl_mapProbe (F : Nat → State → ProbeEntry → ProbeEntry) (s : State)
    (hF : ∀ t n, t.plans = s.plans → t.store = s.store → t.registry.calWrite = s.registry.calWrite →
      F n t = F n s) (k : Nat) :
    (allSlots.foldl (fun t n => t.mapProbe n (F n t)) s).probe k
      = if 1 ≤ k ∧ k ≤ 18 then F k s (s.probe k) else s.probe k := by
  have h := foldl_local (fun t n => t.mapProbe n (F n t)) State.probe (fun n => F n s)
    (fun t => t.plans = s.plans ∧ t.store = s.store ∧ t.registry.calWrite = s.registry.calWrite)
    (by intro t n h; exact ⟨h.1, h.2.1, h.2.2⟩) allSlots allSlots_nodup
    (by
      intro t n hm h
      have hb := (mem_allSlots n).1 hm
      rw [State.probe_mapProbe_same _ _ _ hb.1 hb.2, hF t n h.1 h.2.1 h.2.2])
    (by intro t n k _ hk; rw [State.probe_mapProbe]; simp [hk])
    s ⟨rfl, rfl, rfl⟩ k
  simpa only [mem_allSlots] using h

/-- PARK reaches the port of every probe that is not ABSENT, and changes no entry (R39, R63). -/
theorem parkAll_probe (s : State) (n : Nat) : (parkAll s).probe n = s.probe n := by
  unfold parkAll
  refine foldl_keeps (fun t : State => t.probe n = s.probe n) _ ?_ _ _ rfl
  intro t m h
  split
  · exact h
  · rw [send_probe]; exact h

theorem parkAll_portState (s : State) (n : Nat) :
    (parkAll s).portState n
      = if (1 ≤ n ∧ n ≤ 18) ∧ (s.probe n).state ≠ .absent then
          (s.portState n).hand (.park s.params.parkMode)
        else s.portState n := by
  have h := foldl_local
    (fun t n => if (t.probe n).state = .absent then t else send n (.park t.params.parkMode) t)
    State.portState
    (fun n p => if (s.probe n).state = .absent then p else p.hand (.park s.params.parkMode))
    (fun t => (∀ m, t.probe m = s.probe m) ∧ t.params = s.params)
    (by
      intro t n h
      split
      · exact h
      · exact ⟨fun m => by rw [send_probe]; exact h.1 m,
          (State.params_of_plans (by simp)).trans h.2⟩)
    allSlots allSlots_nodup
    (by
      intro t n hm h
      have hb := (mem_allSlots n).1 hm
      rw [h.1 n]
      split
      · rfl
      · rw [send_portState, h.2]; simp [hb])
    (by
      intro t n k _ hk
      split
      · rfl
      · rw [send_portState]; simp [hk])
    s ⟨fun _ => rfl, rfl⟩ n
  unfold parkAll
  rw [h]
  simp only [mem_allSlots]
  by_cases hb : 1 ≤ n ∧ n ≤ 18 <;> by_cases ha : (s.probe n).state = .absent <;> simp [hb, ha]

@[simp] theorem parkAll_probes (s : State) : (parkAll s).registry.probes = s.registry.probes := by
  unfold parkAll
  refine foldl_keeps (fun t : State => t.registry.probes = s.registry.probes) _ ?_ _ _ rfl
  intro t m h
  split
  · exact h
  · exact h

@[simp] theorem parkAll_session (s : State) :
    (parkAll s).registry.session = s.registry.session := by
  unfold parkAll
  refine foldl_keeps (fun t : State => t.registry.session = s.registry.session) _ ?_ _ _ rfl
  intro t m h
  split
  · exact h
  · exact h

@[simp] theorem parkAll_calWrite (s : State) :
    (parkAll s).registry.calWrite = s.registry.calWrite := by
  unfold parkAll
  refine foldl_keeps (fun t : State => t.registry.calWrite = s.registry.calWrite) _ ?_ _ _ rfl
  intro t m h
  split
  · exact h
  · exact h

/-- One probe at an entry into STOPPED (R49, R55). -/
theorem stopProbe_probe (n m : Nat) (s : State) :
    (stopProbe n s).probe m
      = if n = m ∧ 1 ≤ m ∧ m ≤ 18 then
          if (s.probe m).state = .inStep ∨ (s.probe m).state = .syncing then
            { s.probe m with outstanding := none, state := .syncing, syncCount := 0, missCount := 0 }
          else { s.probe m with outstanding := none }
        else s.probe m := by
  unfold stopProbe
  dsimp only
  by_cases hw : (s.probe n).state = .inStep ∨ (s.probe n).state = .syncing
  · rw [if_pos hw, changeState_probe, State.probe_mapProbe, State.probe_mapProbe]
    by_cases h : n = m ∧ 1 ≤ m ∧ m ≤ 18
    · obtain ⟨rfl, hb⟩ := h
      simp [hb, hw]
    · simp [h]
  · rw [if_neg hw, State.probe_mapProbe]
    by_cases h : n = m ∧ 1 ≤ m ∧ m ≤ 18
    · obtain ⟨rfl, hb⟩ := h
      simp [hb, hw]
    · simp [h]

@[simp] theorem stopProbe_portState (n m : Nat) (s : State) :
    (stopProbe n s).portState m = s.portState m := by
  unfold stopProbe; dsimp only; split <;> simp

@[simp] theorem stopProbe_session (n : Nat) (s : State) :
    (stopProbe n s).registry.session = s.registry.session := by
  unfold stopProbe; dsimp only; split <;> simp

/-- Every probe at an entry into STOPPED (R49, R55). -/
theorem stopProbes_probe (s : State) (n : Nat) :
    (stopProbes s).probe n
      = if 1 ≤ n ∧ n ≤ 18 then
          if (s.probe n).state = .inStep ∨ (s.probe n).state = .syncing then
            { s.probe n with outstanding := none, state := .syncing, syncCount := 0, missCount := 0 }
          else { s.probe n with outstanding := none }
        else s.probe n := by
  have h := foldl_local (fun t n => stopProbe n t) State.probe
    (fun _ e => if e.state = .inStep ∨ e.state = .syncing then
        { e with outstanding := none, state := .syncing, syncCount := 0, missCount := 0 }
      else { e with outstanding := none })
    (fun _ => True) (fun _ _ _ => trivial) allSlots allSlots_nodup
    (by
      intro t n hm _
      have hb := (mem_allSlots n).1 hm
      rw [stopProbe_probe]; simp [hb])
    (by intro t n k _ hk; rw [stopProbe_probe]; simp [hk])
    s trivial n
  unfold stopProbes
  simpa only [mem_allSlots] using h

@[simp] theorem stopProbes_portState (s : State) (n : Nat) :
    (stopProbes s).portState n = s.portState n := by
  unfold stopProbes
  refine foldl_keeps (fun t : State => t.portState n = s.portState n) _ ?_ _ _ rfl
  intro t m h; simpa using h

@[simp] theorem stopProbes_session (s : State) :
    (stopProbes s).registry.session = s.registry.session := by
  unfold stopProbes
  refine foldl_keeps (fun t : State => t.registry.session = s.registry.session) _ ?_ _ _ rfl
  intro t m h; simpa using h

/-- MARK to one probe (R49). -/
theorem sendMark_probe (n m : Nat) (s : State) :
    (sendMark n s).probe m
      = if n = m ∧ 1 ≤ m ∧ m ≤ 18 ∧ (s.probe m).state.marked = true then
          { s.probe m with outstanding := some s.timer.sweepNumber }
        else s.probe m := by
  unfold sendMark
  by_cases h : n = m
  · subst h
    split
    · rename_i hk; rw [State.probe_mapProbe]; simp [hk]
    · rename_i hk; simp [hk]
  · split
    · rw [State.probe_mapProbe]; simp [h]
    · simp [h]

theorem sendMark_portState (n m : Nat) (s : State) :
    (sendMark n s).portState m
      = if n = m ∧ 1 ≤ m ∧ m ≤ 18 ∧ (s.probe m).state.marked = true then
          (s.portState m).hand (.mark s.timer.sweepNumber (wireTime s.timer.fixtureTime)
            (BitVec.ofNat 8 s.timer.pattern))
        else s.portState m := by
  unfold sendMark
  by_cases h : n = m
  · subst h
    split
    · rename_i hk; rw [State.portState_mapProbe, send_portState]; simp [hk]
    · rename_i hk; simp [hk]
  · split
    · rw [State.portState_mapProbe, send_portState]; simp [h]
    · simp [h]

@[simp] theorem sendMark_timer (n : Nat) (s : State) : (sendMark n s).timer = s.timer := by
  unfold sendMark; split <;> simp

/-- MARK to every SYNCING, IN_STEP or LOST probe (R25, R49). -/
theorem sendMarks_probe (s : State) (n : Nat) :
    (sendMarks s).probe n
      = if (1 ≤ n ∧ n ≤ 18) ∧ (s.probe n).state.marked = true then
          { s.probe n with outstanding := some s.timer.sweepNumber }
        else s.probe n := by
  have h := foldl_local (fun t n => sendMark n t) State.probe
    (fun _ e => if e.state.marked = true then { e with outstanding := some s.timer.sweepNumber } else e)
    (fun t => t.timer = s.timer) (by intro t n h; simpa using h) allSlots allSlots_nodup
    (by
      intro t n hm h
      have hb := (mem_allSlots n).1 hm
      rw [sendMark_probe, h]; simp [hb])
    (by intro t n k _ hk; rw [sendMark_probe]; simp [hk])
    s rfl n
  unfold sendMarks
  rw [h]; simp only [mem_allSlots]
  by_cases hb : 1 ≤ n ∧ n ≤ 18 <;> by_cases hm : (s.probe n).state.marked = true <;> simp [hb, hm]

theorem sendMarks_portState (s : State) (n : Nat) :
    (sendMarks s).portState n
      = if (1 ≤ n ∧ n ≤ 18) ∧ (s.probe n).state.marked = true then
          (s.portState n).hand (.mark s.timer.sweepNumber (wireTime s.timer.fixtureTime)
            (BitVec.ofNat 8 s.timer.pattern))
        else s.portState n := by
  have h := foldl_local (fun t n => sendMark n t) (fun t n => (t.probe n, t.portState n))
    (fun _ x => if x.1.state.marked = true then
        ({ x.1 with outstanding := some s.timer.sweepNumber },
          x.2.hand (.mark s.timer.sweepNumber (wireTime s.timer.fixtureTime)
            (BitVec.ofNat 8 s.timer.pattern)))
      else x)
    (fun t => t.timer = s.timer) (by intro t n h; simpa using h) allSlots allSlots_nodup
    (by
      intro t n hm h
      have hb := (mem_allSlots n).1 hm
      rw [sendMark_probe, sendMark_portState, h]
      by_cases hk : (t.probe n).state.marked = true <;> simp [hb, hk])
    (by
      intro t n k _ hk
      rw [sendMark_probe, sendMark_portState]; simp [hk])
    s rfl n
  unfold sendMarks
  have h2 := congrArg Prod.snd h
  dsimp only at h2
  rw [h2]; simp only [mem_allSlots]
  by_cases hb : 1 ≤ n ∧ n ≤ 18 <;> by_cases hm : (s.probe n).state.marked = true <;> simp [hb, hm]

end Sys2Proof.Machine
end

