-- ==== Sys2Proof/Laws/Effects.lean ====
section
/-! SUPPORT. Laws/Effects.lean: what closing the windows, installing a plan, clearing links and entering a run
state leave in the timer, the engine, the links and the plans. -/

namespace Sys2Proof.Machine

/-! ## Reading links and slots through an unchanged field -/

theorem State.link_of_links {s t : State} (h : t.links = s.links) (id : Nat) : t.link id = s.link id := by
  simp [State.link, h]

theorem State.openAt_of_table {s t : State} (h : t.engine.table = s.engine.table) (k : Fin 8) :
    t.openAt k = s.openAt k := by simp [State.openAt, h]

theorem State.turn_of_turns {s t : State} (h : t.engine.turns = s.engine.turns) (k : Fin 8) :
    t.turn k = s.turn k := by simp [State.turn, h]

theorem State.tableEmpty_of_table {s t : State} (h : t.engine.table = s.engine.table) :
    t.tableEmpty = s.tableEmpty := by
  simp [State.tableEmpty, State.openAt_of_table h]

theorem State.linkDefined_of_plans {s t : State} (h : t.plans = s.plans) (id : Nat) :
    t.linkDefined id = s.linkDefined id := by simp [State.linkDefined, State.active, h]

/-- The queues after a record depend on the queues and the active plan alone. -/
theorem hand_router_congr (r : ResultRecord) {s t : State} (hr : t.router = s.router)
    (hp : t.plans = s.plans) : (hand r t).router = (hand r s).router := by
  have hap : t.active = s.active := by simp [State.active, hp]
  have hpp : t.params = s.params := by simp [State.params, hp]
  have ho : ∀ (id : QueueId) (x : ResultRecord) (a b : State), a.router = b.router →
      a.params = b.params → (offer id x a).router = (offer id x b).router := by
    intro id x a b h1 h2
    unfold offer
    simp [h1, h2]
  unfold hand
  rw [hap]
  cases routeOf s.active r <;> dsimp only
  · exact ho _ _ _ _ hr hpp
  · exact ho _ _ _ _ hr hpp
  · exact hr
  · exact ho _ _ _ _ (by simp [hr]) (by simpa using hpp)
  · exact ho _ _ _ _ (by simp [hr]) (by simpa using hpp)

/-- The port after a record depends on the port, the queues and the active plan alone. -/
theorem hand_port_congr (r : ResultRecord) {s t : State} (hr : t.router = s.router)
    (hp : t.plans = s.plans) (hq : t.port = s.port) : (hand r t).port = (hand r s).port := by
  have hap : t.active = s.active := by simp [State.active, hp]
  have hpp : t.params = s.params := by simp [State.params, hp]
  have ho : ∀ (id : QueueId) (x : ResultRecord) (a b : State), a.router = b.router →
      a.params = b.params → a.port = b.port → (offer id x a).port = (offer id x b).port := by
    intro id x a b h1 h2 h3
    unfold offer
    simp only [h1, h2, raiseIf]
    (repeat' split) <;> simp [raise, h3]
  unfold hand
  rw [hap]
  cases routeOf s.active r <;> dsimp only
  · exact ho _ _ _ _ hr hpp hq
  · exact ho _ _ _ _ hr hpp hq
  · exact hq
  · exact ho _ _ _ _ (by simp [hr]) (by simpa using hpp) (by simp [raise, hq])
  · exact ho _ _ _ _ (by simp [hr]) (by simpa using hpp) (by simp [raise, hq])

/-- A set flag stays set while another is raised. -/
theorem StationPort.isSet_raise (p : StationPort) (f g : Flag) :
    (p.raise g).isSet f = (p.isSet f || f == g) := by
  cases f <;> cases g <;>
    simp [StationPort.raise, StationPort.isSet, Flag.mask, Flag.bit]

theorem raise_isSet (f : Flag) (s : State) : (raise f s).port.isSet f = true := by
  simp [raise, StationPort.isSet_raise]

/-- The flags that the router does not raise (R148, R149). -/
def Flag.besideRouter (f : Flag) : Bool :=
  f != .verdictUrgent && f != .q0Level && f != .q1Level && f != .qLost

/-- The router raises only its own flags. -/
theorem hand_isSet (f : Flag) (hf : f.besideRouter = true) (r : ResultRecord) (s : State) :
    (hand r s).port.isSet f = s.port.isSet f := by
  have hg : ∀ g : Flag, g.besideRouter = false → ∀ x : State, (raise g x).port.isSet f = x.port.isSet f := by
    intro g h x
    have : (f == g) = false := by
      cases hfg : f == g
      · rfl
      · rw [eq_of_beq hfg, h] at hf; exact absurd hf (by simp)
    simp [raise, StationPort.isSet_raise, this]
  have ho : ∀ (id : QueueId) (x : ResultRecord) (a : State), (offer id x a).port.isSet f = a.port.isSet f := by
    intro id x a
    unfold offer raiseIf
    dsimp only
    have h1 := hg id.levelFlag (by cases id <;> rfl)
    have h2 := hg .qLost rfl
    (repeat' split) <;> simp only [h1, h2]
  unfold hand
  cases routeOf s.active r <;> dsimp only
  · exact ho _ _ _
  · exact ho _ _ _
  · rw [ho]; exact hg _ rfl s
  · rw [ho]; exact hg _ rfl s

theorem spotDone_isSet (f : Flag) (hf : f.besideRouter = true) (hs : f ≠ .spot) (r : SpotRequest)
    (e : Ending) (b : Bool) (s : State) : (spotDone r e b s).port.isSet f = s.port.isSet f := by
  unfold spotDone
  have : (f == Flag.spot) = false := by simpa using hs
  rw [show (raise .spot (hand (spotDoneRecord s r e b) s)).port
    = (hand (spotDoneRecord s r e b) s).port.raise .spot from rfl, StationPort.isSet_raise, this,
    Bool.or_false]
  exact hand_isSet f hf _ s

theorem freshen_isSet (f : Flag) (hf : f.besideRouter = true) (i : Nat) (r : LinkRecord) (s : State) :
    (freshen i r s).port.isSet f = s.port.isSet f := by
  unfold freshen
  dsimp only
  split
  · rfl
  · rw [hand_isSet f hf]; rfl

theorem clearAllLinks_isSet (f : Flag) (hf : f.besideRouter = true) (s : State) :
    (clearAllLinks s).port.isSet f = s.port.isSet f := by
  unfold clearAllLinks
  refine foldl_keeps (fun t : State => t.port.isSet f = s.port.isSet f) _ ?_ _ _ rfl
  intro t i h
  split
  · unfold clearLink; rw [freshen_isSet f hf]; exact h
  · exact h

/-! ## Steps not started and the close of the windows (R72, R76) -/

theorem notStarted_timer (i : Nat) (e : StepEntry) (w : NotStarted) (s : State) :
    (notStarted i e w s).timer = { s.timer with notStarted := true } := by
  unfold notStarted
  dsimp only
  split <;> simp

/-- A due step not started adds 1 to the not-started count of its defined test link alone (R72). -/
theorem notStarted_link (i : Nat) (e : StepEntry) (w : NotStarted) (s : State) (id : Nat) :
    (notStarted i e w s).link id
      = if id = e.testLink.toNat ∧ s.linkDefined id = true then
          { s.link id with notStarted := satInc linkTop (s.link id).notStarted }
        else s.link id := by
  have hc : (countNotStarted e.testLink.toNat s).link id
      = if id = e.testLink.toNat ∧ s.linkDefined id = true then
          { s.link id with notStarted := satInc linkTop (s.link id).notStarted }
        else s.link id := by
    unfold countNotStarted
    by_cases hd : s.linkDefined e.testLink.toNat = true
    · rw [if_pos hd, State.link_setLink]
      have hlt := State.lt_of_linkDefined hd
      by_cases h : e.testLink.toNat = id
      · subst h; simp [hd, hlt]
      · simp [h, Ne.symm h]
    · rw [if_neg hd]
      by_cases h : id = e.testLink.toNat
      · subst h; simp [hd]
      · simp [h]
  unfold notStarted
  dsimp only
  split
  · rw [State.link_of_links (s := countNotStarted e.testLink.toNat s) (by simp), hc]
  · rw [State.withTimer_link, hc]

/-- Closing the windows empties both window records and keeps the table and the turns. -/
theorem closeWindows_engine (s : State) :
    (closeWindows s).engine = { s.engine with merged := none, free := none } := by
  unfold closeWindows discardWindows
  have h := foldl_keeps (fun t : State => t.engine = s.engine)
    (fun t p => notStarted p.index p.entry .windowClosed t) (by intro t p h; simpa using h)
    s.pendingSteps s rfl
  simp [h]

/-- Closing the windows moves no field of the timer but the not-started indicator. -/
theorem closeWindows_timer (s : State) :
    (closeWindows s).timer = { s.timer with notStarted := (closeWindows s).timer.notStarted } := by
  unfold closeWindows
  have h := foldl_keeps
    (fun t : State => t.timer = { s.timer with notStarted := t.timer.notStarted })
    (fun t p => notStarted p.index p.entry .windowClosed t)
    (by intro t p h; rw [notStarted_timer, h]) s.pendingSteps s rfl
  simpa using h

/-- Closing the windows moves no field of a link but its not-started count. -/
theorem closeWindows_link (s : State) (id : Nat) :
    (closeWindows s).link id
      = { s.link id with notStarted := ((closeWindows s).link id).notStarted } := by
  have h := foldl_keeps
    (fun t : State => t.link id = { s.link id with notStarted := (t.link id).notStarted })
    (fun t p => notStarted p.index p.entry .windowClosed t)
    (by
      intro t p h
      rw [notStarted_link]
      split
      · rw [h]
      · exact h) s.pendingSteps s rfl
  have hl : (closeWindows s).link id = (s.pendingSteps.foldl
      (fun t p => notStarted p.index p.entry .windowClosed t) s).link id := by
    unfold closeWindows; exact State.link_of_links (by simp) id
  rw [hl]; exact h

/-- With nothing pending, the close of the windows discards the two records alone. -/
theorem closeWindows_of_none {s : State} (h : s.pendingSteps = []) :
    closeWindows s = s.withEngine { s.engine with merged := none, free := none } := by
  simp [closeWindows, h, discardWindows]

theorem endSweep_engine (s : State) :
    (endSweep s).engine = { s.engine with merged := none, free := none } := by
  unfold endSweep; dsimp only; rw [State.withTimer_engine, closeWindows_engine]

theorem endSweep_timer (s : State) :
    (endSweep s).timer = { s.timer with
      notStarted := (endSweep s).timer.notStarted, sweepActive := false, sweepEndDue := false } := by
  unfold endSweep; dsimp only
  rw [State.withTimer_timer, closeWindows_timer]

theorem endSweep_link (s : State) (id : Nat) :
    (endSweep s).link id = { s.link id with notStarted := ((endSweep s).link id).notStarted } := by
  unfold endSweep; dsimp only
  rw [State.withTimer_link]; exact closeWindows_link s id

/-- A timer's stop keeps the table and the turns and empties the windows. -/
theorem timerStop_engine (s : State) :
    (timerStop s).engine = { s.engine with merged := none, free := none } := by
  unfold timerStop; rw [(parkAll_frame _).2.2.2.2.1, endSweep_engine]

theorem timerStop_timer (s : State) :
    (timerStop s).timer = { s.timer with
      notStarted := (timerStop s).timer.notStarted, sweepActive := false, sweepEndDue := false } := by
  unfold timerStop; rw [(parkAll_frame _).2.2.2.1, endSweep_timer]

theorem timerStop_link (s : State) (id : Nat) :
    (timerStop s).link id = { s.link id with notStarted := ((timerStop s).link id).notStarted } := by
  unfold timerStop
  rw [State.link_of_links (s := endSweep s) (by simp)]; exact endSweep_link s id

theorem timerStop_probe (s : State) (n : Nat) : (timerStop s).probe n = s.probe n := by
  unfold timerStop
  rw [parkAll_probe]; exact State.probe_of_registry (by simp) n

/-! ## Installations (R94, R165) -/

@[simp] theorem freshen_link (i id : Nat) (r : LinkRecord) (s : State) :
    (freshen i r s).link id = if i = id ∧ id < 512 then r else s.link id := by
  unfold freshen
  dsimp only
  split
  · exact State.link_setLink s i id r
  · rw [State.link_of_links (s := s.setLink i r) (by simp)]
    exact State.link_setLink s i id r

/-- LINK CLEAR's effect on the links (R93). -/
theorem clearLink_link (i id : Nat) (s : State) (hi : i < 512) :
    (clearLink i s).link id
      = if i = id then
          { LinkRecord.fresh (s.link id).definedIn with withdrawn := (s.link id).withdrawn }
        else s.link id := by
  unfold clearLink
  rw [freshen_link]
  by_cases h : i = id
  · subst h; simp [hi]
  · simp [h]

theorem clearAllLinks_link (s : State) (id : Nat) :
    (clearAllLinks s).link id
      = if s.linkDefined id = true then
          { LinkRecord.fresh (s.link id).definedIn with withdrawn := (s.link id).withdrawn }
        else s.link id := by
  have h := foldl_local (fun t i => if t.linkDefined i then clearLink i t else t) State.link
    (fun i r => if s.linkDefined i = true then
        { LinkRecord.fresh r.definedIn with withdrawn := r.withdrawn } else r)
    (fun t => t.plans = s.plans) (by intro t n h; split <;> simp [h]) (List.range 512)
    List.nodup_range
    (by
      intro t n hm h
      rw [State.linkDefined_of_plans h]
      split
      · rw [clearLink_link _ _ _ (List.mem_range.1 hm)]; simp
      · rfl)
    (by
      intro t n k _ hk
      split
      · rename_i hd
        rw [clearLink_link _ _ _ (State.lt_of_linkDefined hd)]; simp [hk]
      · rfl)
    s rfl id
  unfold clearAllLinks
  rw [h]
  by_cases hd : s.linkDefined id = true
  · simp [State.lt_of_linkDefined hd, hd]
  · simp [hd]

/-- What an installation makes of one link record (R94). -/
def LinkRecord.installed (r : LinkRecord) (before after : LinkDef) (generation : Nat) : LinkRecord :=
  if after.defined = false then
    if before.defined = true then LinkRecord.fresh 0 else r
  else if before.defined = true ∧ before.sameLink after = true then r
  else LinkRecord.fresh generation

theorem installLink_link (old : Plan) (i id : Nat) (s : State) (hi : i < 512) :
    (installLink old i s).link id
      = if i = id then (s.link id).installed (old.link id) (s.active.link id) s.plans.generation
        else s.link id := by
  unfold installLink LinkRecord.installed
  dsimp only
  by_cases h : i = id
  · subst h
    cases ha : (s.active.link i).defined <;> cases hb : (old.link i).defined <;>
      cases hs : (old.link i).sameLink (s.active.link i) <;>
      simp [State.link_setLink, hi]
  · (repeat' split) <;> simp_all [State.link_setLink]

/-- An installation keeps, freshens or discards every link record (R94). -/
theorem installLinks_link (old : Plan) (s : State) (id : Nat) (hid : id < 512) :
    (installLinks old s).link id
      = (s.link id).installed (old.link id) (s.active.link id) s.plans.generation := by
  have h := foldl_local (fun t i => installLink old i t) State.link
    (fun i r => r.installed (old.link i) (s.active.link i) s.plans.generation)
    (fun t => t.plans = s.plans) (by intro t n h; simpa using h) (List.range 512) List.nodup_range
    (by
      intro t n hm h
      rw [installLink_link _ _ _ _ (List.mem_range.1 hm)]
      simp [h, State.active])
    (by
      intro t n k _ hk
      by_cases hn : n < 512
      · rw [installLink_link _ _ _ _ hn]; simp [hk]
      · unfold installLink
        dsimp only
        (repeat' split) <;> simp_all [State.link_setLink])
    s rfl id
  unfold installLinks
  rw [h]; simp [hid]

theorem installProbe_probe (old : Params) (n m : Nat) (s : State) :
    (installProbe old n s).probe m
      = if n = m ∧ 1 ≤ m ∧ m ≤ 18 then
          { (s.probe m).takePolicy (s.params.policy m) with
            setupOutstanding := (s.probe m).setupOutstanding
              || ((s.probe m).state != .absent
                && (old.parkMode != s.params.parkMode || old.policy m != s.params.policy m)) }
        else s.probe m := by
  have htp : ∀ (e : ProbeEntry) (p : Policy), (e.takePolicy p).state = e.state
      ∧ (e.takePolicy p).setupOutstanding = e.setupOutstanding := by
    intro e p; unfold ProbeEntry.takePolicy; split <;> simp
  unfold installProbe
  dsimp only
  by_cases h : n = m ∧ 1 ≤ m ∧ m ≤ 18
  · obtain ⟨rfl, hb⟩ := h
    rw [State.probe_mapProbe_same _ _ _ hb.1 hb.2, (htp _ _).1]
    split
    · rename_i hc
      rw [sendSetup_probe, State.probe_mapProbe_same _ _ _ hb.1 hb.2]
      have hc2 : (old.parkMode != s.params.parkMode || old.policy n != s.params.policy n) = true := by
        simpa using hc.2
      simp only [hb, and_self, if_true, hc2]
      simp [hc.1, (htp (s.probe n) (s.params.policy n)).1]
    · rename_i hc
      rw [State.probe_mapProbe_same _ _ _ hb.1 hb.2]
      simp only [hb, and_self, if_true]
      have hx : ((s.probe n).state != ProbeState.absent
          && (old.parkMode != s.params.parkMode || old.policy n != s.params.policy n)) = false := by
        apply Bool.eq_false_iff.2
        intro hh
        apply hc
        simpa using hh
      rw [hx, Bool.or_false]
      unfold ProbeEntry.takePolicy
      split <;> rfl
  · split
    · rw [sendSetup_probe, State.probe_mapProbe]; simp [h]
    · rw [State.probe_mapProbe]; simp [h]

/-- An installation changes an entry's policy and its SETUP outstanding alone (R48, R59). -/
theorem installProbes_probe (old : Params) (s : State) (n : Nat) :
    (installProbes old s).probe n
      = if 1 ≤ n ∧ n ≤ 18 then
          { (s.probe n).takePolicy (s.params.policy n) with
            setupOutstanding := (s.probe n).setupOutstanding
              || ((s.probe n).state != .absent
                && (old.parkMode != s.params.parkMode || old.policy n != s.params.policy n)) }
        else s.probe n := by
  have h := foldl_local (fun t n => installProbe old n t) State.probe
    (fun n e => { e.takePolicy (s.params.policy n) with
      setupOutstanding := e.setupOutstanding
        || (e.state != .absent
          && (old.parkMode != s.params.parkMode || old.policy n != s.params.policy n)) })
    (fun t => t.plans = s.plans) (by intro t n h; simpa using h) allSlots allSlots_nodup
    (by
      intro t n hm h
      have hb := (mem_allSlots n).1 hm
      rw [installProbe_probe, State.params_of_plans h]; simp [hb])
    (by intro t n k _ hk; rw [installProbe_probe]; simp [hk])
    s rfl n
  unfold installProbes
  simpa only [mem_allSlots] using h

@[simp] theorem installProbes_session (old : Params) (s : State) :
    (installProbes old s).registry.session = s.registry.session := by
  unfold installProbes
  refine foldl_keeps (fun t : State => t.registry.session = s.registry.session) _ ?_ _ _ rfl
  intro t n h
  unfold installProbe
  dsimp only
  split
  · exact h
  · exact h

/-- The operations of an installation, in order (R165). -/
theorem install_eq (s : State) :
    install s = installProbes s.active.params
      (installSpot (installLinks s.active
        (installLevel s.active.params .q1 (installLevel s.active.params .q0 (installPlan s))))) := by
  unfold install; rfl

/-- Items 1 and 2 of R165. -/
theorem install_plans (s : State) :
    (install s).plans = { s.plans with active := s.plans.shadow, generation := s.plans.generation + 1 } := by
  rw [install_eq]
  apply Eq.trans (installProbes_frame _ _).2.2.2.2.2.2.2.2.1
  apply Eq.trans (installSpot_frame _).2.2.2.2.2.2.2.1
  apply Eq.trans (installLinks_frame _ _).2.2.2.2.2.2.2.1
  apply Eq.trans (installLevel_frame _ _ _).2.2.2.2.2.2.2.2.2.1
  apply Eq.trans (installLevel_frame _ _ _).2.2.2.2.2.2.2.2.2.1
  rfl

theorem install_link (s : State) (id : Nat) (hid : id < 512) :
    (install s).link id
      = (s.link id).installed (s.active.link id) (s.plans.shadow.link id) (s.plans.generation + 1) := by
  unfold install
  dsimp only
  rw [State.link_of_links (s := installLinks s.active
      (installLevel s.active.params .q1 (installLevel s.active.params .q0 (installPlan s)))) (by simp -implicitDefEqProofs),
    installLinks_link _ _ _ hid]
  congr 1
  · exact State.link_of_links (by simp -implicitDefEqProofs) id
  · simp -implicitDefEqProofs [State.active, installPlan]
  · simp -implicitDefEqProofs [installPlan]

theorem install_probe (s : State) (n : Nat) :
    (install s).probe n
      = if 1 ≤ n ∧ n ≤ 18 then
          { (s.probe n).takePolicy (s.plans.shadow.params.policy n) with
            setupOutstanding := (s.probe n).setupOutstanding
              || ((s.probe n).state != .absent
                && (s.params.parkMode != s.plans.shadow.params.parkMode
                  || s.params.policy n != s.plans.shadow.params.policy n)) }
        else s.probe n := by
  rw [install_eq]
  generalize hx : installSpot _ = x
  have hr : x.registry = s.registry := by
    rw [← hx]
    apply Eq.trans (installSpot_frame _).2.2.2.2.2.1
    apply Eq.trans (installLinks_frame _ _).2.2.2.2.2.1
    apply Eq.trans (installLevel_frame _ _ _).2.2.2.2.2.1
    exact (installLevel_frame _ _ _).2.2.2.2.2.1
  have hp : x.plans = (installPlan s).plans := by
    rw [← hx]
    apply Eq.trans (installSpot_frame _).2.2.2.2.2.2.2.1
    apply Eq.trans (installLinks_frame _ _).2.2.2.2.2.2.2.1
    apply Eq.trans (installLevel_frame _ _ _).2.2.2.2.2.2.2.2.2.1
    exact (installLevel_frame _ _ _).2.2.2.2.2.2.2.2.2.1
  rw [installProbes_probe, State.probe_of_registry hr, State.params_of_plans hp]
  rfl

@[simp] theorem install_session (s : State) : (install s).registry.session = s.registry.session := by
  rw [install_eq]
  generalize hx : installSpot _ = x
  have hr : x.registry = s.registry := by
    rw [← hx]
    apply Eq.trans (installSpot_frame _).2.2.2.2.2.1
    apply Eq.trans (installLinks_frame _ _).2.2.2.2.2.1
    apply Eq.trans (installLevel_frame _ _ _).2.2.2.2.2.1
    exact (installLevel_frame _ _ _).2.2.2.2.2.1
  rw [installProbes_session, hr]

/-- An installation raises no flag but the router's, the queue levels' and SPOT. -/
theorem install_isSet (f : Flag) (hf : f.besideRouter = true) (hs : f ≠ .spot) (s : State) :
    (install s).port.isSet f = s.port.isSet f := by
  have hl : ∀ (old : Params) (id : QueueId) (x : State),
      (installLevel old id x).port.isSet f = x.port.isSet f := by
    intro old id x
    unfold installLevel raiseIf
    split
    · have hn : (f == id.levelFlag) = false := by
        cases f <;> cases id <;> simp_all [Flag.besideRouter, QueueId.levelFlag]
      simp [raise, StationPort.isSet_raise, hn]
    · rfl
  have hk : ∀ (old : Plan) (x : State), (installLinks old x).port.isSet f = x.port.isSet f := by
    intro old x
    unfold installLinks
    refine foldl_keeps (fun t : State => t.port.isSet f = x.port.isSet f) _ ?_ _ _ rfl
    intro t i h
    unfold installLink
    dsimp only
    (repeat' split)
    · exact h
    · exact h
    · exact h
    · exact h
    · rw [freshen_isSet f hf]; exact h
  have hq : ∀ x : State, (installSpot x).port.isSet f = x.port.isSet f := by
    intro x
    unfold installSpot
    refine foldl_keeps (fun t : State => t.port.isSet f = x.port.isSet f) _ ?_ _ _ rfl
    intro t r h
    rw [spotDone_isSet f hf hs]; exact h
  rw [install_eq, (installProbes_frame _ _).2.2.2.2.2.2.2.2.2.2, hq, hk, hl, hl]
  rfl

/-- A pending apply reaches its point (R163). -/
theorem installPending_plans (s : State) :
    (installPending s).plans
      = if s.plans.applyPending = true then
          ⟨s.plans.shadow, s.plans.shadow, false, s.plans.generation + 1⟩
        else s.plans := by
  unfold installPending
  split
  · simp -implicitDefEqProofs [install_plans]
  · rfl

@[simp] theorem installPending_session (s : State) :
    (installPending s).registry.session = s.registry.session := by
  unfold installPending
  split
  · simp -implicitDefEqProofs
  · rfl

/-- An installation keeps every field of an entry but its policy and its SETUP outstanding. -/
theorem installPending_probe (s : State) (n : Nat) :
    (installPending s).probe n
      = { s.probe n with
          policy := ((installPending s).probe n).policy,
          setupOutstanding := ((installPending s).probe n).setupOutstanding } := by
  unfold installPending
  split
  · rw [raise_probe, install_probe]
    simp only [State.withPlans_probe]
    by_cases hb : 1 ≤ n ∧ n ≤ 18
    · simp only [hb, and_self, if_true]
      unfold ProbeEntry.takePolicy
      split <;> rfl
    · simp only [hb, if_false]
  · rfl

theorem installPending_apply (s : State) (h : s.plans.applyPending = true) :
    (installPending s).port.isSet .apply = true := by
  unfold installPending
  rw [if_pos h]; exact raise_isSet _ _

theorem installPending_of_none (s : State) (h : s.plans.applyPending = false) :
    installPending s = s := by simp -implicitDefEqProofs [installPending, h]

end Sys2Proof.Machine
end

