-- ==== Sys2Proof/Laws/FrameEvents.lean ====
section
/-! SUPPORT. Laws/FrameEvents.lean: which fields of the state a judgement, a closure, a sweep start, a mark and a
capture leave as they are. -/

namespace Sys2Proof.Machine

/-- `judgeLink` changes at most the links. -/
@[simp] theorem judgeLink_frame (o : OpenStep) (f : Finding) (s : State) :
    (judgeLink o f s).pending = s.pending ∧ (judgeLink o f s).freeCount = s.freeCount ∧
    (judgeLink o f s).clock = s.clock ∧ (judgeLink o f s).timer = s.timer ∧
    (judgeLink o f s).engine = s.engine ∧ (judgeLink o f s).registry = s.registry ∧
    (judgeLink o f s).spot = s.spot ∧ (judgeLink o f s).router = s.router ∧
    (judgeLink o f s).plans = s.plans ∧ (judgeLink o f s).store = s.store ∧
    (judgeLink o f s).port = s.port := by
  simp only [judgeLink]
  (repeat' split) <;> simp

/-- `quietCheck` changes at most the links. -/
@[simp] theorem quietCheck_frame (o : OpenStep) (p : Participant) (rs : List ResultRecord) (s : State) :
    ((quietCheck o p (s, rs)).1).pending = s.pending ∧
    ((quietCheck o p (s, rs)).1).freeCount = s.freeCount ∧
    ((quietCheck o p (s, rs)).1).clock = s.clock ∧ ((quietCheck o p (s, rs)).1).timer = s.timer ∧
    ((quietCheck o p (s, rs)).1).engine = s.engine ∧
    ((quietCheck o p (s, rs)).1).registry = s.registry ∧
    ((quietCheck o p (s, rs)).1).spot = s.spot ∧ ((quietCheck o p (s, rs)).1).router = s.router ∧
    ((quietCheck o p (s, rs)).1).plans = s.plans ∧ ((quietCheck o p (s, rs)).1).store = s.store ∧
    ((quietCheck o p (s, rs)).1).port = s.port := by
  simp only [quietCheck]
  (repeat' split) <;> simp

/-- `quietChecks` changes at most the links. -/
@[simp] theorem quietChecks_frame (o : OpenStep) (f : Finding) (s : State) :
    ((quietChecks o f s).1).pending = s.pending ∧ ((quietChecks o f s).1).freeCount = s.freeCount ∧
    ((quietChecks o f s).1).clock = s.clock ∧ ((quietChecks o f s).1).timer = s.timer ∧
    ((quietChecks o f s).1).engine = s.engine ∧ ((quietChecks o f s).1).registry = s.registry ∧
    ((quietChecks o f s).1).spot = s.spot ∧ ((quietChecks o f s).1).router = s.router ∧
    ((quietChecks o f s).1).plans = s.plans ∧ ((quietChecks o f s).1).store = s.store ∧
    ((quietChecks o f s).1).port = s.port := by
  simp only [quietChecks]
  (repeat' split) <;> try simp
  refine foldl_keeps (fun x : State × List ResultRecord =>
    x.1.pending = s.pending ∧ x.1.freeCount = s.freeCount ∧ x.1.clock = s.clock ∧ x.1.timer = s.timer ∧
    x.1.engine = s.engine ∧ x.1.registry = s.registry ∧ x.1.spot = s.spot ∧ x.1.router = s.router ∧
    x.1.plans = s.plans ∧ x.1.store = s.store ∧ x.1.port = s.port) _ ?_ _ _ (by simp)
  intro ⟨b, rs⟩ a h
  simpa using h

/-- `judgeClosed` changes at most the links, the router, the port and the Spot Queue. -/
@[simp] theorem judgeClosed_frame (t : Tag) (o : OpenStep) (s : State) :
    (judgeClosed t o s).pending = s.pending ∧ (judgeClosed t o s).freeCount = s.freeCount ∧
    (judgeClosed t o s).clock = s.clock ∧ (judgeClosed t o s).timer = s.timer ∧
    (judgeClosed t o s).engine = s.engine ∧ (judgeClosed t o s).registry = s.registry ∧
    (judgeClosed t o s).plans = s.plans ∧ (judgeClosed t o s).store = s.store := by
  simp only [judgeClosed]
  (repeat' split) <;> simp

/-- `leaveInStep` changes at most the registry, the timer, the engine, the links, the router and
the port. -/
@[simp] theorem leaveInStep_frame (b : Bool) (n : Nat) (s : State) :
    (leaveInStep b n s).pending = s.pending ∧ (leaveInStep b n s).freeCount = s.freeCount ∧
    (leaveInStep b n s).clock = s.clock ∧ (leaveInStep b n s).spot = s.spot ∧
    (leaveInStep b n s).plans = s.plans ∧ (leaveInStep b n s).store = s.store := by
  simp only [leaveInStep]
  (repeat' split) <;> simp

/-- `loseProbe` changes at most the registry, the timer, the engine, the links, the router and the
port. -/
@[simp] theorem loseProbe_frame (b : Bool) (n : Nat) (s : State) :
    (loseProbe b n s).pending = s.pending ∧ (loseProbe b n s).freeCount = s.freeCount ∧
    (loseProbe b n s).clock = s.clock ∧ (loseProbe b n s).spot = s.spot ∧
    (loseProbe b n s).plans = s.plans ∧ (loseProbe b n s).store = s.store := by
  simp only [loseProbe]
  (repeat' split) <;> simp

/-- `addMiss` changes at most the registry, the timer, the engine, the links, the router and the
port. -/
@[simp] theorem addMiss_frame (b : Bool) (n : Nat) (s : State) :
    (addMiss b n s).pending = s.pending ∧ (addMiss b n s).freeCount = s.freeCount ∧
    (addMiss b n s).clock = s.clock ∧ (addMiss b n s).spot = s.spot ∧
    (addMiss b n s).plans = s.plans ∧ (addMiss b n s).store = s.store := by
  simp only [addMiss]
  (repeat' split) <;> simp

/-- `countMissing` changes at most the registry, the timer, the engine, the links, the router and
the port. -/
@[simp] theorem countMissing_frame (p : Participant) (s : State) :
    (countMissing p s).pending = s.pending ∧ (countMissing p s).freeCount = s.freeCount ∧
    (countMissing p s).clock = s.clock ∧ (countMissing p s).spot = s.spot ∧
    (countMissing p s).plans = s.plans ∧ (countMissing p s).store = s.store := by
  simp only [countMissing]
  (repeat' split) <;> simp

/-- `freeSlot` changes at most the engine. -/
@[simp] theorem freeSlot_frame (k : Fin 8) (s : State) :
    (freeSlot k s).pending = s.pending ∧ (freeSlot k s).freeCount = s.freeCount ∧
    (freeSlot k s).clock = s.clock ∧ (freeSlot k s).timer = s.timer ∧
    (freeSlot k s).registry = s.registry ∧ (freeSlot k s).links = s.links ∧
    (freeSlot k s).spot = s.spot ∧ (freeSlot k s).router = s.router ∧
    (freeSlot k s).plans = s.plans ∧ (freeSlot k s).store = s.store ∧
    (freeSlot k s).port = s.port := by
  simp only [freeSlot]
  (repeat' split) <;> simp

/-- `closeStep` changes at most the timer, the engine, the links, the router, the port, the plans,
the Spot Queue and the registry. -/
@[simp] theorem closeStep_frame (k : Fin 8) (o : OpenStep) (s : State) :
    (closeStep k o s).pending = s.pending ∧ (closeStep k o s).freeCount = s.freeCount ∧
    (closeStep k o s).clock = s.clock ∧ (closeStep k o s).store = s.store := by
  have hm := foldl_keeps (fun x : State =>
    x.pending = s.pending ∧ x.freeCount = s.freeCount ∧ x.clock = s.clock ∧ x.store = s.store) (fun x p => countMissing p x)
    (by intro b a h; simpa using h) o.settled.participants s (by simp)
  have he := foldl_keeps (fun x : State =>
    x.pending = s.pending ∧ x.freeCount = s.freeCount ∧ x.clock = s.clock ∧ x.store = s.store) (fun x p => endAssignment ⟨k, s.turn k⟩ p.slot x)
    (by intro b a h; simpa using h) o.settled.participants _ hm
  simpa [closeStep] using he

/-- `acceptReport` changes at most the timer, the engine, the links, the router, the port, the
plans, the Spot Queue and the registry. -/
@[simp] theorem acceptReport_frame (n : Nat) (t : Tag) (r : Report) (o : OpenStep) (s : State) :
    (acceptReport n t r o s).pending = s.pending ∧
    (acceptReport n t r o s).freeCount = s.freeCount ∧ (acceptReport n t r o s).clock = s.clock ∧
    (acceptReport n t r o s).store = s.store := by
  simp only [acceptReport]
  (repeat' split) <;> simp

/-- `takeReport` changes at most the timer, the engine, the links, the router, the port, the
plans, the Spot Queue and the registry. -/
@[simp] theorem takeReport_frame (n : Nat) (t : Tag) (r : Report) (s : State) :
    (takeReport n t r s).pending = s.pending ∧ (takeReport n t r s).freeCount = s.freeCount ∧
    (takeReport n t r s).clock = s.clock ∧ (takeReport n t r s).store = s.store := by
  simp only [takeReport]
  (repeat' split) <;> simp

/-- `emptyTable` changes at most the engine. -/
@[simp] theorem emptyTable_frame (s : State) :
    (emptyTable s).pending = s.pending ∧ (emptyTable s).freeCount = s.freeCount ∧
    (emptyTable s).clock = s.clock ∧ (emptyTable s).timer = s.timer ∧
    (emptyTable s).registry = s.registry ∧ (emptyTable s).links = s.links ∧
    (emptyTable s).spot = s.spot ∧ (emptyTable s).router = s.router ∧
    (emptyTable s).plans = s.plans ∧ (emptyTable s).store = s.store ∧
    (emptyTable s).port = s.port := by
  simp only [emptyTable]
  (repeat' split) <;> simp

/-- `clearAllAssignments` changes at most the registry. -/
@[simp] theorem clearAllAssignments_frame (s : State) :
    (clearAllAssignments s).pending = s.pending ∧ (clearAllAssignments s).freeCount = s.freeCount ∧
    (clearAllAssignments s).clock = s.clock ∧ (clearAllAssignments s).timer = s.timer ∧
    (clearAllAssignments s).engine = s.engine ∧ (clearAllAssignments s).links = s.links ∧
    (clearAllAssignments s).spot = s.spot ∧ (clearAllAssignments s).router = s.router ∧
    (clearAllAssignments s).plans = s.plans ∧ (clearAllAssignments s).store = s.store ∧
    (clearAllAssignments s).port = s.port := by
  simp only [clearAllAssignments]
  refine foldl_keeps (fun x : State =>
    x.pending = s.pending ∧ x.freeCount = s.freeCount ∧ x.clock = s.clock ∧ x.timer = s.timer ∧
    x.engine = s.engine ∧ x.links = s.links ∧ x.spot = s.spot ∧ x.router = s.router ∧
    x.plans = s.plans ∧ x.store = s.store ∧ x.port = s.port) _ ?_ _ _ (by simp)
  intro b a h
  (repeat' split) <;> simp [h]

/-- `settleMark` changes at most the registry, the timer, the engine, the links, the router and
the port. -/
@[simp] theorem settleMark_frame (b : Bool) (n : Nat) (s : State) :
    (settleMark b n s).pending = s.pending ∧ (settleMark b n s).freeCount = s.freeCount ∧
    (settleMark b n s).clock = s.clock ∧ (settleMark b n s).spot = s.spot ∧
    (settleMark b n s).plans = s.plans ∧ (settleMark b n s).store = s.store := by
  simp only [settleMark]
  (repeat' split) <;> simp

/-- `settleMarks` changes at most the registry, the timer, the engine, the links, the router and
the port. -/
@[simp] theorem settleMarks_frame (b : Bool) (s : State) :
    (settleMarks b s).pending = s.pending ∧ (settleMarks b s).freeCount = s.freeCount ∧
    (settleMarks b s).clock = s.clock ∧ (settleMarks b s).spot = s.spot ∧
    (settleMarks b s).plans = s.plans ∧ (settleMarks b s).store = s.store := by
  simp only [settleMarks]
  refine foldl_keeps (fun x : State =>
    x.pending = s.pending ∧ x.freeCount = s.freeCount ∧ x.clock = s.clock ∧ x.spot = s.spot ∧
    x.plans = s.plans ∧ x.store = s.store) _ ?_ _ _ (by simp)
  intro b a h
  (repeat' split) <;> simp [h]

/-- `sendMark` changes at most the registry. -/
@[simp] theorem sendMark_frame (n : Nat) (s : State) :
    (sendMark n s).pending = s.pending ∧ (sendMark n s).freeCount = s.freeCount ∧
    (sendMark n s).clock = s.clock ∧ (sendMark n s).timer = s.timer ∧
    (sendMark n s).engine = s.engine ∧ (sendMark n s).links = s.links ∧
    (sendMark n s).spot = s.spot ∧ (sendMark n s).router = s.router ∧
    (sendMark n s).plans = s.plans ∧ (sendMark n s).store = s.store ∧
    (sendMark n s).port = s.port := by
  simp only [sendMark]
  (repeat' split) <;> simp

/-- `sendMarks` changes at most the registry. -/
@[simp] theorem sendMarks_frame (s : State) :
    (sendMarks s).pending = s.pending ∧ (sendMarks s).freeCount = s.freeCount ∧
    (sendMarks s).clock = s.clock ∧ (sendMarks s).timer = s.timer ∧
    (sendMarks s).engine = s.engine ∧ (sendMarks s).links = s.links ∧ (sendMarks s).spot = s.spot ∧
    (sendMarks s).router = s.router ∧ (sendMarks s).plans = s.plans ∧
    (sendMarks s).store = s.store ∧ (sendMarks s).port = s.port := by
  simp only [sendMarks]
  refine foldl_keeps (fun x : State =>
    x.pending = s.pending ∧ x.freeCount = s.freeCount ∧ x.clock = s.clock ∧ x.timer = s.timer ∧
    x.engine = s.engine ∧ x.links = s.links ∧ x.spot = s.spot ∧ x.router = s.router ∧
    x.plans = s.plans ∧ x.store = s.store ∧ x.port = s.port) _ ?_ _ _ (by simp)
  intro b a h
  (repeat' split) <;> simp [h]

/-- `advance` changes at most the timer. -/
@[simp] theorem advance_frame (b : RunState) (s : State) :
    (advance b s).pending = s.pending ∧ (advance b s).freeCount = s.freeCount ∧
    (advance b s).clock = s.clock ∧ (advance b s).engine = s.engine ∧
    (advance b s).registry = s.registry ∧ (advance b s).links = s.links ∧
    (advance b s).spot = s.spot ∧ (advance b s).router = s.router ∧ (advance b s).plans = s.plans ∧
    (advance b s).store = s.store ∧ (advance b s).port = s.port := by
  simp only [advance]
  (repeat' split) <;> simp

/-- `enterRunning` changes at most the timer and the port. -/
@[simp] theorem enterRunning_frame (s : State) :
    (enterRunning s).pending = s.pending ∧ (enterRunning s).freeCount = s.freeCount ∧
    (enterRunning s).clock = s.clock ∧ (enterRunning s).engine = s.engine ∧
    (enterRunning s).registry = s.registry ∧ (enterRunning s).links = s.links ∧
    (enterRunning s).spot = s.spot ∧ (enterRunning s).router = s.router ∧
    (enterRunning s).plans = s.plans ∧ (enterRunning s).store = s.store := by
  simp only [enterRunning]
  (repeat' split) <;> simp

/-- `haltSyncing` changes at most the timer and the port. -/
@[simp] theorem haltSyncing_frame (s : State) :
    (haltSyncing s).pending = s.pending ∧ (haltSyncing s).freeCount = s.freeCount ∧
    (haltSyncing s).clock = s.clock ∧ (haltSyncing s).engine = s.engine ∧
    (haltSyncing s).registry = s.registry ∧ (haltSyncing s).links = s.links ∧
    (haltSyncing s).spot = s.spot ∧ (haltSyncing s).router = s.router ∧
    (haltSyncing s).plans = s.plans ∧ (haltSyncing s).store = s.store := by
  simp [haltSyncing]

/-- `syncJudgement` changes at most the timer and the port. -/
@[simp] theorem syncJudgement_frame (s : State) :
    (syncJudgement s).pending = s.pending ∧ (syncJudgement s).freeCount = s.freeCount ∧
    (syncJudgement s).clock = s.clock ∧ (syncJudgement s).engine = s.engine ∧
    (syncJudgement s).registry = s.registry ∧ (syncJudgement s).links = s.links ∧
    (syncJudgement s).spot = s.spot ∧ (syncJudgement s).router = s.router ∧
    (syncJudgement s).plans = s.plans ∧ (syncJudgement s).store = s.store := by
  simp only [syncJudgement]
  (repeat' split) <;> simp

/-- `recomputeHealth` changes at most the timer and the port. -/
@[simp] theorem recomputeHealth_frame (s : State) :
    (recomputeHealth s).pending = s.pending ∧ (recomputeHealth s).freeCount = s.freeCount ∧
    (recomputeHealth s).clock = s.clock ∧ (recomputeHealth s).engine = s.engine ∧
    (recomputeHealth s).registry = s.registry ∧ (recomputeHealth s).links = s.links ∧
    (recomputeHealth s).spot = s.spot ∧ (recomputeHealth s).router = s.router ∧
    (recomputeHealth s).plans = s.plans ∧ (recomputeHealth s).store = s.store := by
  simp only [recomputeHealth]
  (repeat' split) <;> simp

/-- `sweepJudgement` changes at most the timer and the port. -/
@[simp] theorem sweepJudgement_frame (b : RunState) (s : State) :
    (sweepJudgement b s).pending = s.pending ∧ (sweepJudgement b s).freeCount = s.freeCount ∧
    (sweepJudgement b s).clock = s.clock ∧ (sweepJudgement b s).engine = s.engine ∧
    (sweepJudgement b s).registry = s.registry ∧ (sweepJudgement b s).links = s.links ∧
    (sweepJudgement b s).spot = s.spot ∧ (sweepJudgement b s).router = s.router ∧
    (sweepJudgement b s).plans = s.plans ∧ (sweepJudgement b s).store = s.store := by
  simp only [sweepJudgement]
  (repeat' split) <;> simp

/-- `clearIndicator` changes at most the timer. -/
@[simp] theorem clearIndicator_frame (s : State) :
    (clearIndicator s).pending = s.pending ∧ (clearIndicator s).freeCount = s.freeCount ∧
    (clearIndicator s).clock = s.clock ∧ (clearIndicator s).engine = s.engine ∧
    (clearIndicator s).registry = s.registry ∧ (clearIndicator s).links = s.links ∧
    (clearIndicator s).spot = s.spot ∧ (clearIndicator s).router = s.router ∧
    (clearIndicator s).plans = s.plans ∧ (clearIndicator s).store = s.store ∧
    (clearIndicator s).port = s.port := by
  simp only [clearIndicator]
  (repeat' split) <;> simp

/-- `installAtSweepStart` changes at most the plans, the port, the links, the router, the Spot
Queue, the registry, the timer and the engine. -/
@[simp] theorem installAtSweepStart_frame (s : State) :
    (installAtSweepStart s).pending = s.pending ∧ (installAtSweepStart s).freeCount = s.freeCount ∧
    (installAtSweepStart s).clock = s.clock ∧ (installAtSweepStart s).store = s.store := by
  simp only [installAtSweepStart]
  (repeat' split) <;> simp

/-- `stopIfHalted` changes at most the timer, the engine, the links, the router, the port and the
registry. -/
@[simp] theorem stopIfHalted_frame (s : State) :
    (stopIfHalted s).pending = s.pending ∧ (stopIfHalted s).freeCount = s.freeCount ∧
    (stopIfHalted s).clock = s.clock ∧ (stopIfHalted s).spot = s.spot ∧
    (stopIfHalted s).plans = s.plans ∧ (stopIfHalted s).store = s.store := by
  simp only [stopIfHalted]
  (repeat' split) <;> simp

/-- `sweepStart` changes at most the timer, the engine, the links, the router, the port, the
plans, the Spot Queue and the registry. -/
@[simp] theorem sweepStart_frame (s : State) :
    (sweepStart s).pending = s.pending ∧ (sweepStart s).freeCount = s.freeCount ∧
    (sweepStart s).clock = s.clock ∧ (sweepStart s).store = s.store := by
  simp [sweepStart]

/-- `firstSweep` changes at most the timer and the registry. -/
@[simp] theorem firstSweep_frame (s : State) :
    (firstSweep s).pending = s.pending ∧ (firstSweep s).freeCount = s.freeCount ∧
    (firstSweep s).clock = s.clock ∧ (firstSweep s).engine = s.engine ∧
    (firstSweep s).links = s.links ∧ (firstSweep s).spot = s.spot ∧
    (firstSweep s).router = s.router ∧ (firstSweep s).plans = s.plans ∧
    (firstSweep s).store = s.store ∧ (firstSweep s).port = s.port := by
  simp [firstSweep]

/-- `resumeSweep` changes at most the timer, the engine, the links, the router, the port, the
plans, the Spot Queue and the registry. -/
@[simp] theorem resumeSweep_frame (s : State) :
    (resumeSweep s).pending = s.pending ∧ (resumeSweep s).freeCount = s.freeCount ∧
    (resumeSweep s).clock = s.clock ∧ (resumeSweep s).store = s.store := by
  simp [resumeSweep]

/-- `passMark` changes at most the timer. -/
@[simp] theorem passMark_frame (i : Nat) (s : State) :
    (passMark i s).pending = s.pending ∧ (passMark i s).freeCount = s.freeCount ∧
    (passMark i s).clock = s.clock ∧ (passMark i s).engine = s.engine ∧
    (passMark i s).registry = s.registry ∧ (passMark i s).links = s.links ∧
    (passMark i s).spot = s.spot ∧ (passMark i s).router = s.router ∧
    (passMark i s).plans = s.plans ∧ (passMark i s).store = s.store ∧
    (passMark i s).port = s.port := by
  simp only [passMark]
  (repeat' split) <;> simp

/-- `timedStep` changes at most the engine, the registry, the links, the timer, the router and the
port. -/
@[simp] theorem timedStep_frame (i : Nat) (e : StepEntry) (s : State) :
    (timedStep i e s).pending = s.pending ∧ (timedStep i e s).freeCount = s.freeCount ∧
    (timedStep i e s).clock = s.clock ∧ (timedStep i e s).spot = s.spot ∧
    (timedStep i e s).plans = s.plans ∧ (timedStep i e s).store = s.store := by
  simp only [timedStep]
  (repeat' split) <;> simp

/-- `timedMark` changes at most the engine, the registry, the links, the timer, the router and the
port. -/
@[simp] theorem timedMark_frame (i : Nat) (s : State) :
    (timedMark i s).pending = s.pending ∧ (timedMark i s).freeCount = s.freeCount ∧
    (timedMark i s).clock = s.clock ∧ (timedMark i s).spot = s.spot ∧
    (timedMark i s).plans = s.plans ∧ (timedMark i s).store = s.store := by
  simp only [timedMark]
  (repeat' split) <;> simp

/-- `openMerged` changes at most the engine. -/
@[simp] theorem openMerged_frame (s : State) :
    (openMerged s).pending = s.pending ∧ (openMerged s).freeCount = s.freeCount ∧
    (openMerged s).clock = s.clock ∧ (openMerged s).timer = s.timer ∧
    (openMerged s).registry = s.registry ∧ (openMerged s).links = s.links ∧
    (openMerged s).spot = s.spot ∧ (openMerged s).router = s.router ∧
    (openMerged s).plans = s.plans ∧ (openMerged s).store = s.store ∧
    (openMerged s).port = s.port := by
  simp [openMerged]

/-- `mergedStep` changes at most the engine, the registry, the links, the timer, the router and
the port. -/
@[simp] theorem mergedStep_frame (i : Nat) (e : StepEntry) (s : State) :
    (mergedStep i e s).pending = s.pending ∧ (mergedStep i e s).freeCount = s.freeCount ∧
    (mergedStep i e s).clock = s.clock ∧ (mergedStep i e s).spot = s.spot ∧
    (mergedStep i e s).plans = s.plans ∧ (mergedStep i e s).store = s.store := by
  simp only [mergedStep]
  (repeat' split) <;> simp

/-- `mergedMark` changes at most the engine, the registry, the links, the timer, the router and
the port. -/
@[simp] theorem mergedMark_frame (i : Nat) (s : State) :
    (mergedMark i s).pending = s.pending ∧ (mergedMark i s).freeCount = s.freeCount ∧
    (mergedMark i s).clock = s.clock ∧ (mergedMark i s).spot = s.spot ∧
    (mergedMark i s).plans = s.plans ∧ (mergedMark i s).store = s.store := by
  simp only [mergedMark]
  (repeat' split) <;> simp

/-- `markAction` changes at most the router and the port. -/
@[simp] theorem markAction_frame (e : StepEntry) (s : State) :
    (markAction e s).pending = s.pending ∧ (markAction e s).freeCount = s.freeCount ∧
    (markAction e s).clock = s.clock ∧ (markAction e s).timer = s.timer ∧
    (markAction e s).engine = s.engine ∧ (markAction e s).registry = s.registry ∧
    (markAction e s).links = s.links ∧ (markAction e s).spot = s.spot ∧
    (markAction e s).plans = s.plans ∧ (markAction e s).store = s.store := by
  simp only [markAction]
  (repeat' split) <;> simp

/-- `markEntry` changes at most the engine, the links, the timer, the router and the port. -/
@[simp] theorem markEntry_frame (i : Nat) (s : State) :
    (markEntry i s).pending = s.pending ∧ (markEntry i s).freeCount = s.freeCount ∧
    (markEntry i s).clock = s.clock ∧ (markEntry i s).registry = s.registry ∧
    (markEntry i s).spot = s.spot ∧ (markEntry i s).plans = s.plans ∧
    (markEntry i s).store = s.store := by
  simp only [markEntry]
  (repeat' split) <;> simp

/-- `freeEntry` changes at most the engine, the registry, the links, the timer, the router, the
port and the Spot Queue. -/
@[simp] theorem freeEntry_frame (i : Nat) (s : State) :
    (freeEntry i s).pending = s.pending ∧ (freeEntry i s).freeCount = s.freeCount ∧
    (freeEntry i s).clock = s.clock ∧ (freeEntry i s).plans = s.plans ∧
    (freeEntry i s).store = s.store := by
  simp only [freeEntry]
  (repeat' split) <;> simp

/-- `limitRun` changes at most the timer, the engine, the links, the router, the port, the plans,
the Spot Queue and the registry. -/
@[simp] theorem limitRun_frame (s : State) :
    (limitRun s).pending = s.pending ∧ (limitRun s).freeCount = s.freeCount ∧
    (limitRun s).clock = s.clock ∧ (limitRun s).store = s.store := by
  simp only [limitRun]
  (repeat' split) <;> simp

/-- `endCapture` changes at most the registry and the port. -/
@[simp] theorem endCapture_frame (s : State) :
    (endCapture s).pending = s.pending ∧ (endCapture s).freeCount = s.freeCount ∧
    (endCapture s).clock = s.clock ∧ (endCapture s).timer = s.timer ∧
    (endCapture s).engine = s.engine ∧ (endCapture s).links = s.links ∧
    (endCapture s).spot = s.spot ∧ (endCapture s).router = s.router ∧
    (endCapture s).plans = s.plans ∧ (endCapture s).store = s.store := by
  simp only [endCapture]
  (repeat' split) <;> simp

/-- `finishCapture` changes at most the registry and the port. -/
@[simp] theorem finishCapture_frame (n : Nat) (r : CaptureResult) (s : State) :
    (finishCapture n r s).pending = s.pending ∧ (finishCapture n r s).freeCount = s.freeCount ∧
    (finishCapture n r s).clock = s.clock ∧ (finishCapture n r s).timer = s.timer ∧
    (finishCapture n r s).engine = s.engine ∧ (finishCapture n r s).links = s.links ∧
    (finishCapture n r s).spot = s.spot ∧ (finishCapture n r s).router = s.router ∧
    (finishCapture n r s).plans = s.plans ∧ (finishCapture n r s).store = s.store := by
  simp only [finishCapture]
  (repeat' split) <;> simp

/-- `leaveSyncing` changes at most the registry and the port. -/
@[simp] theorem leaveSyncing_frame (n : Nat) (s : State) :
    (leaveSyncing n s).pending = s.pending ∧ (leaveSyncing n s).freeCount = s.freeCount ∧
    (leaveSyncing n s).clock = s.clock ∧ (leaveSyncing n s).timer = s.timer ∧
    (leaveSyncing n s).engine = s.engine ∧ (leaveSyncing n s).links = s.links ∧
    (leaveSyncing n s).spot = s.spot ∧ (leaveSyncing n s).router = s.router ∧
    (leaveSyncing n s).plans = s.plans ∧ (leaveSyncing n s).store = s.store := by
  simp only [leaveSyncing]
  (repeat' split) <;> simp

/-- `takeCalRead` changes at most the registry and the port. -/
@[simp] theorem takeCalRead_frame (n : Nat) (raw : Half) (s : State) :
    (takeCalRead n raw s).pending = s.pending ∧ (takeCalRead n raw s).freeCount = s.freeCount ∧
    (takeCalRead n raw s).clock = s.clock ∧ (takeCalRead n raw s).timer = s.timer ∧
    (takeCalRead n raw s).engine = s.engine ∧ (takeCalRead n raw s).links = s.links ∧
    (takeCalRead n raw s).spot = s.spot ∧ (takeCalRead n raw s).router = s.router ∧
    (takeCalRead n raw s).plans = s.plans ∧ (takeCalRead n raw s).store = s.store := by
  simp only [takeCalRead]
  (repeat' split) <;> simp

/-- `captureSlot` changes at most the registry. -/
@[simp] theorem captureSlot_frame (x : Selection) (n : Nat) (s : State) :
    (captureSlot x n s).pending = s.pending ∧ (captureSlot x n s).freeCount = s.freeCount ∧
    (captureSlot x n s).clock = s.clock ∧ (captureSlot x n s).timer = s.timer ∧
    (captureSlot x n s).engine = s.engine ∧ (captureSlot x n s).links = s.links ∧
    (captureSlot x n s).spot = s.spot ∧ (captureSlot x n s).router = s.router ∧
    (captureSlot x n s).plans = s.plans ∧ (captureSlot x n s).store = s.store ∧
    (captureSlot x n s).port = s.port := by
  simp only [captureSlot]
  (repeat' split) <;> simp

/-- `beginCapture` changes at most the registry. -/
@[simp] theorem beginCapture_frame (x : Selection) (s : State) :
    (beginCapture x s).pending = s.pending ∧ (beginCapture x s).freeCount = s.freeCount ∧
    (beginCapture x s).clock = s.clock ∧ (beginCapture x s).timer = s.timer ∧
    (beginCapture x s).engine = s.engine ∧ (beginCapture x s).links = s.links ∧
    (beginCapture x s).spot = s.spot ∧ (beginCapture x s).router = s.router ∧
    (beginCapture x s).plans = s.plans ∧ (beginCapture x s).store = s.store ∧
    (beginCapture x s).port = s.port := by
  simp only [beginCapture]
  refine foldl_keeps (fun x : State =>
    x.pending = s.pending ∧ x.freeCount = s.freeCount ∧ x.clock = s.clock ∧ x.timer = s.timer ∧
    x.engine = s.engine ∧ x.links = s.links ∧ x.spot = s.spot ∧ x.router = s.router ∧
    x.plans = s.plans ∧ x.store = s.store ∧ x.port = s.port) _ ?_ _ _ (by simp)
  intro b a h
  (repeat' split) <;> simp [h]

/-- `captureDeadlineEvent` changes at most the registry and the port. -/
@[simp] theorem captureDeadlineEvent_frame (s : State) :
    (captureDeadlineEvent s).pending = s.pending ∧
    (captureDeadlineEvent s).freeCount = s.freeCount ∧ (captureDeadlineEvent s).clock = s.clock ∧
    (captureDeadlineEvent s).timer = s.timer ∧ (captureDeadlineEvent s).engine = s.engine ∧
    (captureDeadlineEvent s).links = s.links ∧ (captureDeadlineEvent s).spot = s.spot ∧
    (captureDeadlineEvent s).router = s.router ∧ (captureDeadlineEvent s).plans = s.plans ∧
    (captureDeadlineEvent s).store = s.store := by
  simp only [captureDeadlineEvent]
  (repeat' split) <;> simp

/-- `putCandidate` changes at most the registry. -/
@[simp] theorem putCandidate_frame (x : Selection) (c : CaptureEntry) (s : State) :
    (putCandidate x c s).pending = s.pending ∧ (putCandidate x c s).freeCount = s.freeCount ∧
    (putCandidate x c s).clock = s.clock ∧ (putCandidate x c s).timer = s.timer ∧
    (putCandidate x c s).engine = s.engine ∧ (putCandidate x c s).links = s.links ∧
    (putCandidate x c s).spot = s.spot ∧ (putCandidate x c s).router = s.router ∧
    (putCandidate x c s).plans = s.plans ∧ (putCandidate x c s).store = s.store ∧
    (putCandidate x c s).port = s.port := by
  simp only [putCandidate]
  (repeat' split) <;> simp

end Sys2Proof.Machine
end

