-- ==== Sys2Proof/Laws/Starts.lean ====
section
/-! SUPPORT. Laws/Starts.lean: what a start of a test and an examination of the heads do to the table, to the
probes and to the ports (R71, R74, R78). -/

namespace Sys2Proof.Machine

/-! ## A start -/

theorem assign_probe (t : Tag) (x : TestPlan) (b : Nat) (p : Participant) (s : State) (n : Nat) :
    (assign t x b p s).probe n
      = if p.slot = n ∧ 1 ≤ n ∧ n ≤ 18 then (s.probe n).give ⟨t, p.role⟩ else s.probe n := by
  unfold assign
  rw [send_probe, State.probe_mapProbe]

theorem assign_portState (t : Tag) (x : TestPlan) (b : Nat) (p : Participant) (s : State) (n : Nat) :
    (assign t x b p s).portState n
      = if p.slot = n ∧ 1 ≤ n ∧ n ≤ 18 then
          (s.portState n).hand (assignmentMessage s t x b p)
        else s.portState n := by
  unfold assign
  rw [send_portState]
  rfl

/-- An assignment message depends on the active plan alone. -/
theorem assignmentMessage_congr {s t : State} (h : t.plans = s.plans) (g : Tag) (x : TestPlan) (b : Nat)
    (p : Participant) : assignmentMessage t g x b p = assignmentMessage s g x b p := by
  have : t.active = s.active := by simp [State.active, h]
  unfold assignmentMessage
  simp only [this]

theorem takeSlot_engine (k : Fin 8) (o : OpenStep) (s : State) :
    (takeSlot k o s).engine = { s.engine with
      table := Tab.put s.engine.table k.val (some o),
      turns := Tab.put s.engine.turns k.val (s.turn k + 1) } := (rfl)

theorem startTest_engine (k : Fin 8) (x : TestPlan) (s : State) :
    (startTest k x s).engine = { s.engine with
      table := Tab.put s.engine.table k.val (some (s.openStep x)),
      turns := Tab.put s.engine.turns k.val (s.turn k + 1) } := by
  unfold startTest
  have h := foldl_keeps (fun t : State => t.engine = (takeSlot k (s.openStep x) s).engine)
    (fun t p => assign (s.nextTag k) x s.timer.fixtureTime p t) (by intro t p h; simpa using h)
    x.participants _ rfl
  rw [h, takeSlot_engine]

/-- A start fills its table slot alone (R68). -/
theorem startTest_openAt (k j : Fin 8) (x : TestPlan) (s : State) :
    (startTest k x s).openAt j = if k = j then some (s.openStep x) else s.openAt j := by
  unfold State.openAt
  rw [startTest_engine]
  exact State.openAt_setOpen s k j (some (s.openStep x))

/-- A start advances the turn of its table slot alone (R68). -/
theorem startTest_turn (k j : Fin 8) (x : TestPlan) (s : State) :
    (startTest k x s).turn j = if k = j then s.turn k + 1 else s.turn j := by
  unfold State.turn
  rw [startTest_engine]
  have h := Tab.get_put (0 : BitVec 4) s.engine.turns k.val j.val (s.turn k + 1)
  have hj : j.val < 8 := j.isLt
  simp only [hj, and_true, Fin.val_inj] at h
  exact h

/-- A slot that is no participant keeps its entry and its port. -/
theorem startTest_other (k : Fin 8) (x : TestPlan) (s : State) (n : Nat)
    (h : n ∉ x.participants.map Participant.slot) :
    (startTest k x s).probe n = s.probe n ∧ (startTest k x s).portState n = s.portState n := by
  unfold startTest
  suffices hf : ∀ (ps : List Participant) (t : State), n ∉ ps.map Participant.slot →
      (ps.foldl (fun r p => assign (s.nextTag k) x s.timer.fixtureTime p r) t).probe n = t.probe n
      ∧ (ps.foldl (fun r p => assign (s.nextTag k) x s.timer.fixtureTime p r) t).portState n
          = t.portState n from hf x.participants _ h
  intro ps
  induction ps with
  | nil => intro t _; exact ⟨rfl, rfl⟩
  | cons p ps ih =>
    intro t hn
    simp only [List.map_cons, List.mem_cons, not_or] at hn
    rw [List.foldl_cons]
    obtain ⟨h1, h2⟩ := ih (assign (s.nextTag k) x s.timer.fixtureTime p t) hn.2
    rw [h1, h2, assign_probe, assign_portState]
    simp [Ne.symm hn.1]

/-- A start changes the two assignments of an entry alone. -/
theorem startTest_probe (k : Fin 8) (x : TestPlan) (s : State) (n : Nat) :
    (startTest k x s).probe n = { s.probe n with
      current := ((startTest k x s).probe n).current,
      queued := ((startTest k x s).probe n).queued } := by
  unfold startTest
  refine foldl_keeps (fun t : State => t.probe n = { s.probe n with
    current := (t.probe n).current, queued := (t.probe n).queued }) _ ?_ _ _ rfl
  intro t p h
  rw [assign_probe]
  split
  · rw [h]; unfold ProbeEntry.give; split <;> rfl
  · exact h

/-! ## What an examination can do -/

/-- From `s` to `t` only starts of IN_STEP participants in empty table slots, and counts of steps not started,
have happened. -/
def State.OnlyStarts (s t : State) : Prop :=
  (∀ n, t.probe n = { s.probe n with current := (t.probe n).current, queued := (t.probe n).queued })
  ∧ (∀ n, (s.probe n).state ≠ .inStep → t.probe n = s.probe n ∧ t.portState n = s.portState n)
  ∧ (∀ k, (s.openAt k).isSome = true → t.openAt k = s.openAt k ∧ t.turn k = s.turn k)
  ∧ (∀ id, t.link id = { s.link id with notStarted := (t.link id).notStarted })
  ∧ t.timer = { s.timer with notStarted := t.timer.notStarted }
  ∧ t.registry.session = s.registry.session

theorem State.OnlyStarts.refl (s : State) : s.OnlyStarts s :=
  ⟨fun _ => rfl, fun _ _ => ⟨rfl, rfl⟩, fun _ _ => ⟨rfl, rfl⟩, fun _ => rfl, rfl, rfl⟩

theorem State.OnlyStarts.trans {a b c : State} (h : a.OnlyStarts b) (k : b.OnlyStarts c) :
    a.OnlyStarts c := by
  obtain ⟨h1, h2, h3, h4, h5, h6⟩ := h
  obtain ⟨k1, k2, k3, k4, k5, k6⟩ := k
  refine ⟨fun n => ?_, fun n hn => ?_, fun j hj => ?_, fun id => ?_, ?_, k6.trans h6⟩
  · rw [k1 n, h1 n]
  · have hb : (b.probe n).state ≠ .inStep := by rw [(h2 n hn).1]; exact hn
    exact ⟨(k2 n hb).1.trans (h2 n hn).1, (k2 n hb).2.trans (h2 n hn).2⟩
  · have hb : (b.openAt j).isSome = true := by rw [(h3 j hj).1]; exact hj
    exact ⟨(k3 j hb).1.trans (h3 j hj).1, (k3 j hb).2.trans (h3 j hj).2⟩
  · rw [k4 id, h4 id]
  · rw [k5, h5]

theorem startTest_session (k : Fin 8) (x : TestPlan) (s : State) :
    (startTest k x s).registry.session = s.registry.session := by
  unfold startTest
  exact foldl_keeps (fun t : State => t.registry.session = s.registry.session) _
    (by intro t p h; exact h) x.participants _ rfl

theorem startTest_onlyStarts (k : Fin 8) (x : TestPlan) (s : State) (hk : (s.openAt k).isSome = false)
    (hp : s.allInStep x.participants = true) : s.OnlyStarts (startTest k x s) := by
  refine ⟨startTest_probe k x s, fun n hn => ?_, fun j hj => ?_, fun id => ?_, by simp,
    startTest_session k x s⟩
  · refine startTest_other k x s n ?_
    intro hm
    obtain ⟨p, hpm, hpn⟩ := List.mem_map.1 hm
    have := List.all_eq_true.1 hp p hpm
    rw [hpn] at this
    exact hn (by simpa using this)
  · have hkj : k ≠ j := by intro h; subst h; rw [hk] at hj; exact absurd hj (by simp)
    rw [startTest_openAt, startTest_turn]; simp [hkj]
  · rw [State.link_of_links (s := s) (by simp)]

theorem emptySlot_none {s : State} {k : Fin 8} (h : s.emptySlot = some k) :
    (s.openAt k).isSome = false := by
  have := List.find?_some h
  simpa using this

theorem setMerged_onlyStarts (w : MergedWindow) (s : State) : s.OnlyStarts (s.setMerged w) :=
  ⟨fun _ => rfl, fun _ _ => ⟨rfl, rfl⟩, fun _ _ => ⟨rfl, rfl⟩, fun _ => rfl, rfl, rfl⟩

theorem notStarted_onlyStarts (i : Nat) (e : StepEntry) (w : NotStarted) (s : State) :
    s.OnlyStarts (notStarted i e w s) := by
  have hf := notStarted_frame i e w s
  refine ⟨fun n => ?_, fun n _ => ?_, fun k _ => ?_, fun id => ?_, ?_, by simp⟩
  · rw [State.probe_of_registry hf.2.2.2.2.1]
  · exact ⟨State.probe_of_registry hf.2.2.2.2.1 n, State.portState_of_registry hf.2.2.2.2.1 n⟩
  · exact ⟨State.openAt_of_table (by rw [hf.2.2.2.1]) k, State.turn_of_turns (by rw [hf.2.2.2.1]) k⟩
  · rw [notStarted_link]; split <;> rfl
  · rw [notStarted_timer]

theorem mergedHead_starts {s : State} {m : Option (Fin 8)} {x : TestPlan} {k : Fin 8}
    (h : s.mergedHead m x = .starts k) :
    (s.openAt k).isSome = false ∧ s.allInStep x.participants = true := by
  unfold State.mergedHead at h
  split at h
  · exact absurd h (by simp)
  · split at h
    · exact absurd h (by simp)
    · rename_i j hj
      (repeat' split at h) <;> first
        | (simp only [HeadResult.starts.injEq] at h
           subst h
           refine ⟨emptySlot_none hj, ?_⟩
           simp_all)
        | exact absurd h (by simp)

/-- Examining the merged heads only starts tests and counts steps not started (R74). -/
theorem examineMerged_onlyStarts : ∀ (fuel : Nat) (s : State), s.OnlyStarts (examineMerged fuel s)
  | 0, s => State.OnlyStarts.refl s
  | fuel + 1, s => by
    unfold examineMerged
    split
    · exact State.OnlyStarts.refl s
    · split
      · exact State.OnlyStarts.refl s
      · dsimp only
        split
        · exact State.OnlyStarts.refl s
        · exact ((setMerged_onlyStarts _ s).trans (notStarted_onlyStarts _ _ _ _)).trans
            (examineMerged_onlyStarts fuel _)
        · rename_i hk
          exact ((setMerged_onlyStarts _ s).trans
            (startTest_onlyStarts _ _ _ (mergedHead_starts hk).1 (mergedHead_starts hk).2)).trans
            (examineMerged_onlyStarts fuel _)

/-- Examining the free-window head only starts a test (R78). -/
theorem examineFree_onlyStarts (s : State) : s.OnlyStarts (examineFree s) := by
  unfold examineFree
  split
  · dsimp only
    (repeat' split)
    · exact State.OnlyStarts.refl s
    · exact State.OnlyStarts.refl s
    · exact State.OnlyStarts.refl s
    · exact ⟨fun _ => rfl, fun _ _ => ⟨rfl, rfl⟩, fun _ _ => ⟨rfl, rfl⟩, fun _ => rfl, rfl, rfl⟩
    · exact State.OnlyStarts.refl s
    · rename_i k hk _ hp _
      have hs : s.OnlyStarts (s.withSpot (markInFlight (s.nextTag k) s.spot)) :=
        ⟨fun _ => rfl, fun _ _ => ⟨rfl, rfl⟩, fun _ _ => ⟨rfl, rfl⟩, fun _ => rfl, rfl, rfl⟩
      refine hs.trans (startTest_onlyStarts _ _ _ (emptySlot_none hk) ?_)
      have := hp
      simp only [Bool.not_eq_true', Bool.not_eq_false, Bool.and_eq_true] at this
      exact this.1
  · exact State.OnlyStarts.refl s

/-- An examination only starts tests and counts steps not started (R75). -/
theorem examine_onlyStarts (s : State) : s.OnlyStarts (examine s) := by
  unfold examine
  split
  · exact (examineMerged_onlyStarts _ s).trans (examineFree_onlyStarts _)
  · exact State.OnlyStarts.refl s

/-- Heads are examined in RUNNING alone (R75). -/
theorem examine_of_not_running {s : State} (h : s.timer.run ≠ .running) : examine s = s := by
  simp [examine, h]

/-- With no window open there is no head. -/
theorem examine_of_no_windows {s : State} (hm : s.engine.merged = none) (hf : s.engine.free = none) :
    examine s = s := by
  have h1 : examineMerged (Config.pendingRoom + 1) s = s := by
    unfold examineMerged; rw [hm]
  have h2 : examineFree s = s := by
    unfold examineFree; rw [hf]
  unfold examine
  split
  · rw [h1, h2]
  · rfl

/-! ## The quorum comparison -/

/-- The comparison changes no entry, no table slot and no turn, and keeps the windows empty (R36, R38). -/
theorem quorumWatch_probe (b : Bool) (s : State) (n : Nat) : (quorumWatch b s).probe n = s.probe n := by
  have hh : (enterHalted s).probe n = s.probe n := State.probe_of_registry (by simp) n
  unfold quorumWatch
  dsimp only
  (repeat' split)
  · rw [timerStop_probe, hh]
  · exact hh
  · rfl

theorem quorumWatch_engine (b : Bool) (s : State) :
    (quorumWatch b s).engine.table = s.engine.table ∧ (quorumWatch b s).engine.turns = s.engine.turns
    ∧ (s.engine.merged = none → s.engine.free = none →
        (quorumWatch b s).engine.merged = none ∧ (quorumWatch b s).engine.free = none) := by
  unfold quorumWatch
  dsimp only
  (repeat' split)
  · rw [timerStop_engine]; simp
  · simpa using fun a b => ⟨a, b⟩
  · exact ⟨rfl, rfl, fun a b => ⟨a, b⟩⟩

/-- A run state that is not watched stays as it is (R38). -/
theorem quorumWatch_of_not_watched (b : Bool) {s : State} (h : s.timer.run.watchesQuorum = false) :
    quorumWatch b s = s := by simp [quorumWatch, h]

end Sys2Proof.Machine
end

