-- ==== Sys2Proof/Laws/Checks.lean ====
section
/-! SUPPORT. Laws/Checks.lean: what the conditions of a start, the search of the Filter List, the combination
of findings and the arbitration answer (R69, R70, R74, R101, R107, R144, R145). -/

namespace Sys2Proof.Machine

/-! ## The conditions of a start -/

theorem mem_tableSlots : ∀ k : Fin 8, k ∈ tableSlots := by decide

theorem tableSlots_getElem : ∀ (i : Nat) (h : i < tableSlots.length), (tableSlots[i]).val = i := by decide

/-- A search of the table slots finds the lowest one. -/
theorem find_tableSlots (f : Fin 8 → Bool) (k : Fin 8) :
    tableSlots.find? f = some k ↔ f k = true ∧ ∀ j, j < k → f j = false := by
  rw [List.find?_eq_some_iff_getElem]
  constructor
  · rintro ⟨hk, i, hi, hik, hj⟩
    refine ⟨hk, fun j hjk => ?_⟩
    have low := tableSlots_getElem i hi
    have len : tableSlots.length = 8 := by decide
    have at_j := hj j.val (by rw [hik] at low; omega)
    rw [show tableSlots[j.val]'(by omega) = j from Fin.ext (tableSlots_getElem _ _)] at at_j
    simpa using at_j
  · rintro ⟨hk, hj⟩
    have len : tableSlots.length = 8 := by decide
    refine ⟨hk, k.val, by omega, Fin.ext (tableSlots_getElem _ _), fun j hjk => ?_⟩
    have low := hj ⟨j, by omega⟩ hjk
    rw [show tableSlots[j]'(by omega) = ⟨j, by omega⟩ from Fin.ext (tableSlots_getElem _ _)]
    simpa using low

theorem State.emptySlot_eq_some (s : State) (k : Fin 8) :
    s.emptySlot = some k ↔ s.openAt k = none ∧ ∀ j, j < k → s.openAt j ≠ none := by
  simp [State.emptySlot, find_tableSlots, Option.isSome_iff_ne_none]

theorem State.emptySlot_eq_none (s : State) : s.emptySlot = none ↔ ∀ k, s.openAt k ≠ none := by
  simp [State.emptySlot, mem_tableSlots]

theorem State.linkBusy_iff (s : State) (id : Nat) :
    s.linkBusy id = true ↔ ∃ k o, s.openAt k = some o ∧ o.testLink = id := by
  simp only [State.linkBusy, List.any_eq_true, mem_tableSlots, true_and]
  constructor
  · rintro ⟨k, h⟩
    cases hk : s.openAt k with
    | none => simp [hk] at h
    | some o => exact ⟨k, o, hk, by simpa [hk] using h⟩
  · rintro ⟨k, o, hk, ho⟩
    exact ⟨k, by simp [hk, ho]⟩

theorem State.allInStep_iff (s : State) (ps : List Participant) :
    s.allInStep ps = true ↔ ∀ p ∈ ps, (s.probe p.slot).state = .inStep := by
  simp [State.allInStep]

theorem State.allPowered_iff (s : State) (ps : List Participant) :
    s.allPowered ps = true
      ↔ ∀ p ∈ ps, (s.probe p.slot).mainPower = true ∧ (s.probe p.slot).auxPower = true := by
  simp [State.allPowered, ProbeEntry.powered]

theorem State.allCanTake_iff (s : State) (ps : List Participant) :
    s.allCanTake ps = true ↔ ∀ p ∈ ps, (s.probe p.slot).canTake = true := by
  simp [State.allCanTake]

/-- A test starts in the lowest empty slot when all five conditions of R70 hold. -/
theorem State.timedCheck_ok (s : State) (test : TestPlan) (k : Fin 8) :
    s.timedCheck test = .ok k ↔ s.emptySlot = some k ∧ s.linkBusy test.testLink = false
      ∧ s.allInStep test.participants = true ∧ s.allPowered test.participants = true
      ∧ s.allCanTake test.participants = true := by
  unfold State.timedCheck
  cases s.emptySlot <;> cases s.linkBusy test.testLink <;> cases s.allInStep test.participants
    <;> cases s.allPowered test.participants <;> cases s.allCanTake test.participants <;> simp

/-- The reason is the first condition of R70 that fails. -/
theorem State.timedCheck_error (s : State) (test : TestPlan) (reason : NotStarted) :
    s.timedCheck test = .error reason ↔
      (reason = .openFull ∧ s.emptySlot = none)
      ∨ (s.emptySlot ≠ none ∧
        ((reason = .linkBusy ∧ s.linkBusy test.testLink = true)
        ∨ (s.linkBusy test.testLink = false ∧
          ((reason = .probeUnavailable ∧ s.allInStep test.participants = false)
          ∨ (s.allInStep test.participants = true ∧
            ((reason = .fieldPower ∧ s.allPowered test.participants = false)
            ∨ (s.allPowered test.participants = true ∧
              reason = .probeBusy ∧ s.allCanTake test.participants = false))))))) := by
  unfold State.timedCheck
  cases s.emptySlot <;> cases s.linkBusy test.testLink <;> cases s.allInStep test.participants
    <;> cases s.allPowered test.participants <;> cases s.allCanTake test.participants
    <;> simp [eq_comm]

/-- What a merged head finds is what a timed step would find, but that it waits where the cause can pass
(R74). -/
theorem State.mergedHead_eq (s : State) (member : Option (Fin 8)) (test : TestPlan) :
    s.mergedHead member test =
      (if member.isSome then .waits
      else match s.timedCheck test with
        | .ok k => .starts k
        | .error .probeUnavailable => .dropped .probeUnavailable
        | .error .fieldPower => .dropped .fieldPower
        | .error _ => .waits) := by
  unfold State.mergedHead State.timedCheck
  cases member <;> cases s.emptySlot <;> cases s.linkBusy test.testLink
    <;> cases s.allInStep test.participants <;> cases s.allPowered test.participants
    <;> cases s.allCanTake test.participants <;> simp

/-- What the head request of a free window does is told by the same check (R78). -/
theorem examineFree_eq (s : State) (w : FreeWindow) (r : SpotRequest) (rest : List SpotRequest)
    (hw : s.engine.free = some w) (hr : s.spot = r :: rest) :
    examineFree s =
      (if w.spent || s.spot.any (fun q => q.inFlight.isSome) then s
      else match s.timedCheck (s.spotTest r) with
        | .ok k => startTest k (s.spotTest r) (s.withSpot (markInFlight (s.nextTag k) s.spot))
        | .error .probeUnavailable => s.withEngine { s.engine with free := some ⟨true⟩ }
        | .error .fieldPower => s.withEngine { s.engine with free := some ⟨true⟩ }
        | .error _ => s) := by
  unfold examineFree State.timedCheck
  rw [hw, hr]
  have link : (s.spotTest r).testLink = r.link := rfl
  simp only [link]
  split
  · rfl
  cases s.emptySlot <;> cases s.linkBusy r.link
    <;> cases s.allInStep (s.spotTest r).participants <;> cases s.allPowered (s.spotTest r).participants
    <;> cases s.allCanTake (s.spotTest r).participants <;> simp

/-! ## The Filter List -/

theorem FilterElement.isMatch_iff (f : FilterElement) (r : ResultRecord) :
    f.isMatch r = true ↔ f.kinds.getLsbD r.kind.bit = true
      ∧ (f.type = .any ∨ ∃ id, r.link = some id
        ∧ ((f.type = .range ∧ f.id1.toNat ≤ id ∧ id ≤ f.id2.toNat)
          ∨ (f.type = .pair ∧ (id = f.id1.toNat ∨ id = f.id2.toNat))
          ∨ (f.type = .masked ∧ BitVec.ofNat 16 id &&& f.mask = f.id1 &&& f.mask))) := by
  unfold FilterElement.isMatch FilterElement.matchesLink
  cases f.type <;> cases r.link <;> simp

/-- The element that a record follows is the first that matches it (R145). -/
theorem firstMatch_eq_some (p : Plan) (r : ResultRecord) (i : Nat) :
    firstMatch p r = some i
      ↔ i < 32 ∧ (p.filter i).isMatch r = true ∧ ∀ j, j < i → (p.filter j).isMatch r = false := by
  simp [firstMatch, List.find?_range_eq_some, and_left_comm]

theorem firstMatch_eq_none (p : Plan) (r : ResultRecord) :
    firstMatch p r = none ↔ ∀ i, i < 32 → (p.filter i).isMatch r = false := by
  simp [firstMatch]

/-! ## Findings and the arbitration -/

/-- The combination is the first finding of the first group of the order that is present (R101). -/
theorem combine_eq_some (fs : List Finding) (f : Finding) :
    combine fs = some f ↔ ∃ before g after, worstFirst = before ++ g :: after
      ∧ fs.find? (fun x => x.outcome.group == g) = some f
      ∧ ∀ h ∈ before, fs.find? (fun x => x.outcome.group == h) = none := by
  simp [combine, List.findSome?_eq_some_iff]

theorem foldl_min_le (l : List Nat) (a : Nat) : l.foldl min a ≤ a ∧ ∀ x ∈ l, l.foldl min a ≤ x := by
  induction l generalizing a with
  | nil => simp
  | cons b l ih =>
    have := ih (min a b)
    simp only [List.foldl_cons, List.mem_cons]
    refine ⟨by omega, ?_⟩
    rintro x (rfl | hx)
    · omega
    · exact this.2 x hx

theorem foldl_min_mem (l : List Nat) (a : Nat) : l.foldl min a = a ∨ l.foldl min a ∈ l := by
  induction l generalizing a with
  | nil => simp
  | cons b l ih =>
    simp only [List.foldl_cons, List.mem_cons]
    rcases ih (min a b) with h | h
    · rw [h]; omega
    · exact Or.inr (Or.inr h)

/-- No contender has a lower code than the winner's (R107). -/
theorem winnerCode_le (ps : List Participant) (p : Participant) (code : Nat) (hp : p ∈ ps)
    (hr : p.role = .contender) (hc : p.code = some code) : winnerCode ps ≤ code := by
  apply (foldl_min_le _ 63).2
  simp only [List.mem_filterMap, List.mem_filter]
  exact ⟨p, ⟨hp, by simp [hr]⟩, hc⟩

/-- The winner's code is 63 or a contender's (R107). -/
theorem winnerCode_mem (ps : List Participant) :
    winnerCode ps = 63 ∨ ∃ p ∈ ps, p.role = .contender ∧ p.code = some (winnerCode ps) := by
  rcases foldl_min_mem ((ps.filter (·.role == .contender)).filterMap (·.code)) 63 with h | h
  · exact Or.inl h
  · right
    simp only [List.mem_filterMap, List.mem_filter, beq_iff_eq] at h
    obtain ⟨p, ⟨hp, hr⟩, hc⟩ := h
    exact ⟨p, hp, hr, hc⟩

/-- Two codes differ first at the highest position at which they differ (R107). -/
theorem lossPosition_eq (a b first : Nat) (hf : first ≤ 5) (hne : a.testBit first ≠ b.testBit first)
    (above : ∀ j, first < j → j ≤ 5 → a.testBit j = b.testBit j) : lossPosition a b = first := by
  unfold lossPosition
  have one : ∀ j, first < j → j ≤ 5 → (a.testBit j != b.testBit j) = false := fun j h h' => by
    simp [above j h h']
  have two : (a.testBit first != b.testBit first) = true := by simpa using hne
  have cases : first = 0 ∨ first = 1 ∨ first = 2 ∨ first = 3 ∨ first = 4 ∨ first = 5 := by omega
  rcases cases with rfl | rfl | rfl | rfl | rfl | rfl <;> simp [List.find?, one, two, -Nat.testBit_zero]

end Sys2Proof.Machine
end

