-- ==== Sys2Proof/Laws/FrameCommands.lean ====
section
/-! SUPPORT. Laws/FrameCommands.lean: which fields of the state the effects of the commands leave as they are. -/

namespace Sys2Proof.Machine

/-- `deadlineEvent` changes at most the timer, the engine, the links, the router, the port, the
plans, the Spot Queue and the registry. -/
@[simp] theorem deadlineEvent_frame (k : Fin 8) (u : BitVec 4) (s : State) :
    (deadlineEvent k u s).pending = s.pending ∧ (deadlineEvent k u s).freeCount = s.freeCount ∧
    (deadlineEvent k u s).clock = s.clock ∧ (deadlineEvent k u s).store = s.store := by
  simp only [deadlineEvent]
  (repeat' split) <;> simp

/-- `closeAll` changes at most the timer, the engine, the links, the router, the port, the plans,
the Spot Queue, the registry and the free counter. -/
@[simp] theorem closeAll_frame (n : Nat) (s : State) :
    (closeAll n s).pending = s.pending ∧ (closeAll n s).clock = s.clock ∧
    (closeAll n s).store = s.store := by
  induction n generalizing s with
  | zero => simp [closeAll]
  | succ n ih =>
    simp only [closeAll]
    (repeat' split) <;> simp [ih]

/-- `tick` changes at most the clock and the timer. -/
@[simp] theorem tick_frame (s : State) :
    (tick s).pending = s.pending ∧ (tick s).freeCount = s.freeCount ∧ (tick s).engine = s.engine ∧
    (tick s).registry = s.registry ∧ (tick s).links = s.links ∧ (tick s).spot = s.spot ∧
    (tick s).router = s.router ∧ (tick s).plans = s.plans ∧ (tick s).store = s.store ∧
    (tick s).port = s.port := by
  simp only [tick]
  (repeat' split) <;> simp

/-- `limitEvent` changes at most the clock, the timer, the engine, the links, the router, the port, the
plans, the Spot Queue, the registry and the free counter. -/
@[simp] theorem limitEvent_frame (s : State) :
    (limitEvent s).pending = s.pending ∧ (limitEvent s).clock = (tick s).clock ∧
    (limitEvent s).store = s.store := by
  simp [limitEvent]

/-- `freshClear` changes at most the links, the router and the port. -/
@[simp] theorem freshClear_frame (b : Byte) (s : State) :
    (freshClear b s).pending = s.pending ∧ (freshClear b s).freeCount = s.freeCount ∧
    (freshClear b s).clock = s.clock ∧ (freshClear b s).timer = s.timer ∧
    (freshClear b s).engine = s.engine ∧ (freshClear b s).registry = s.registry ∧
    (freshClear b s).spot = s.spot ∧ (freshClear b s).plans = s.plans ∧
    (freshClear b s).store = s.store := by
  simp only [freshClear]
  (repeat' split) <;> simp

/-- `beginRun` changes at most the links, the router, the port, the timer and the registry. -/
@[simp] theorem beginRun_frame (b : Byte) (s : State) :
    (beginRun b s).pending = s.pending ∧ (beginRun b s).freeCount = s.freeCount ∧
    (beginRun b s).clock = s.clock ∧ (beginRun b s).engine = s.engine ∧
    (beginRun b s).spot = s.spot ∧ (beginRun b s).plans = s.plans ∧
    (beginRun b s).store = s.store := by
  simp [beginRun]

/-- `discardOpenSteps` changes at most the engine, the registry, the Spot Queue, the router and
the port. -/
@[simp] theorem discardOpenSteps_frame (s : State) :
    (discardOpenSteps s).pending = s.pending ∧ (discardOpenSteps s).freeCount = s.freeCount ∧
    (discardOpenSteps s).clock = s.clock ∧ (discardOpenSteps s).timer = s.timer ∧
    (discardOpenSteps s).links = s.links ∧ (discardOpenSteps s).plans = s.plans ∧
    (discardOpenSteps s).store = s.store := by
  simp [discardOpenSteps]

/-- `setWithdrawn` changes at most the links. -/
@[simp] theorem setWithdrawn_frame (i : Nat) (b : Bool) (s : State) :
    (setWithdrawn i b s).pending = s.pending ∧ (setWithdrawn i b s).freeCount = s.freeCount ∧
    (setWithdrawn i b s).clock = s.clock ∧ (setWithdrawn i b s).timer = s.timer ∧
    (setWithdrawn i b s).engine = s.engine ∧ (setWithdrawn i b s).registry = s.registry ∧
    (setWithdrawn i b s).spot = s.spot ∧ (setWithdrawn i b s).router = s.router ∧
    (setWithdrawn i b s).plans = s.plans ∧ (setWithdrawn i b s).store = s.store ∧
    (setWithdrawn i b s).port = s.port := by
  simp only [setWithdrawn]
  (repeat' split) <;> simp

/-- `withdrawOpen` changes at most the engine. -/
@[simp] theorem withdrawOpen_frame (i : Nat) (s : State) :
    (withdrawOpen i s).pending = s.pending ∧ (withdrawOpen i s).freeCount = s.freeCount ∧
    (withdrawOpen i s).clock = s.clock ∧ (withdrawOpen i s).timer = s.timer ∧
    (withdrawOpen i s).registry = s.registry ∧ (withdrawOpen i s).links = s.links ∧
    (withdrawOpen i s).spot = s.spot ∧ (withdrawOpen i s).router = s.router ∧
    (withdrawOpen i s).plans = s.plans ∧ (withdrawOpen i s).store = s.store ∧
    (withdrawOpen i s).port = s.port := by
  simp only [withdrawOpen]
  (repeat' split) <;> simp

/-- `withdrawLink` changes at most the links, the engine, the Spot Queue, the router and the port.
-/
@[simp] theorem withdrawLink_frame (i : Nat) (s : State) :
    (withdrawLink i s).pending = s.pending ∧ (withdrawLink i s).freeCount = s.freeCount ∧
    (withdrawLink i s).clock = s.clock ∧ (withdrawLink i s).timer = s.timer ∧
    (withdrawLink i s).registry = s.registry ∧ (withdrawLink i s).plans = s.plans ∧
    (withdrawLink i s).store = s.store := by
  simp only [withdrawLink]
  (repeat' split) <;> simp

/-- `startStoreOp` changes at most the store. -/
@[simp] theorem startStoreOp_frame (x : StoreOp) (s : State) :
    (startStoreOp x s).pending = s.pending ∧ (startStoreOp x s).freeCount = s.freeCount ∧
    (startStoreOp x s).clock = s.clock ∧ (startStoreOp x s).timer = s.timer ∧
    (startStoreOp x s).engine = s.engine ∧ (startStoreOp x s).registry = s.registry ∧
    (startStoreOp x s).links = s.links ∧ (startStoreOp x s).spot = s.spot ∧
    (startStoreOp x s).router = s.router ∧ (startStoreOp x s).plans = s.plans ∧
    (startStoreOp x s).port = s.port := by
  simp only [startStoreOp]
  (repeat' split) <;> simp

/-- `endStoreOp` changes at most the store and the port. -/
@[simp] theorem endStoreOp_frame (x : StoreOp) (b : Bool) (s : State) :
    (endStoreOp x b s).pending = s.pending ∧ (endStoreOp x b s).freeCount = s.freeCount ∧
    (endStoreOp x b s).clock = s.clock ∧ (endStoreOp x b s).timer = s.timer ∧
    (endStoreOp x b s).engine = s.engine ∧ (endStoreOp x b s).registry = s.registry ∧
    (endStoreOp x b s).links = s.links ∧ (endStoreOp x b s).spot = s.spot ∧
    (endStoreOp x b s).router = s.router ∧ (endStoreOp x b s).plans = s.plans := by
  simp [endStoreOp]

/-- `startFixtureWrite` changes at most the store and the registry. -/
@[simp] theorem startFixtureWrite_frame (w : Option CalWrite) (s : State) :
    (startFixtureWrite w s).pending = s.pending ∧ (startFixtureWrite w s).freeCount = s.freeCount ∧
    (startFixtureWrite w s).clock = s.clock ∧ (startFixtureWrite w s).timer = s.timer ∧
    (startFixtureWrite w s).engine = s.engine ∧ (startFixtureWrite w s).links = s.links ∧
    (startFixtureWrite w s).spot = s.spot ∧ (startFixtureWrite w s).router = s.router ∧
    (startFixtureWrite w s).plans = s.plans ∧ (startFixtureWrite w s).port = s.port := by
  simp [startFixtureWrite]

/-- `startSave` changes at most the store. -/
@[simp] theorem startSave_frame (l : Vector Byte 8) (n : Fin 4) (s : State) :
    (startSave l n s).pending = s.pending ∧ (startSave l n s).freeCount = s.freeCount ∧
    (startSave l n s).clock = s.clock ∧ (startSave l n s).timer = s.timer ∧
    (startSave l n s).engine = s.engine ∧ (startSave l n s).registry = s.registry ∧
    (startSave l n s).links = s.links ∧ (startSave l n s).spot = s.spot ∧
    (startSave l n s).router = s.router ∧ (startSave l n s).plans = s.plans ∧
    (startSave l n s).port = s.port := by
  simp [startSave]

/-- `startErase` changes at most the store. -/
@[simp] theorem startErase_frame (n : Fin 4) (s : State) :
    (startErase n s).pending = s.pending ∧ (startErase n s).freeCount = s.freeCount ∧
    (startErase n s).clock = s.clock ∧ (startErase n s).timer = s.timer ∧
    (startErase n s).engine = s.engine ∧ (startErase n s).registry = s.registry ∧
    (startErase n s).links = s.links ∧ (startErase n s).spot = s.spot ∧
    (startErase n s).router = s.router ∧ (startErase n s).plans = s.plans ∧
    (startErase n s).port = s.port := by
  simp [startErase]

/-- `saveEnd` changes at most the store and the port. -/
@[simp] theorem saveEnd_frame (n : Fin 4) (b : Bool) (s : State) :
    (saveEnd n b s).pending = s.pending ∧ (saveEnd n b s).freeCount = s.freeCount ∧
    (saveEnd n b s).clock = s.clock ∧ (saveEnd n b s).timer = s.timer ∧
    (saveEnd n b s).engine = s.engine ∧ (saveEnd n b s).registry = s.registry ∧
    (saveEnd n b s).links = s.links ∧ (saveEnd n b s).spot = s.spot ∧
    (saveEnd n b s).router = s.router ∧ (saveEnd n b s).plans = s.plans := by
  simp [saveEnd]

/-- `eraseEnd` changes at most the store and the port. -/
@[simp] theorem eraseEnd_frame (n : Fin 4) (b : Bool) (s : State) :
    (eraseEnd n b s).pending = s.pending ∧ (eraseEnd n b s).freeCount = s.freeCount ∧
    (eraseEnd n b s).clock = s.clock ∧ (eraseEnd n b s).timer = s.timer ∧
    (eraseEnd n b s).engine = s.engine ∧ (eraseEnd n b s).registry = s.registry ∧
    (eraseEnd n b s).links = s.links ∧ (eraseEnd n b s).spot = s.spot ∧
    (eraseEnd n b s).router = s.router ∧ (eraseEnd n b s).plans = s.plans := by
  simp only [eraseEnd]
  (repeat' split) <;> simp

/-- `lockEnd` changes at most the store and the port. -/
@[simp] theorem lockEnd_frame (n : Fin 4) (b : Bool) (s : State) :
    (lockEnd n b s).pending = s.pending ∧ (lockEnd n b s).freeCount = s.freeCount ∧
    (lockEnd n b s).clock = s.clock ∧ (lockEnd n b s).timer = s.timer ∧
    (lockEnd n b s).engine = s.engine ∧ (lockEnd n b s).registry = s.registry ∧
    (lockEnd n b s).links = s.links ∧ (lockEnd n b s).spot = s.spot ∧
    (lockEnd n b s).router = s.router ∧ (lockEnd n b s).plans = s.plans := by
  simp only [lockEnd]
  (repeat' split) <;> simp

/-- `loadEnd` changes at most the store, the port and the plans. -/
@[simp] theorem loadEnd_frame (n : Fin 4) (s : State) :
    (loadEnd n s).pending = s.pending ∧ (loadEnd n s).freeCount = s.freeCount ∧
    (loadEnd n s).clock = s.clock ∧ (loadEnd n s).timer = s.timer ∧
    (loadEnd n s).engine = s.engine ∧ (loadEnd n s).registry = s.registry ∧
    (loadEnd n s).links = s.links ∧ (loadEnd n s).spot = s.spot ∧
    (loadEnd n s).router = s.router := by
  simp [loadEnd]

/-- `settleCalStates` changes at most the registry. -/
@[simp] theorem settleCalStates_frame (b : Bool) (s : State) :
    (settleCalStates b s).pending = s.pending ∧ (settleCalStates b s).freeCount = s.freeCount ∧
    (settleCalStates b s).clock = s.clock ∧ (settleCalStates b s).timer = s.timer ∧
    (settleCalStates b s).engine = s.engine ∧ (settleCalStates b s).links = s.links ∧
    (settleCalStates b s).spot = s.spot ∧ (settleCalStates b s).router = s.router ∧
    (settleCalStates b s).plans = s.plans ∧ (settleCalStates b s).store = s.store ∧
    (settleCalStates b s).port = s.port := by
  simp only [settleCalStates]
  refine foldl_keeps (fun x : State =>
    x.pending = s.pending ∧ x.freeCount = s.freeCount ∧ x.clock = s.clock ∧ x.timer = s.timer ∧
    x.engine = s.engine ∧ x.links = s.links ∧ x.spot = s.spot ∧ x.router = s.router ∧
    x.plans = s.plans ∧ x.store = s.store ∧ x.port = s.port) _ ?_ _ _ (by simp)
  intro b a h
  (repeat' split) <;> simp [h]

/-- `releaseSession` changes at most the registry and the port. -/
@[simp] theorem releaseSession_frame (s : State) :
    (releaseSession s).pending = s.pending ∧ (releaseSession s).freeCount = s.freeCount ∧
    (releaseSession s).clock = s.clock ∧ (releaseSession s).timer = s.timer ∧
    (releaseSession s).engine = s.engine ∧ (releaseSession s).links = s.links ∧
    (releaseSession s).spot = s.spot ∧ (releaseSession s).router = s.router ∧
    (releaseSession s).plans = s.plans ∧ (releaseSession s).store = s.store := by
  simp only [releaseSession]
  (repeat' split) <;> simp

/-- `fixtureWriteEnd` changes at most the registry, the port and the store. -/
@[simp] theorem fixtureWriteEnd_frame (b : Bool) (s : State) :
    (fixtureWriteEnd b s).pending = s.pending ∧ (fixtureWriteEnd b s).freeCount = s.freeCount ∧
    (fixtureWriteEnd b s).clock = s.clock ∧ (fixtureWriteEnd b s).timer = s.timer ∧
    (fixtureWriteEnd b s).engine = s.engine ∧ (fixtureWriteEnd b s).links = s.links ∧
    (fixtureWriteEnd b s).spot = s.spot ∧ (fixtureWriteEnd b s).router = s.router ∧
    (fixtureWriteEnd b s).plans = s.plans := by
  simp [fixtureWriteEnd]

/-- `beginCalWrite` changes at most the registry and the store. -/
@[simp] theorem beginCalWrite_frame (w : CalWrite) (s : State) :
    (beginCalWrite w s).pending = s.pending ∧ (beginCalWrite w s).freeCount = s.freeCount ∧
    (beginCalWrite w s).clock = s.clock ∧ (beginCalWrite w s).timer = s.timer ∧
    (beginCalWrite w s).engine = s.engine ∧ (beginCalWrite w s).links = s.links ∧
    (beginCalWrite w s).spot = s.spot ∧ (beginCalWrite w s).router = s.router ∧
    (beginCalWrite w s).plans = s.plans ∧ (beginCalWrite w s).port = s.port := by
  simp [beginCalWrite]

/-- `acceptCandidates` changes at most the registry and the store. -/
@[simp] theorem acceptCandidates_frame (x : Selection) (s : State) :
    (acceptCandidates x s).pending = s.pending ∧ (acceptCandidates x s).freeCount = s.freeCount ∧
    (acceptCandidates x s).clock = s.clock ∧ (acceptCandidates x s).timer = s.timer ∧
    (acceptCandidates x s).engine = s.engine ∧ (acceptCandidates x s).links = s.links ∧
    (acceptCandidates x s).spot = s.spot ∧ (acceptCandidates x s).router = s.router ∧
    (acceptCandidates x s).plans = s.plans ∧ (acceptCandidates x s).port = s.port := by
  have h := foldl_keeps (fun x : State =>
    x.pending = s.pending ∧ x.freeCount = s.freeCount ∧ x.clock = s.clock ∧ x.timer = s.timer ∧
    x.engine = s.engine ∧ x.links = s.links ∧ x.spot = s.spot ∧ x.router = s.router ∧
    x.plans = s.plans ∧ x.port = s.port) (fun y c => putCandidate x c y)
    (by intro b a h; simpa using h) s.registry.session.captures s (by simp)
  simp [acceptCandidates, h]

/-- `revertCoefficients` changes at most the registry and the store. -/
@[simp] theorem revertCoefficients_frame (w : CalWrite) (s : State) :
    (revertCoefficients w s).pending = s.pending ∧
    (revertCoefficients w s).freeCount = s.freeCount ∧ (revertCoefficients w s).clock = s.clock ∧
    (revertCoefficients w s).timer = s.timer ∧ (revertCoefficients w s).engine = s.engine ∧
    (revertCoefficients w s).links = s.links ∧ (revertCoefficients w s).spot = s.spot ∧
    (revertCoefficients w s).router = s.router ∧ (revertCoefficients w s).plans = s.plans ∧
    (revertCoefficients w s).port = s.port := by
  have h := foldl_keeps (fun x : State =>
    x.pending = s.pending ∧ x.freeCount = s.freeCount ∧ x.clock = s.clock ∧ x.timer = s.timer ∧
    x.engine = s.engine ∧ x.links = s.links ∧ x.spot = s.spot ∧ x.router = s.router ∧
    x.plans = s.plans ∧ x.port = s.port) (fun y n => y.mapProbe n fun e => e.mapCoeff w.ranges fun _ => Coeff.default)
    (by intro b a h; simpa using h) w.slots s (by simp)
  simp [revertCoefficients, h]

/-- `hearProbe` changes at most the registry. -/
@[simp] theorem hearProbe_frame (n : Nat) (s : State) :
    (hearProbe n s).pending = s.pending ∧ (hearProbe n s).freeCount = s.freeCount ∧
    (hearProbe n s).clock = s.clock ∧ (hearProbe n s).timer = s.timer ∧
    (hearProbe n s).engine = s.engine ∧ (hearProbe n s).links = s.links ∧
    (hearProbe n s).spot = s.spot ∧ (hearProbe n s).router = s.router ∧
    (hearProbe n s).plans = s.plans ∧ (hearProbe n s).store = s.store ∧
    (hearProbe n s).port = s.port := by
  simp only [hearProbe]
  (repeat' split) <;> simp

/-- `discardFrame` changes at most the registry. -/
@[simp] theorem discardFrame_frame (n : Nat) (s : State) :
    (discardFrame n s).pending = s.pending ∧ (discardFrame n s).freeCount = s.freeCount ∧
    (discardFrame n s).clock = s.clock ∧ (discardFrame n s).timer = s.timer ∧
    (discardFrame n s).engine = s.engine ∧ (discardFrame n s).links = s.links ∧
    (discardFrame n s).spot = s.spot ∧ (discardFrame n s).router = s.router ∧
    (discardFrame n s).plans = s.plans ∧ (discardFrame n s).store = s.store ∧
    (discardFrame n s).port = s.port := by
  simp only [discardFrame]
  (repeat' split) <;> simp

/-- `helloSetup` changes at most the registry and the store. -/
@[simp] theorem helloSetup_frame (n : Nat) (s : State) :
    (helloSetup n s).pending = s.pending ∧ (helloSetup n s).freeCount = s.freeCount ∧
    (helloSetup n s).clock = s.clock ∧ (helloSetup n s).timer = s.timer ∧
    (helloSetup n s).engine = s.engine ∧ (helloSetup n s).links = s.links ∧
    (helloSetup n s).spot = s.spot ∧ (helloSetup n s).router = s.router ∧
    (helloSetup n s).plans = s.plans ∧ (helloSetup n s).port = s.port := by
  simp only [helloSetup]
  (repeat' split) <;> simp

/-- `probeChanged` changes at most the timer, the engine, the links, the router, the port, the
Spot Queue and the registry. -/
@[simp] theorem probeChanged_frame (n : Nat) (e : ProbeEntry) (s : State) :
    (probeChanged n e s).pending = s.pending ∧ (probeChanged n e s).freeCount = s.freeCount ∧
    (probeChanged n e s).clock = s.clock ∧ (probeChanged n e s).plans = s.plans ∧
    (probeChanged n e s).store = s.store := by
  simp only [probeChanged]
  (repeat' split) <;> simp

/-- `takeHello` changes at most the timer, the engine, the links, the router, the port, the Spot
Queue, the registry and the store. -/
@[simp] theorem takeHello_frame (n : Nat) (w : Word) (c p : Byte) (s : State) :
    (takeHello n w c p s).pending = s.pending ∧ (takeHello n w c p s).freeCount = s.freeCount ∧
    (takeHello n w c p s).clock = s.clock ∧ (takeHello n w c p s).plans = s.plans := by
  simp [takeHello]

/-- `takeSetupAck` changes at most the registry, the router and the port. -/
@[simp] theorem takeSetupAck_frame (n : Nat) (s : State) :
    (takeSetupAck n s).pending = s.pending ∧ (takeSetupAck n s).freeCount = s.freeCount ∧
    (takeSetupAck n s).clock = s.clock ∧ (takeSetupAck n s).timer = s.timer ∧
    (takeSetupAck n s).engine = s.engine ∧ (takeSetupAck n s).links = s.links ∧
    (takeSetupAck n s).spot = s.spot ∧ (takeSetupAck n s).plans = s.plans ∧
    (takeSetupAck n s).store = s.store := by
  simp only [takeSetupAck]
  (repeat' split) <;> simp

/-- `takeMarkAck` changes at most the registry, the router and the port. -/
@[simp] theorem takeMarkAck_frame (n : Nat) (w : Word) (s : State) :
    (takeMarkAck n w s).pending = s.pending ∧ (takeMarkAck n w s).freeCount = s.freeCount ∧
    (takeMarkAck n w s).clock = s.clock ∧ (takeMarkAck n w s).timer = s.timer ∧
    (takeMarkAck n w s).engine = s.engine ∧ (takeMarkAck n w s).links = s.links ∧
    (takeMarkAck n w s).spot = s.spot ∧ (takeMarkAck n w s).plans = s.plans ∧
    (takeMarkAck n w s).store = s.store := by
  simp only [takeMarkAck]
  (repeat' split) <;> simp

/-- `takeStatus` changes at most the timer, the engine, the links, the router, the port, the Spot
Queue and the registry. -/
@[simp] theorem takeStatus_frame (n : Nat) (p f c : Byte) (s : State) :
    (takeStatus n p f c s).pending = s.pending ∧ (takeStatus n p f c s).freeCount = s.freeCount ∧
    (takeStatus n p f c s).clock = s.clock ∧ (takeStatus n p f c s).plans = s.plans ∧
    (takeStatus n p f c s).store = s.store := by
  simp only [takeStatus]
  (repeat' split) <;> simp

/-- `takeTagged` changes at most the timer, the engine, the links, the router, the port, the
plans, the Spot Queue and the registry. -/
@[simp] theorem takeTagged_frame (n : Nat) (t : Byte) (r : Report) (s : State) :
    (takeTagged n t r s).pending = s.pending ∧ (takeTagged n t r s).freeCount = s.freeCount ∧
    (takeTagged n t r s).clock = s.clock ∧ (takeTagged n t r s).store = s.store := by
  simp only [takeTagged]
  (repeat' split) <;> simp

/-- `sendSpotAns` changes at most the registry and the store. -/
@[simp] theorem sendSpotAns_frame (n : Nat) (l : Half) (a : Byte) (s : State) :
    (sendSpotAns n l a s).pending = s.pending ∧ (sendSpotAns n l a s).freeCount = s.freeCount ∧
    (sendSpotAns n l a s).clock = s.clock ∧ (sendSpotAns n l a s).timer = s.timer ∧
    (sendSpotAns n l a s).engine = s.engine ∧ (sendSpotAns n l a s).links = s.links ∧
    (sendSpotAns n l a s).spot = s.spot ∧ (sendSpotAns n l a s).router = s.router ∧
    (sendSpotAns n l a s).plans = s.plans ∧ (sendSpotAns n l a s).port = s.port := by
  simp only [sendSpotAns]
  (repeat' split) <;> simp

/-- `takeSpotAsk` changes at most the Spot Queue, the registry and the store. -/
@[simp] theorem takeSpotAsk_frame (n : Nat) (l : Half) (r m : Byte) (s : State) :
    (takeSpotAsk n l r m s).pending = s.pending ∧ (takeSpotAsk n l r m s).freeCount = s.freeCount ∧
    (takeSpotAsk n l r m s).clock = s.clock ∧ (takeSpotAsk n l r m s).timer = s.timer ∧
    (takeSpotAsk n l r m s).engine = s.engine ∧ (takeSpotAsk n l r m s).links = s.links ∧
    (takeSpotAsk n l r m s).router = s.router ∧ (takeSpotAsk n l r m s).plans = s.plans ∧
    (takeSpotAsk n l r m s).port = s.port := by
  simp [takeSpotAsk]

/-- `takeSpotDrop` changes at most the Spot Queue, the router and the port. -/
@[simp] theorem takeSpotDrop_frame (n : Nat) (l : Half) (s : State) :
    (takeSpotDrop n l s).pending = s.pending ∧ (takeSpotDrop n l s).freeCount = s.freeCount ∧
    (takeSpotDrop n l s).clock = s.clock ∧ (takeSpotDrop n l s).timer = s.timer ∧
    (takeSpotDrop n l s).engine = s.engine ∧ (takeSpotDrop n l s).registry = s.registry ∧
    (takeSpotDrop n l s).links = s.links ∧ (takeSpotDrop n l s).plans = s.plans ∧
    (takeSpotDrop n l s).store = s.store := by
  simp only [takeSpotDrop]
  (repeat' split) <;> simp

/-- `softResetProbes` changes at most the registry. -/
@[simp] theorem softResetProbes_frame (s : State) :
    (softResetProbes s).pending = s.pending ∧ (softResetProbes s).freeCount = s.freeCount ∧
    (softResetProbes s).clock = s.clock ∧ (softResetProbes s).timer = s.timer ∧
    (softResetProbes s).engine = s.engine ∧ (softResetProbes s).links = s.links ∧
    (softResetProbes s).spot = s.spot ∧ (softResetProbes s).router = s.router ∧
    (softResetProbes s).plans = s.plans ∧ (softResetProbes s).store = s.store ∧
    (softResetProbes s).port = s.port := by
  simp only [softResetProbes]
  refine foldl_keeps (fun x : State =>
    x.pending = s.pending ∧ x.freeCount = s.freeCount ∧ x.clock = s.clock ∧ x.timer = s.timer ∧
    x.engine = s.engine ∧ x.links = s.links ∧ x.spot = s.spot ∧ x.router = s.router ∧
    x.plans = s.plans ∧ x.store = s.store ∧ x.port = s.port) _ ?_ _ _ (by simp)
  intro b a h
  (repeat' split) <;> simp [h]

/-- `emptyTransmit` changes at most the registry. -/
@[simp] theorem emptyTransmit_frame (s : State) :
    (emptyTransmit s).pending = s.pending ∧ (emptyTransmit s).freeCount = s.freeCount ∧
    (emptyTransmit s).clock = s.clock ∧ (emptyTransmit s).timer = s.timer ∧
    (emptyTransmit s).engine = s.engine ∧ (emptyTransmit s).links = s.links ∧
    (emptyTransmit s).spot = s.spot ∧ (emptyTransmit s).router = s.router ∧
    (emptyTransmit s).plans = s.plans ∧ (emptyTransmit s).store = s.store ∧
    (emptyTransmit s).port = s.port := by
  simp only [emptyTransmit]
  (repeat' split) <;> simp

/-- `softReset` changes at most the timer, the engine, the Spot Queue, the router, the plans, the
store, the port and the registry. -/
@[simp] theorem softReset_frame (s : State) :
    (softReset s).pending = s.pending ∧ (softReset s).freeCount = s.freeCount ∧
    (softReset s).clock = s.clock ∧ (softReset s).links = s.links := by
  simp [softReset, softResetBlocks]

/-- `loadStore` changes at most the store and the plans. -/
@[simp] theorem loadStore_frame (d : BitVec 4) (s : State) :
    (loadStore d s).pending = s.pending ∧ (loadStore d s).freeCount = s.freeCount ∧
    (loadStore d s).clock = s.clock ∧ (loadStore d s).timer = s.timer ∧
    (loadStore d s).engine = s.engine ∧ (loadStore d s).registry = s.registry ∧
    (loadStore d s).links = s.links ∧ (loadStore d s).spot = s.spot ∧
    (loadStore d s).router = s.router ∧ (loadStore d s).port = s.port := by
  simp only [loadStore]
  (repeat' split) <;> simp

/-- `loadProbe` changes at most the registry. -/
@[simp] theorem loadProbe_frame (n : Nat) (s : State) :
    (loadProbe n s).pending = s.pending ∧ (loadProbe n s).freeCount = s.freeCount ∧
    (loadProbe n s).clock = s.clock ∧ (loadProbe n s).timer = s.timer ∧
    (loadProbe n s).engine = s.engine ∧ (loadProbe n s).links = s.links ∧
    (loadProbe n s).spot = s.spot ∧ (loadProbe n s).router = s.router ∧
    (loadProbe n s).plans = s.plans ∧ (loadProbe n s).store = s.store ∧
    (loadProbe n s).port = s.port := by
  simp only [loadProbe]
  (repeat' split) <;> simp

/-- `loadBlocks` changes at most the registry and the links. -/
@[simp] theorem loadBlocks_frame (s : State) :
    (loadBlocks s).pending = s.pending ∧ (loadBlocks s).freeCount = s.freeCount ∧
    (loadBlocks s).clock = s.clock ∧ (loadBlocks s).timer = s.timer ∧
    (loadBlocks s).engine = s.engine ∧ (loadBlocks s).spot = s.spot ∧
    (loadBlocks s).router = s.router ∧ (loadBlocks s).plans = s.plans ∧
    (loadBlocks s).store = s.store ∧ (loadBlocks s).port = s.port := by
  have h := foldl_keeps (fun x : State =>
    x.pending = s.pending ∧ x.freeCount = s.freeCount ∧ x.clock = s.clock ∧ x.timer = s.timer ∧
    x.engine = s.engine ∧ x.spot = s.spot ∧ x.router = s.router ∧ x.plans = s.plans ∧
    x.store = s.store ∧ x.port = s.port) (fun x n => loadProbe n x)
    (by intro b a h; simpa using h) allSlots s (by simp)
  simp [loadBlocks, h]

/-- `sendHeld` changes at most the registry. -/
@[simp] theorem sendHeld_frame (m : HeldMessage) (s : State) :
    (sendHeld m s).pending = s.pending ∧ (sendHeld m s).freeCount = s.freeCount ∧
    (sendHeld m s).clock = s.clock ∧ (sendHeld m s).timer = s.timer ∧
    (sendHeld m s).engine = s.engine ∧ (sendHeld m s).links = s.links ∧
    (sendHeld m s).spot = s.spot ∧ (sendHeld m s).router = s.router ∧
    (sendHeld m s).plans = s.plans ∧ (sendHeld m s).store = s.store ∧
    (sendHeld m s).port = s.port := by
  cases m <;> simp [sendHeld]

/-- `releaseHeld` changes at most the registry and the store. -/
@[simp] theorem releaseHeld_frame (s : State) :
    (releaseHeld s).pending = s.pending ∧ (releaseHeld s).freeCount = s.freeCount ∧
    (releaseHeld s).clock = s.clock ∧ (releaseHeld s).timer = s.timer ∧
    (releaseHeld s).engine = s.engine ∧ (releaseHeld s).links = s.links ∧
    (releaseHeld s).spot = s.spot ∧ (releaseHeld s).router = s.router ∧
    (releaseHeld s).plans = s.plans ∧ (releaseHeld s).port = s.port := by
  simp only [releaseHeld]
  refine foldl_keeps (fun x : State =>
    x.pending = s.pending ∧ x.freeCount = s.freeCount ∧ x.clock = s.clock ∧ x.timer = s.timer ∧
    x.engine = s.engine ∧ x.links = s.links ∧ x.spot = s.spot ∧ x.router = s.router ∧
    x.plans = s.plans ∧ x.port = s.port) _ ?_ _ _ (by simp)
  intro b a h
  (repeat' split) <;> simp [h]

/-- `startUpEnd` changes at most the store, the plans, the registry, the links and the port. -/
@[simp] theorem startUpEnd_frame (d : BitVec 4) (s : State) :
    (startUpEnd d s).pending = s.pending ∧ (startUpEnd d s).freeCount = s.freeCount ∧
    (startUpEnd d s).clock = s.clock ∧ (startUpEnd d s).timer = s.timer ∧
    (startUpEnd d s).engine = s.engine ∧ (startUpEnd d s).spot = s.spot ∧
    (startUpEnd d s).router = s.router := by
  simp [startUpEnd]

end Sys2Proof.Machine
end

