-- ==== Sys2Proof/Laws/Grows.lean ====
section
/-! SUPPORT. Laws/Grows.lean: the operations of the blocks keep every list within its room and clear no
attention flag. -/

namespace Sys2Proof.Machine

/-- From `s` to `t`, lists within their room stay so, and a set flag stays set. -/
def State.Grows (s t : State) : Prop :=
  (s.withinCapacity → t.withinCapacity) ∧ ∀ f, s.port.isSet f = true → t.port.isSet f = true

namespace State.Grows

theorem refl (s : State) : s.Grows s := ⟨id, fun _ h => h⟩

theorem trans {a b c : State} (h : a.Grows b) (k : b.Grows c) : a.Grows c :=
  ⟨fun x => k.1 (h.1 x), fun f x => k.2 f (h.2 f x)⟩

/-- A change of fields that hold no list and no flag. -/
theorem of_same {s t : State} (hr : t.router = s.router) (hs : t.spot = s.spot)
    (hm : t.engine.merged = s.engine.merged) (hp : t.registry.ports = s.registry.ports)
    (hq : t.port = s.port) : s.Grows t := by
  refine ⟨fun h => ?_, fun f h => by rw [hq]; exact h⟩
  have hpend : t.pendingSteps = s.pendingSteps := by simp [State.pendingSteps, hm]
  have hport : ∀ n, t.portState n = s.portState n := by intro n; simp [State.portState, hp]
  unfold State.withinCapacity at *
  simp only [hr, hs, hpend, hport]
  exact h

/-- The same, with flags raised as well. -/
theorem of_raised {s t : State} (hr : t.router = s.router) (hs : t.spot = s.spot)
    (hm : t.engine.merged = s.engine.merged) (hp : t.registry.ports = s.registry.ports)
    (hq : ∀ f, s.port.isSet f = true → t.port.isSet f = true) : s.Grows t :=
  ⟨(of_same (t := { t with port := s.port }) hr hs hm hp rfl).1, hq⟩

theorem foldl {α : Type} (f : State → α → State) (h : ∀ (s : State) a, s.Grows (f s a)) (l : List α) (s : State) :
    s.Grows (l.foldl f s) :=
  foldl_keeps (fun t : State => s.Grows t) f (fun t a k => k.trans (h t a)) l s (refl s)

theorem raise (f : Flag) (s : State) : s.Grows (raise f s) := by
  refine of_raised rfl rfl rfl rfl ?_
  intro g h
  simp [Machine.raise, StationPort.isSet_raise, h]

theorem raiseIf (c : Bool) (f : Flag) (s : State) : s.Grows (raiseIf c f s) := by
  unfold Machine.raiseIf; split
  · exact raise f s
  · exact refl s

/-- A queue with a record offered stays within its room (R147, R148). -/
theorem offer_length (q : ResultQueue) (m : QueueMode) (r : ResultRecord) (h : q.records.length ≤ 64) :
    (q.offer m r).1.records.length ≤ 64 := by
  unfold ResultQueue.offer
  split
  · rename_i hl
    simp only [ResultQueue.place, List.length_append, List.length_singleton]
    simp only [Config.queueRoom] at hl
    omega
  · split
    · rename_i oldest rest ho
      simp only [ResultQueue.place, ResultQueue.lose, List.length_append, List.length_singleton]
      rw [ho] at h
      simpa using h
    · exact h

theorem offer (id : QueueId) (r : ResultRecord) (s : State) : s.Grows (offer id r s) := by
  have hq : s.Grows { s with
      router := s.router.setQueue id ((s.router.queue id).offer (s.params.mode id) r).1 } := by
    refine ⟨fun h => ?_, fun _ h => h⟩
    obtain ⟨h0, h1, h2, h3, h4⟩ := h
    refine ⟨?_, ?_, h2, h3, h4⟩
    · cases id
      · exact offer_length _ _ _ h0
      · exact h0
    · cases id
      · exact h1
      · exact offer_length _ _ _ h1
  unfold Machine.offer
  exact hq.trans ((raiseIf _ _ _).trans (raiseIf _ _ _))

theorem hand (r : ResultRecord) (s : State) : s.Grows (hand r s) := by
  unfold Machine.hand
  cases routeOf s.active r
  · exact offer _ _ s
  · exact offer _ _ s
  · exact refl s
  · exact (raise _ s).trans (offer _ _ _)
  · exact (raise _ s).trans (offer _ _ _)

theorem handAll (rs : List ResultRecord) (s : State) : s.Grows (handAll rs s) :=
  foldl _ (fun t r => hand r t) rs s

theorem setProbe (n : Nat) (e : ProbeEntry) (s : State) : s.Grows (s.setProbe n e) :=
  of_same rfl rfl rfl rfl rfl

theorem mapProbe (n : Nat) (f : ProbeEntry → ProbeEntry) (s : State) : s.Grows (s.mapProbe n f) :=
  of_same rfl rfl rfl rfl rfl

theorem setLink (i : Nat) (r : LinkRecord) (s : State) : s.Grows (s.setLink i r) :=
  of_same rfl rfl rfl rfl rfl

theorem setOpen (k : Fin 8) (o : Option OpenStep) (s : State) : s.Grows (s.setOpen k o) :=
  of_same rfl rfl rfl rfl rfl

theorem withTimer (t : SweepTimer) (s : State) : s.Grows (s.withTimer t) := of_same rfl rfl rfl rfl rfl

theorem withPlans (p : PlanMemory) (s : State) : s.Grows (s.withPlans p) := of_same rfl rfl rfl rfl rfl

theorem withStore (x : PlanStore) (s : State) : s.Grows (s.withStore x) := of_same rfl rfl rfl rfl rfl

theorem withSession (x : Session) (s : State) : s.Grows (s.withSession x) := of_same rfl rfl rfl rfl rfl

/-- A Spot Queue that is not longer. -/
theorem withSpot (q : List SpotRequest) (s : State) (h : s.spot.length ≤ 8 → q.length ≤ 8) :
    s.Grows (s.withSpot q) := by
  refine ⟨fun k => ?_, fun _ k => k⟩
  obtain ⟨h0, h1, h2, h3, h4⟩ := k
  exact ⟨h0, h1, h h2, h3, h4⟩

/-- A merged window whose pending list is within its room. -/
theorem withEngine (e : StepEngine) (s : State)
    (h : s.pendingSteps.length ≤ 3 → (s.withEngine e).pendingSteps.length ≤ 3) :
    s.Grows (s.withEngine e) := by
  refine ⟨fun k => ?_, fun _ k => k⟩
  obtain ⟨h0, h1, h2, h3, h4⟩ := k
  exact ⟨h0, h1, h2, h h3, h4⟩

theorem hand_length (p : PortState) (m : Message) (h : p.transmit.length ≤ 16) :
    (p.hand m).transmit.length ≤ 16 := by
  unfold PortState.hand
  split
  · rename_i hl
    simp only [Config.transmitRoom] at hl
    simp only [List.length_append, List.length_singleton]
    omega
  · exact h

theorem setPortState (n : Nat) (p : PortState) (s : State)
    (h : (s.portState n).transmit.length ≤ 16 → p.transmit.length ≤ 16) : s.Grows (s.setPortState n p) := by
  refine ⟨fun k => ?_, fun _ k => k⟩
  obtain ⟨h0, h1, h2, h3, h4⟩ := k
  refine ⟨h0, h1, h2, h3, fun m => ?_⟩
  rw [State.portState_setPortState]
  split
  · exact h (h4 n)
  · exact h4 m

theorem send (n : Nat) (m : Message) (s : State) : s.Grows (send n m s) :=
  setPortState n _ s (hand_length _ m)

theorem parkAll (s : State) : s.Grows (parkAll s) := by
  refine foldl _ ?_ _ s
  intro t n
  split
  · exact refl t
  · exact send _ _ t

theorem sendSetup (n : Nat) (s : State) : s.Grows (sendSetup n s) := (send _ _ s).trans (mapProbe _ _ _)

/-! ## Windows -/

theorem countNotStarted (i : Nat) (s : State) : s.Grows (countNotStarted i s) := by
  unfold Machine.countNotStarted; split
  · exact setLink _ _ s
  · exact refl s

theorem notStarted (i : Nat) (e : StepEntry) (w : NotStarted) (s : State) :
    s.Grows (notStarted i e w s) := by
  unfold Machine.notStarted
  dsimp only
  split
  · exact (countNotStarted _ s).trans ((withTimer _ _).trans (hand _ _))
  · exact (countNotStarted _ s).trans (withTimer _ _)

theorem discardWindows (s : State) : s.Grows (discardWindows s) :=
  withEngine _ s (fun _ => Nat.zero_le _)

theorem closeWindows (s : State) : s.Grows (closeWindows s) :=
  (foldl _ (fun t (p : PendingStep) => notStarted p.index p.entry .windowClosed t) _ s).trans
    (discardWindows _)

theorem endSweep (s : State) : s.Grows (endSweep s) := (closeWindows s).trans (withTimer _ _)

/-! ## Registry and Spot Queue -/

theorem changeState (n : Nat) (st : ProbeState) (s : State) : s.Grows (changeState n st s) := by
  unfold Machine.changeState
  split
  · exact refl s
  · exact (mapProbe _ _ s).trans ((raise _ _).trans (hand _ _))

theorem endAssignment (t : Tag) (n : Nat) (s : State) : s.Grows (endAssignment t n s) := mapProbe _ _ s

theorem stray (n : Nat) (s : State) : s.Grows (stray n s) := mapProbe _ _ s

theorem spotDone (r : SpotRequest) (e : Ending) (b : Bool) (s : State) : s.Grows (spotDone r e b s) :=
  (hand _ s).trans (raise _ _)

theorem filter_length {α : Type} (p : α → Bool) (l : List α) (k : Nat) (h : l.length ≤ k) :
    (l.filter p).length ≤ k := Nat.le_trans (List.length_filter_le p l) h

theorem arrive (q : Option Nat) (l n : Nat) (m : Byte) (s : State) : s.Grows (arrive q l n m s) := by
  unfold Machine.arrive
  split
  · rename_i ha
    refine withSpot _ s (fun _ => ?_)
    have : s.spot.length < 8 := by
      unfold State.arrival at ha
      repeat' split at ha
      all_goals first
        | (rename_i hl; exact hl)
        | exact absurd ha (by simp)
    simp only [List.length_append, List.length_singleton]
    omega
  · exact refl s

theorem cancelSpot (r : SpotRequest) (s : State) : s.Grows (cancelSpot r s) := by
  unfold Machine.cancelSpot
  split
  · split
    · exact refl s
    · exact withSpot _ s (fun h => by simpa [markEnd] using h)
  · exact (withSpot _ s (fun h => filter_length _ _ _ h)).trans (spotDone _ _ _ _)

theorem withdrawSpot (l : Nat) (s : State) : s.Grows (withdrawSpot l s) := by
  unfold Machine.withdrawSpot
  split
  · exact refl s
  · split
    · exact withSpot _ s (fun h => by simpa [markEnd] using h)
    · exact (withSpot _ s (fun h => filter_length _ _ _ h)).trans (spotDone _ _ _ _)

theorem installSpot (s : State) : s.Grows (installSpot s) := by
  unfold Machine.installSpot
  dsimp only
  refine (withSpot _ s (fun h => ?_)).trans (foldl _ (fun t r => spotDone r _ _ t) _ _)
  rw [List.length_map]
  exact filter_length _ _ _ h

theorem spotClosure (t : Tag) (g : OutcomeGroup) (b : Bool) (s : State) :
    s.Grows (spotClosure t g b s) := by
  unfold Machine.spotClosure
  split
  · exact refl s
  · dsimp only
    split
    · exact (withSpot _ s (fun h => filter_length _ _ _ h)).trans (spotDone _ _ _ _)
    · split
      · exact (withSpot _ s (fun h => filter_length _ _ _ h)).trans (spotDone _ _ _ _)
      · exact withSpot _ s (fun h => by simpa using h)

theorem spotHandBack (s : State) : s.Grows (spotHandBack s) := by
  unfold Machine.spotHandBack
  split
  · exact refl s
  · dsimp only
    split
    · exact (withSpot _ s (fun h => filter_length _ _ _ h)).trans (spotDone _ _ _ _)
    · exact withSpot _ s (fun h => by simpa using h)

/-! ## Installations -/

theorem freshen (i : Nat) (r : LinkRecord) (s : State) : s.Grows (freshen i r s) := by
  unfold Machine.freshen
  dsimp only
  split
  · exact setLink _ _ s
  · exact (setLink _ _ s).trans (hand _ _)

theorem clearLink (i : Nat) (s : State) : s.Grows (clearLink i s) := freshen _ _ s

theorem clearAllLinks (s : State) : s.Grows (clearAllLinks s) := by
  unfold Machine.clearAllLinks
  refine foldl _ ?_ _ s
  intro t i
  split
  · exact clearLink i t
  · exact refl t

theorem installLinks (old : Plan) (s : State) : s.Grows (installLinks old s) := by
  unfold Machine.installLinks
  refine foldl _ ?_ _ s
  intro t i
  unfold installLink
  dsimp only
  (repeat' split)
  · exact setLink _ _ t
  · exact refl t
  · exact setLink _ _ t
  · exact refl t
  · exact freshen _ _ t

theorem installLevel (old : Params) (id : QueueId) (s : State) : s.Grows (installLevel old id s) :=
  raiseIf _ _ s

theorem installProbes (old : Params) (s : State) : s.Grows (installProbes old s) := by
  refine foldl _ ?_ _ s
  intro t n
  unfold installProbe
  dsimp only
  split
  · exact (mapProbe _ _ t).trans (sendSetup _ _)
  · exact mapProbe _ _ t

theorem install (s : State) : s.Grows (install s) := by
  rw [install_eq]
  exact (withPlans _ s).trans ((installLevel _ _ _).trans ((installLevel _ _ _).trans
    ((installLinks _ _).trans ((installSpot _).trans (installProbes _ _)))))

theorem installPending (s : State) : s.Grows (installPending s) := by
  unfold Machine.installPending
  split
  · exact (withPlans _ s).trans ((install _).trans (raise _ _))
  · exact refl s

/-! ## The run -/

theorem setRun (r : RunState) (s : State) : s.Grows (s.setRun r) := withTimer _ s

theorem setHealth (h : Health) (s : State) : s.Grows (setHealth h s) := by
  unfold Machine.setHealth
  split
  · exact refl s
  · exact (withTimer _ s).trans (raise _ _)

theorem enterPaused (s : State) : s.Grows (enterPaused s) :=
  (setRun _ s).trans ((parkAll _).trans (raise _ _))

theorem stopProbes (s : State) : s.Grows (stopProbes s) := by
  refine foldl _ ?_ _ s
  intro t n
  unfold stopProbe
  dsimp only
  split
  · exact (mapProbe _ _ t).trans ((mapProbe _ _ _).trans (changeState _ _ _))
  · exact mapProbe _ _ t

theorem enterStopped (s : State) : s.Grows (enterStopped s) :=
  (endSweep s).trans ((setRun _ _).trans ((installPending _).trans ((parkAll _).trans
    ((stopProbes _).trans (raise _ _)))))

theorem timerStop (s : State) : s.Grows (timerStop s) := (endSweep s).trans (parkAll _)

theorem enterHalted (s : State) : s.Grows (enterHalted s) :=
  (setHealth _ s).trans ((setRun _ _).trans (raise _ _))

theorem quorumWatch (b : Bool) (s : State) : s.Grows (quorumWatch b s) := by
  unfold Machine.quorumWatch
  dsimp only
  (repeat' split)
  · exact (enterHalted s).trans (timerStop _)
  · exact enterHalted s
  · exact refl s

theorem reportEmpty (s : State) : s.Grows (reportEmpty s) := by
  unfold Machine.reportEmpty
  (repeat' split)
  · exact enterPaused s
  · exact enterStopped s
  · exact timerStop s
  · exact refl s
  · exact refl s
  · exact refl s
  · exact refl s
  · exact refl s

/-! ## Starts and examinations -/

theorem assign (t : Tag) (x : TestPlan) (b : Nat) (p : Participant) (s : State) :
    s.Grows (assign t x b p s) := (mapProbe _ _ s).trans (send _ _ _)

theorem takeSlot (k : Fin 8) (o : OpenStep) (s : State) : s.Grows (takeSlot k o s) := by
  unfold Machine.takeSlot
  exact (withEngine { s.engine with turns := Tab.put s.engine.turns k.val (s.turn k + 1) } s
    (fun h => h)).trans (setOpen k (some o) _)

theorem startTest (k : Fin 8) (x : TestPlan) (s : State) : s.Grows (startTest k x s) :=
  (takeSlot _ _ s).trans (foldl _ (fun t p => assign _ _ _ p t) _ _)

theorem setMerged (w : MergedWindow) (s : State)
    (h : s.pendingSteps.length ≤ 3 → w.pending.length ≤ 3) : s.Grows (s.setMerged w) :=
  withEngine _ s h

theorem examineMerged : ∀ (fuel : Nat) (s : State), s.Grows (examineMerged fuel s)
  | 0, s => refl s
  | fuel + 1, s => by
    unfold Machine.examineMerged
    split
    · exact refl s
    · rename_i w hw
      split
      · exact refl s
      · rename_i p rest hp
        have hlen : s.pendingSteps.length ≤ 3 → rest.length ≤ 3 := by
          intro h
          simp only [State.pendingSteps, hw, hp, List.length_cons] at h
          omega
        dsimp only
        split
        · exact refl s
        · exact ((setMerged _ s hlen).trans (notStarted _ _ _ _)).trans (examineMerged fuel _)
        · exact ((setMerged _ s hlen).trans (startTest _ _ _)).trans (examineMerged fuel _)

theorem examineFree (s : State) : s.Grows (examineFree s) := by
  unfold Machine.examineFree
  split
  · rename_i w r rest hw hs
    dsimp only
    (repeat' split)
    · exact refl s
    · exact refl s
    · exact refl s
    · exact withEngine _ s id
    · exact refl s
    · refine (withSpot _ s (fun h => ?_)).trans (startTest _ _ _)
      rw [hs] at h ⊢
      simpa [markInFlight] using h
  · exact refl s

theorem examine (s : State) : s.Grows (examine s) := by
  unfold Machine.examine
  split
  · exact (examineMerged _ s).trans (examineFree _)
  · exact refl s

/-! ## Closures and reports -/

theorem judgeLink (o : OpenStep) (f : Finding) (s : State) : s.Grows (judgeLink o f s) := by
  unfold Machine.judgeLink
  split
  · exact refl s
  · exact setLink _ _ s

theorem quietChecks (o : OpenStep) (f : Finding) (s : State) : s.Grows (quietChecks o f s).1 :=
  of_same (by simp) (by simp) (by simp) (by simp) (by simp)

theorem judgeClosed (t : Tag) (o : OpenStep) (s : State) : s.Grows (judgeClosed t o s) := by
  unfold Machine.judgeClosed
  dsimp only
  split
  · exact (judgeLink _ _ s).trans ((quietChecks _ _ _).trans (handAll _ _))
  · exact ((judgeLink _ _ s).trans ((quietChecks _ _ _).trans (handAll _ _))).trans
      (spotClosure _ _ _ _)

theorem leaveInStep (b : Bool) (n : Nat) (s : State) : s.Grows (leaveInStep b n s) :=
  (mapProbe _ _ s).trans (quorumWatch _ _)

theorem loseProbe (b : Bool) (n : Nat) (s : State) : s.Grows (loseProbe b n s) := by
  unfold Machine.loseProbe
  dsimp only
  split
  · exact (changeState _ _ s).trans (leaveInStep _ _ _)
  · exact changeState _ _ s

theorem addMiss (b : Bool) (n : Nat) (s : State) : s.Grows (addMiss b n s) := by
  unfold Machine.addMiss
  dsimp only
  split
  · exact (mapProbe _ _ s).trans (loseProbe _ _ _)
  · exact mapProbe _ _ s

theorem countMissing (p : Participant) (s : State) : s.Grows (countMissing p s) := by
  unfold Machine.countMissing
  split
  · exact addMiss _ _ s
  · exact refl s

theorem freeSlot (k : Fin 8) (s : State) : s.Grows (freeSlot k s) := by
  unfold Machine.freeSlot
  dsimp only
  split
  · rename_i w hw
    split
    · refine (setOpen _ _ s).trans (setMerged _ _ (fun h => ?_))
      simpa only [State.pendingSteps, hw] using h
    · exact setOpen _ _ s
  · exact setOpen _ _ s

theorem closeStep (k : Fin 8) (o : OpenStep) (s : State) : s.Grows (closeStep k o s) := by
  unfold Machine.closeStep
  dsimp only
  exact (foldl _ (fun t p => countMissing p t) _ s).trans
    ((foldl _ (fun t (p : Participant) => endAssignment _ p.slot t) _ _).trans
      ((judgeClosed _ _ _).trans ((freeSlot _ _).trans ((examine _).trans (reportEmpty _)))))

theorem takeReport (n : Nat) (t : Tag) (r : Report) (s : State) : s.Grows (takeReport n t r s) := by
  unfold Machine.takeReport
  split
  · unfold acceptReport
    dsimp only
    split
    · exact (setOpen _ _ s).trans ((mapProbe _ _ _).trans ((endAssignment _ _ _).trans
        (closeStep _ _ _)))
    · exact (setOpen _ _ s).trans ((mapProbe _ _ _).trans ((endAssignment _ _ _).trans (examine _)))
  · exact stray n s

/-! ## Sweep starts, marks, deadlines -/

theorem settleMarks (b : Bool) (s : State) : s.Grows (settleMarks b s) := by
  refine foldl _ ?_ _ s
  intro t n
  unfold settleMark
  dsimp only
  (repeat' split)
  · exact refl t
  · exact (mapProbe _ _ t).trans (addMiss _ _ _)
  · exact mapProbe _ _ t

theorem sendMarks (s : State) : s.Grows (sendMarks s) := by
  refine foldl _ ?_ _ s
  intro t n
  unfold sendMark
  split
  · exact (send _ _ t).trans (mapProbe _ _ _)
  · exact refl t

theorem enterRunning (s : State) : s.Grows (enterRunning s) := (setRun _ s).trans (raise _ _)

theorem sweepJudgement (b : RunState) (s : State) : s.Grows (sweepJudgement b s) := by
  unfold Machine.sweepJudgement
  split
  · unfold syncJudgement
    dsimp only
    (repeat' split)
    · exact enterRunning s
    · exact refl s
    · exact enterRunning s
    · exact (withTimer _ s).trans (enterHalted _)
  · split
    · exact setHealth _ s
    · exact refl s
  · exact refl s

theorem installAtSweepStart (s : State) : s.Grows (installAtSweepStart s) := by
  unfold Machine.installAtSweepStart
  split
  · exact (installPending s).trans (quorumWatch _ _)
  · exact refl s

theorem stopIfHalted (s : State) : s.Grows (stopIfHalted s) := by
  unfold Machine.stopIfHalted
  split
  · exact timerStop s
  · exact refl s

theorem sweepStart (s : State) : s.Grows (sweepStart s) := by
  unfold Machine.sweepStart
  dsimp only
  exact (endSweep s).trans ((installAtSweepStart _).trans ((withTimer _ _).trans
    ((sweepJudgement _ _).trans ((withTimer _ _).trans ((settleMarks _ _).trans
      ((sendMarks _).trans (stopIfHalted _)))))))

theorem firstSweep (s : State) : s.Grows (firstSweep s) := (withTimer _ s).trans (sendMarks _)

theorem resumeSweep (s : State) : s.Grows (resumeSweep s) :=
  (endSweep s).trans ((installPending _).trans ((withTimer _ _).trans ((enterRunning _).trans
    ((withTimer _ _).trans ((settleMarks _ _).trans (sendMarks _))))))

theorem passMark (i : Nat) (s : State) : s.Grows (passMark i s) := withTimer _ s

theorem timedMark (i : Nat) (s : State) : s.Grows (timedMark i s) := by
  unfold Machine.timedMark
  dsimp only
  split
  · refine (closeWindows s).trans ((passMark i _).trans ?_)
    unfold timedStep
    dsimp only
    split
    · exact startTest _ _ _
    · exact notStarted _ _ _ _
  · exact (closeWindows s).trans (passMark _ _)

theorem openMerged (s : State) : s.Grows (openMerged s) := by
  refine withEngine _ s ?_
  intro h
  cases hm : s.engine.merged with
  | none => simp [State.pendingSteps]
  | some w => simpa [State.pendingSteps, hm] using h

theorem mergedMark (i : Nat) (s : State) : s.Grows (mergedMark i s) := by
  unfold Machine.mergedMark
  dsimp only
  split
  · refine (openMerged s).trans ((passMark i _).trans ?_)
    unfold mergedStep
    split
    · exact refl _
    · split
      · rename_i hl
        refine (setMerged _ _ (fun _ => ?_)).trans (examineMerged _ _)
        simp only [Config.pendingRoom] at hl
        simp only [List.length_append, List.length_singleton]
        omega
      · exact notStarted _ _ _ _
  · exact (openMerged s).trans (passMark _ _)

theorem markEntry (i : Nat) (s : State) : s.Grows (markEntry i s) := by
  unfold Machine.markEntry
  dsimp only
  split
  · refine (closeWindows s).trans ((passMark i _).trans ?_)
    unfold markAction
    dsimp only
    split
    · exact (raise _ _).trans (hand _ _)
    · exact raise _ _
  · exact (closeWindows s).trans (passMark _ _)

theorem freeEntry (i : Nat) (s : State) : s.Grows (freeEntry i s) := by
  unfold Machine.freeEntry
  dsimp only
  split
  · refine (closeWindows s).trans ((passMark i _).trans (trans (withEngine _ _ ?_) (examineFree _)))
    exact fun h => h
  · exact (closeWindows s).trans (passMark _ _)

theorem bump (s : State) : s.Grows s.bump := of_same rfl rfl rfl rfl rfl

theorem closeAll : ∀ (fuel : Nat) (s : State), s.Grows (closeAll fuel s)
  | 0, s => refl s
  | fuel + 1, s => by
    unfold Machine.closeAll
    split
    · exact refl s
    · dsimp only
      split
      · exact ((bump s).trans (closeStep _ _ _)).trans (closeAll fuel _)
      · exact refl s

theorem limitRun (s : State) : s.Grows (limitRun s) := by
  unfold Machine.limitRun
  split
  · exact (setRun _ s).trans (reportEmpty _)
  · exact (setRun _ s).trans (reportEmpty _)
  · exact refl s

theorem tick (s : State) : s.Grows (tick s) := by
  simp only [Machine.tick]
  (repeat' split) <;> exact of_same rfl rfl rfl rfl rfl

theorem limitEvent (s : State) : s.Grows (limitEvent s) := by
  unfold Machine.limitEvent
  refine (tick s).trans ?_
  exact (raise _ _).trans ((endSweep _).trans ((withTimer _ _).trans ((limitRun _).trans
    (closeAll _ _))))

end State.Grows

end Sys2Proof.Machine
end

