-- ==== Sys2Proof/Laws/Misses.lean ====
section
/-! SUPPORT. Laws/Misses.lean: what a missed answer makes of the Probe Table entries, at a closure and at the
settling of marks, and what the judgement of a closed step makes of the links (R50 to R52, R54, R83, R103,
R106, R109). -/

namespace Sys2Proof.Machine

/-! ## Missed answers -/

/-- The entry of a probe after one more miss, under a miss limit and the active plan's policy for its slot
(R51, R52, R54). -/
def ProbeEntry.missed (limit : Nat) (policy : Policy) (e : ProbeEntry) : ProbeEntry :=
  let counted := { e with missCount := satInc 8 e.missCount }
  if (e.state = .syncing ∨ e.state = .inStep) ∧ limit ≤ counted.missCount then
    if e.state = .inStep then { counted with state := .lost }.clearAssignments policy
    else { counted with state := .lost }
  else counted

theorem ProbeEntry.missed_missCount (limit : Nat) (policy : Policy) (e : ProbeEntry) :
    (e.missed limit policy).missCount = satInc 8 e.missCount := by
  unfold ProbeEntry.missed ProbeEntry.clearAssignments ProbeEntry.dropQueued
  dsimp only
  (repeat' split) <;> rfl

/-- A miss takes a SYNCING or IN_STEP probe to LOST at the miss limit, and changes no other state. -/
theorem ProbeEntry.missed_state (limit : Nat) (policy : Policy) (e : ProbeEntry) :
    (e.missed limit policy).state =
      if (e.state = .syncing ∨ e.state = .inStep) ∧ limit ≤ satInc 8 e.missCount then .lost
      else e.state := by
  unfold ProbeEntry.missed ProbeEntry.clearAssignments ProbeEntry.dropQueued
  dsimp only
  (repeat' split) <;> simp_all

theorem leaveInStep_probe (b : Bool) (n m : Nat) (s : State) :
    (leaveInStep b n s).probe m
      = if n = m ∧ 1 ≤ m ∧ m ≤ 18 then (s.probe m).clearAssignments (s.params.policy m)
        else s.probe m := by
  unfold leaveInStep
  rw [quorumWatch_probe, State.probe_mapProbe]
  split
  · rename_i h; rw [h.1]
  · rfl

theorem addMiss_probe (b : Bool) (n m : Nat) (s : State) (h1 : 1 ≤ n) (h18 : n ≤ 18) :
    (addMiss b n s).probe m
      = if n = m then (s.probe m).missed s.params.missLimit.toNat (s.params.policy m)
        else s.probe m := by
  have same : ∀ f : ProbeEntry → ProbeEntry, (s.mapProbe n f).probe n = f (s.probe n) :=
    fun f => State.probe_mapProbe_same s n f h1 h18
  have other : ∀ f : ProbeEntry → ProbeEntry, n ≠ m → (s.mapProbe n f).probe m = s.probe m :=
    fun f h => by rw [State.probe_mapProbe]; simp [h]
  have params : ∀ f : ProbeEntry → ProbeEntry, (s.mapProbe n f).params = s.params := fun _ => rfl
  have kept : ∀ (x : ProbeState) (t : State), (changeState n x t).params = t.params :=
    fun x t => State.params_of_plans (by simp)
  by_cases hm : n = m
  · subst hm
    unfold addMiss loseProbe ProbeEntry.missed
    simp only [same, params, if_true]
    by_cases hl : ((s.probe n).state = .syncing ∨ (s.probe n).state = .inStep)
        ∧ s.params.missLimit.toNat ≤ satInc 8 (s.probe n).missCount
    · rw [if_pos hl, if_pos hl]
      by_cases hi : (s.probe n).state = .inStep
      · rw [if_pos hi, if_pos hi, leaveInStep_probe, changeState_probe, kept, params, same]
        simp [h1, h18]
      · rw [if_neg hi, if_neg hi, changeState_probe, same]
        simp [h1, h18]
    · rw [if_neg hl, if_neg hl, same]
  · unfold addMiss loseProbe
    dsimp only
    rw [if_neg hm]
    (repeat' split)
    · rw [leaveInStep_probe, changeState_probe]; simp [hm, other]
    · rw [changeState_probe]; simp [hm, other]
    · exact other _ hm

/-- A participant that is MISSING counts a miss when its probe is IN_STEP (R51, R83 item 2). -/
theorem countMissing_probe (p : Participant) (m : Nat) (s : State) (h1 : 1 ≤ p.slot) (h18 : p.slot ≤ 18) :
    (countMissing p s).probe m
      = if p.slot = m ∧ p.state = .missing ∧ (s.probe m).state = .inStep then
          (s.probe m).missed s.params.missLimit.toNat (s.params.policy m)
        else s.probe m := by
  unfold countMissing
  by_cases hm : p.slot = m
  · subst hm
    split
    · rename_i h; rw [addMiss_probe _ _ _ _ h1 h18]; simp [h]
    · rename_i h; simp [h]
  · split
    · rw [addMiss_probe _ _ _ _ h1 h18]; simp [hm]
    · simp [hm]

/-- The entry of a probe after its outstanding mark is settled as unanswered (R50, R51). -/
def ProbeEntry.settled (counts : Bool) (limit : Nat) (policy : Policy) (e : ProbeEntry) : ProbeEntry :=
  if e.outstanding.isNone then e
  else
    let dropped := { e with outstanding := none, syncCount := if e.state = .syncing then 0 else e.syncCount }
    if counts = true ∧ (e.state = .syncing ∨ e.state = .inStep) then dropped.missed limit policy
    else dropped

theorem settleMark_probe (counts : Bool) (n m : Nat) (s : State) (h1 : 1 ≤ n) (h18 : n ≤ 18) :
    (settleMark counts n s).probe m
      = if n = m then (s.probe m).settled counts s.params.missLimit.toNat (s.params.policy m)
        else s.probe m := by
  have params : ∀ f : ProbeEntry → ProbeEntry, (s.mapProbe n f).params = s.params := fun _ => rfl
  by_cases hm : n = m
  · subst hm
    unfold settleMark ProbeEntry.settled
    simp only [if_true]
    by_cases ho : (s.probe n).outstanding.isNone = true
    · simp [ho]
    · simp only [ho]
      by_cases hc : counts = true ∧ ((s.probe n).state = .syncing ∨ (s.probe n).state = .inStep)
      · rw [if_pos hc]
        have hb : (counts && ((s.probe n).state == .syncing || (s.probe n).state == .inStep)) = true := by
          simpa using hc
        rw [if_neg (by simp), if_pos hb, addMiss_probe _ _ _ _ h1 h18, params,
          State.probe_mapProbe_same _ _ _ h1 h18]
        simp
      · rw [if_neg hc]
        have hb : (counts && ((s.probe n).state == .syncing || (s.probe n).state == .inStep)) = false := by
          rw [Bool.eq_false_iff]; intro h; exact hc (by simpa using h)
        rw [if_neg (by simp), hb, if_neg (by simp), State.probe_mapProbe_same _ _ _ h1 h18]
        simp
  · unfold settleMark
    dsimp only
    rw [if_neg hm]
    (repeat' split)
    · rfl
    · rw [addMiss_probe _ _ _ _ h1 h18, if_neg hm, State.probe_mapProbe]; simp [hm]
    · rw [State.probe_mapProbe]; simp [hm]

/-- The settling of the old sweep's marks touches each slot's entry once (R50 to R52). -/
theorem settleMarks_probe (counts : Bool) (s : State) (n : Nat) :
    (settleMarks counts s).probe n
      = if 1 ≤ n ∧ n ≤ 18 then
          (s.probe n).settled counts s.params.missLimit.toNat (s.params.policy n)
        else s.probe n := by
  have h := foldl_local (fun t n => settleMark counts n t) State.probe
    (fun n => ProbeEntry.settled counts s.params.missLimit.toNat (s.params.policy n))
    (fun t => t.plans = s.plans) (by intro t n h; simpa using h) allSlots allSlots_nodup
    (by
      intro t n hm h
      have hb := (mem_allSlots n).1 hm
      rw [settleMark_probe _ _ _ _ hb.1 hb.2, if_pos rfl, State.params_of_plans h])
    (by
      intro t n k _ hk
      by_cases hb : 1 ≤ n ∧ n ≤ 18
      · rw [settleMark_probe _ _ _ _ hb.1 hb.2, if_neg hk]
      · unfold settleMark
        have out : ∀ f : ProbeEntry → ProbeEntry, (t.mapProbe n f).probe k = t.probe k := by
          intro f; rw [State.probe_mapProbe]; simp [hk]
        have far : ∀ (b : Bool) (u : State), (addMiss b n u).probe k = u.probe k := by
          intro b u
          have o2 : ∀ f : ProbeEntry → ProbeEntry, (u.mapProbe n f).probe k = u.probe k := by
            intro f; rw [State.probe_mapProbe]; simp [hk]
          unfold addMiss loseProbe
          dsimp only
          (repeat' split)
          · rw [leaveInStep_probe, changeState_probe]; simp [hk, o2]
          · rw [changeState_probe]; simp [hk, o2]
          · exact o2 _
        dsimp only
        (repeat' split)
        · rfl
        · rw [far, out]
        · rw [out])
    s rfl n
  unfold settleMarks
  rw [h]; simp only [mem_allSlots]

/-! ## The sync judgement -/

/-- The sync judgement enters RUNNING, keeps SYNCING or halts the run (R27). -/
theorem syncJudgement_cases (s : State) :
    ((s.inStepCount = s.active.planSlots.length
        ∨ (s.params.syncSweeps.toNat ≤ s.timer.sweepNumber.toNat
          ∧ s.params.quorum.toNat ≤ s.inStepCount)) → syncJudgement s = enterRunning s)
    ∧ (s.inStepCount ≠ s.active.planSlots.length →
        s.timer.sweepNumber.toNat < s.params.syncSweeps.toNat → syncJudgement s = s)
    ∧ (s.inStepCount ≠ s.active.planSlots.length →
        s.params.syncSweeps.toNat ≤ s.timer.sweepNumber.toNat →
        s.inStepCount < s.params.quorum.toNat → syncJudgement s = haltSyncing s) := by
  unfold syncJudgement
  refine ⟨?_, ?_, ?_⟩
  · rintro (h | ⟨h, h'⟩)
    · simp [h]
    · dsimp only
      by_cases e : s.inStepCount = s.active.planSlots.length
      · rw [if_pos e]
      · rw [if_neg e, if_neg (by omega), if_pos h']
  · intro h h'; simp [h, h']
  · intro h h' h''
    dsimp only
    rw [if_neg h, if_neg (by omega), if_neg (by omega)]

theorem haltSyncing_timer (s : State) :
    (haltSyncing s).timer = { s.timer with
      run := .halted, health := .severe,
      pattern := stepPattern s.timer.pattern s.params.patternPeriod.toNat } := by
  unfold haltSyncing enterHalted setHealth
  dsimp only
  split <;> simp_all [State.setRun]

/-! ## The links of a closure -/

theorem judgeLink_link (o : OpenStep) (f : Finding) (s : State) (id : Nat) :
    (judgeLink o f s).link id
      = if o.testLink = id ∧ id < 512 ∧ f.outcome ≠ .voidRedefined ∧ o.withdrawn = false then
          (s.link id).judged (s.active.cls (s.active.link id).cls.toNat) f o.source
            s.timer.sweepNumber s.timer.sweepTime
        else s.link id := by
  unfold judgeLink
  by_cases h : f.outcome = .voidRedefined ∨ o.withdrawn = true
  · rw [if_pos h, if_neg]
    rintro ⟨_, _, h1, h2⟩
    rcases h with h | h
    · exact h1 h
    · rw [h] at h2; cases h2
  · rw [if_neg h]
    have h' : f.outcome ≠ .voidRedefined ∧ o.withdrawn = false := by
      refine ⟨fun x => h (Or.inl x), ?_⟩
      cases hw : o.withdrawn
      · rfl
      · exact absurd (Or.inr hw) h
    rw [State.link_setLink]
    by_cases hi : o.testLink = id
    · subst hi; simp [h']
    · simp [hi]

/-- A quiet check changes its own quiet link alone (R106). -/
theorem quietCheck_link (o : OpenStep) (p : Participant) (acc : State × List ResultRecord) (id : Nat)
    (h : p.role ≠ .quiet ∨ p.quietLink ≠ some id) : (quietCheck o p acc).1.link id = acc.1.link id := by
  unfold quietCheck
  dsimp only
  split
  · rename_i quiet hr _ _ hq
    have hne : ∀ r, (acc.1.setLink quiet r).link id = acc.1.link id := fun r => by
      rw [State.link_setLink]
      rcases h with h | h
      · exact absurd hr h
      · rw [hq] at h
        simp only [ne_eq, Option.some.injEq] at h
        simp [h]
    (repeat' split)
    · rfl
    · rfl
    · exact hne _
    · exact hne _
  · rfl

/-- No link but those of quiet participants is moved by the quiet checks (R106). -/
theorem quietChecks_link (o : OpenStep) (f : Finding) (s : State) (id : Nat)
    (h : o.form = .contended ∨ f.outcome = .voidTalker
      ∨ ∀ p ∈ o.participants, p.role ≠ .quiet ∨ p.quietLink ≠ some id) :
    (quietChecks o f s).1.link id = s.link id := by
  unfold quietChecks
  split
  · rfl
  · rename_i hf
    split
    · rfl
    · rename_i ho
      have hq : ∀ p ∈ o.participants, p.role ≠ .quiet ∨ p.quietLink ≠ some id := by
        rcases h with h | h | h
        · rw [hf] at h; cases h
        · exact absurd h ho
        · exact h
      have fold : ∀ (ps : List Participant) (acc : State × List ResultRecord),
          (∀ p ∈ ps, p.role ≠ .quiet ∨ p.quietLink ≠ some id) →
          (ps.foldl (fun acc p => quietCheck o p acc) acc).1.link id = acc.1.link id := by
        intro ps
        induction ps with
        | nil => intro acc _; rfl
        | cons p ps ih =>
          intro acc hp
          rw [List.foldl_cons, ih _ fun q hm => hp q (List.mem_cons_of_mem _ hm),
            quietCheck_link o p acc id (hp p (List.mem_cons_self ..))]
      exact fold _ _ hq

end Sys2Proof.Machine
end

