-- ==== Sys2Proof/Laws/PerInstr.lean ====
section
/-! SUPPORT. Laws/PerInstr.lean: for every command, the bytes it stands for on its port have the length
that 12.1 and 12.2 give its command byte or its kind. -/

namespace Sys2Proof.Laws.Wire

open Machine

/-- The parameter bytes of the request, and the payload of the message, that a command stands for have
their lengths of 12.2 and 12.1. -/
def Statement (i : Instr) : Prop :=
  (∀ r, i.request = some r → parameterLength r.command = some r.params.length)
    ∧ (∀ m, i.message = some m → payloadLength m.kind = some m.payload.length)

theorem statusRead (crc : Byte) :
    Statement (.statusRead crc) := by
  constructor <;> intro r h <;> cases h <;> rfl

theorem capabilityRead (crc : Byte) :
    Statement (.capabilityRead crc) := by
  constructor <;> intro r h <;> cases h <;> rfl

theorem shadowWrite (target : Byte) (index : Half) (content : Vector Byte 48) (crc : Byte) :
    Statement (.shadowWrite target index content crc) := by
  constructor <;> intro r h <;> cases h
  simp [parameterLength, halfBytes]

theorem shadowRead (target : Byte) (index : Half) (crc : Byte) :
    Statement (.shadowRead target index crc) := by
  constructor <;> intro r h <;> cases h <;> rfl

theorem activeRead (target : Byte) (index : Half) (crc : Byte) :
    Statement (.activeRead target index crc) := by
  constructor <;> intro r h <;> cases h <;> rfl

theorem shadowClear (crc : Byte) :
    Statement (.shadowClear crc) := by
  constructor <;> intro r h <;> cases h <;> rfl

theorem liveEdit (target : Byte) (index : Half) (content : Vector Byte 14) (crc : Byte) :
    Statement (.liveEdit target index content crc) := by
  constructor <;> intro r h <;> cases h
  simp [parameterLength, halfBytes]

theorem applyPlan (crc : Byte) :
    Statement (.applyPlan crc) := by
  constructor <;> intro r h <;> cases h <;> rfl

theorem applyCancel (crc : Byte) :
    Statement (.applyCancel crc) := by
  constructor <;> intro r h <;> cases h <;> rfl

theorem runStart (fresh : Byte) (crc : Byte) :
    Statement (.runStart fresh crc) := by
  constructor <;> intro r h <;> cases h <;> rfl

theorem runPause (crc : Byte) :
    Statement (.runPause crc) := by
  constructor <;> intro r h <;> cases h <;> rfl

theorem runResume (crc : Byte) :
    Statement (.runResume crc) := by
  constructor <;> intro r h <;> cases h <;> rfl

theorem runStop (crc : Byte) :
    Statement (.runStop crc) := by
  constructor <;> intro r h <;> cases h <;> rfl

theorem runAbort (crc : Byte) :
    Statement (.runAbort crc) := by
  constructor <;> intro r h <;> cases h <;> rfl

theorem linkRead (link : Half) (crc : Byte) :
    Statement (.linkRead link crc) := by
  constructor <;> intro r h <;> cases h <;> rfl

theorem linkClear (link : Half) (crc : Byte) :
    Statement (.linkClear link crc) := by
  constructor <;> intro r h <;> cases h <;> rfl

theorem linkWithdraw (link : Half) (crc : Byte) :
    Statement (.linkWithdraw link crc) := by
  constructor <;> intro r h <;> cases h <;> rfl

theorem linkRestore (link : Half) (crc : Byte) :
    Statement (.linkRestore link crc) := by
  constructor <;> intro r h <;> cases h <;> rfl

theorem probeRead (slot : Byte) (crc : Byte) :
    Statement (.probeRead slot crc) := by
  constructor <;> intro r h <;> cases h <;> rfl

theorem queuePop (queue : Byte) (crc : Byte) :
    Statement (.queuePop queue crc) := by
  constructor <;> intro r h <;> cases h <;> rfl

theorem queueStatus (queue : Byte) (crc : Byte) :
    Statement (.queueStatus queue crc) := by
  constructor <;> intro r h <;> cases h <;> rfl

theorem queueFlush (queue : Byte) (crc : Byte) :
    Statement (.queueFlush queue crc) := by
  constructor <;> intro r h <;> cases h <;> rfl

theorem spotRequest (link : Half) (repeats marker : Byte) (crc : Byte) :
    Statement (.spotRequest link repeats marker crc) := by
  constructor <;> intro r h <;> cases h <;> rfl

theorem spotCancel (link : Half) (crc : Byte) :
    Statement (.spotCancel link crc) := by
  constructor <;> intro r h <;> cases h <;> rfl

theorem spotList (crc : Byte) :
    Statement (.spotList crc) := by
  constructor <;> intro r h <;> cases h <;> rfl

theorem calSelect (slots : BitVec 24) (kind range quick : Byte) (crc : Byte) :
    Statement (.calSelect slots kind range quick crc) := by
  constructor <;> intro r h <;> cases h <;> rfl

theorem calCapture (crc : Byte) :
    Statement (.calCapture crc) := by
  constructor <;> intro r h <;> cases h <;> rfl

theorem calAccept (crc : Byte) :
    Statement (.calAccept crc) := by
  constructor <;> intro r h <;> cases h <;> rfl

theorem calRevert (slots : BitVec 24) (ranges : Byte) (crc : Byte) :
    Statement (.calRevert slots ranges crc) := by
  constructor <;> intro r h <;> cases h <;> rfl

theorem storeWriteEnable (crc : Byte) :
    Statement (.storeWriteEnable crc) := by
  constructor <;> intro r h <;> cases h <;> rfl

theorem storeSave (slot : Byte) (label : Vector Byte 8) (crc : Byte) :
    Statement (.storeSave slot label crc) := by
  constructor <;> intro r h <;> cases h
  simp [parameterLength]

theorem storeErase (slot : Byte) (crc : Byte) :
    Statement (.storeErase slot crc) := by
  constructor <;> intro r h <;> cases h <;> rfl

theorem storeLock (slot : Byte) (crc : Byte) :
    Statement (.storeLock slot crc) := by
  constructor <;> intro r h <;> cases h <;> rfl

theorem storeLoad (slot : Byte) (crc : Byte) :
    Statement (.storeLoad slot crc) := by
  constructor <;> intro r h <;> cases h <;> rfl

theorem storeSetBoot (slot : Byte) (crc : Byte) :
    Statement (.storeSetBoot slot crc) := by
  constructor <;> intro r h <;> cases h <;> rfl

theorem attnEnable (set : Half) (crc : Byte) :
    Statement (.attnEnable set crc) := by
  constructor <;> intro r h <;> cases h <;> rfl

theorem attnClear (set : Half) (crc : Byte) :
    Statement (.attnClear set crc) := by
  constructor <;> intro r h <;> cases h <;> rfl

theorem softReset (crc : Byte) :
    Statement (.softReset crc) := by
  constructor <;> intro r h <;> cases h <;> rfl

theorem unknownCommand (command next : Byte) :
    Statement (.unknownCommand command next) := by
  constructor <;> intro r h <;> cases h <;> rfl

theorem hello (port : Port) (serial : Word) (code power : Byte) :
    Statement (.hello port serial code power) := by
  constructor <;> intro r h <;> cases h <;> rfl

theorem setupAck (port : Port) :
    Statement (.setupAck port) := by
  constructor <;> intro r h <;> cases h <;> rfl

theorem markAck (port : Port) (sweep : Word) :
    Statement (.markAck port sweep) := by
  constructor <;> intro r h <;> cases h <;> rfl

theorem statusReport (port : Port) (power fault code : Byte) :
    Statement (.statusReport port power fault code) := by
  constructor <;> intro r h <;> cases h <;> rfl

theorem doneReport (port : Port) (tag result : Byte) :
    Statement (.doneReport port tag result) := by
  constructor <;> intro r h <;> cases h <;> rfl

theorem readingReport (port : Port) (tag : Byte) (raw errors : Half) (wireOff : Byte) :
    Statement (.readingReport port tag raw errors wireOff) := by
  constructor <;> intro r h <;> cases h <;> rfl

theorem contresReport (port : Port) (tag result position wireOff : Byte) :
    Statement (.contresReport port tag result position wireOff) := by
  constructor <;> intro r h <;> cases h <;> rfl

theorem calRead (port : Port) (raw : Half) :
    Statement (.calRead port raw) := by
  constructor <;> intro r h <;> cases h <;> rfl

theorem spotAsk (port : Port) (link : Half) (repeats marker : Byte) :
    Statement (.spotAsk port link repeats marker) := by
  constructor <;> intro r h <;> cases h <;> rfl

theorem spotDrop (port : Port) (link : Half) :
    Statement (.spotDrop port link) := by
  constructor <;> intro r h <;> cases h <;> rfl

theorem frameError (port : Port) (frame : List Byte) :
    Statement (.frameError port frame) := by
  constructor <;> intro r h <;> cases h <;> rfl

theorem probeFrameSend (port : Port) (waiting : Bool) :
    Statement (.probeFrameSend port waiting) := by
  constructor <;> intro r h <;> cases h <;> rfl

theorem sweepStart :
    Statement (.sweepStart) := by
  constructor <;> intro r h <;> cases h <;> rfl

theorem timedMark (index : Nat) :
    Statement (.timedMark index) := by
  constructor <;> intro r h <;> cases h <;> rfl

theorem mergedMark (index : Nat) :
    Statement (.mergedMark index) := by
  constructor <;> intro r h <;> cases h <;> rfl

theorem markEntry (index : Nat) :
    Statement (.markEntry index) := by
  constructor <;> intro r h <;> cases h <;> rfl

theorem freeEntry (index : Nat) :
    Statement (.freeEntry index) := by
  constructor <;> intro r h <;> cases h <;> rfl

theorem deadline (slot : Fin 8) (turn : BitVec 4) :
    Statement (.deadline slot turn) := by
  constructor <;> intro r h <;> cases h <;> rfl

theorem fixtureTimeLimit :
    Statement (.fixtureTimeLimit) := by
  constructor <;> intro r h <;> cases h <;> rfl

theorem captureDeadline :
    Statement (.captureDeadline) := by
  constructor <;> intro r h <;> cases h <;> rfl

theorem saveEnd (passed : Bool) :
    Statement (.saveEnd passed) := by
  constructor <;> intro r h <;> cases h <;> rfl

theorem eraseEnd (passed : Bool) :
    Statement (.eraseEnd passed) := by
  constructor <;> intro r h <;> cases h <;> rfl

theorem lockEnd (passed : Bool) :
    Statement (.lockEnd passed) := by
  constructor <;> intro r h <;> cases h <;> rfl

theorem loadEnd :
    Statement (.loadEnd) := by
  constructor <;> intro r h <;> cases h <;> rfl

theorem fixtureWriteEnd (passed : Bool) :
    Statement (.fixtureWriteEnd passed) := by
  constructor <;> intro r h <;> cases h <;> rfl

theorem hardReset :
    Statement (.hardReset) := by
  constructor <;> intro r h <;> cases h <;> rfl

theorem startUpBegin :
    Statement .startUpBegin := by
  constructor <;> intro r h <;> cases h <;> rfl

theorem startUpEnd (damaged : BitVec 4) :
    Statement (.startUpEnd damaged) := by
  constructor <;> intro r h <;> cases h <;> rfl

end Sys2Proof.Laws.Wire
end

