-- ==== Sys2Proof/Laws/Requests.lean ====
section
/-! SUPPORT. Laws/Requests.lean: a request whose CRC-8 checks has its effect when the port serves it. -/

namespace Sys2Proof.Machine

theorem State.listens_iff (s : State) :
    s.listens = true ↔ s.port.resetLow = false ∧ s.port.csLow = false := by
  simp [State.listens]

theorem State.serves_iff (s : State) :
    s.serves = true ↔ (s.port.resetLow = false ∧ s.port.csLow = false) ∧ s.starting = false := by
  simp [State.serves, State.listens_iff]

theorem reply_finish (st : Status) (s : State) : (reply st s).finish = s.answered ⟨st, []⟩ := (rfl)

theorem refuse_finish (st : Status) (s : State) : (refuse st s).finish = s.answered ⟨st, []⟩ := (rfl)

theorem readOut_finish (bytes : List Byte) (s : State) :
    (readOut bytes s).finish = s.answered ⟨.done, bytes⟩ := (rfl)

theorem Reply.finish_mk (s : State) (a : Answer) : (Reply.mk s a).finish = s.answered a := (rfl)

/-- A request that checks, at a port that serves, has its effect and is answered (R178, R179). -/
theorem takeRequest_serves (command : Byte) (params : List Byte) (effect : State → Reply) {s : State}
    (h : s.serves = true) :
    takeRequest command params (requestCrc command params) effect s = (effect s).finish := by
  rw [State.serves_iff] at h; simp [takeRequest, takeAlways, h]

theorem takeAlways_checks (command : Byte) (params : List Byte) (effect : State → Reply) {s : State}
    (h : s.listens = true) :
    takeAlways command params (requestCrc command params) effect s = (effect s).finish := by
  rw [State.listens_iff] at h; simp [takeAlways, h]

/-- The transaction whose CS# was low as RESET# rose is not taken, and CS# rises at its end (R185). -/
theorem takeAlways_begun (command : Byte) (params : List Byte) (crc : Byte) (effect : State → Reply)
    {s : State} (h : s.port.resetLow = false) (hc : s.port.csLow = true) :
    takeAlways command params crc effect s = s.raiseCs := by
  simp [takeAlways, h, hc]

/-- A message whose fields check and that the probe's state admits has its effect on the part that has
heard it (R46, R186). -/
theorem receive_admitted (n : Nat) (admits : ProbeState → Bool) (effect : State → State) {s : State}
    (h : s.port.resetLow = false) (ha : admits (s.probe n).state = true) :
    receive n true admits effect s = effect (hearProbe n s) := by
  have : ((hearProbe n s).probe n).state = (s.probe n).state := rfl
  simp [receive, h, this, ha]

/-- One that the state does not admit is stray (R46). -/
theorem receive_stray (n : Nat) (admits : ProbeState → Bool) (effect : State → State) {s : State}
    (h : s.port.resetLow = false) (ha : admits (s.probe n).state = false) :
    receive n true admits effect s = stray n (hearProbe n s) := by
  have : ((hearProbe n s).probe n).state = (s.probe n).state := rfl
  simp [receive, h, this, ha]

/-- One whose fields do not check is a discarded frame (R45, R186). -/
theorem receive_discarded (n : Nat) (admits : ProbeState → Bool) (effect : State → State) {s : State}
    (h : s.port.resetLow = false) : receive n false admits effect s = discardFrame n s := by
  simp [receive, h]

theorem hearProbe_portState (n m : Nat) (s : State) :
    (hearProbe n s).portState m
      = if n = m ∧ 1 ≤ m ∧ m ≤ 18 then { s.portState m with lastFrame := some .probe }
        else s.portState m := by
  unfold hearProbe
  rw [State.portState_setPortState]
  by_cases h : n = m
  · subst h; rfl
  · simp [h]

@[simp] theorem hearProbe_probe (n m : Nat) (s : State) : (hearProbe n s).probe m = s.probe m := rfl

@[simp] theorem hearProbe_session (n : Nat) (s : State) :
    (hearProbe n s).registry.session = s.registry.session := rfl

end Sys2Proof.Machine
end

