-- ==== Sys2Proof/Laws/StartUp.lean ====
section
/-! SUPPORT. Laws/StartUp.lean: what the release of the messages held back during start-up makes of the ports
and the Probe Table (R176), and the port's CS# and MISO (R178, R185). -/

namespace Sys2Proof.Machine

/-! ## The messages held back -/

theorem sendHeld_plans (m : HeldMessage) (s : State) : (sendHeld m s).plans = s.plans := by
  cases m <;> rfl

/-- A held message goes to its own slot's port alone. -/
theorem sendHeld_portState (m : HeldMessage) (s : State) (n : Nat) (h1 : 1 ≤ n) (h18 : n ≤ 18) :
    (sendHeld m s).portState n
      = (m.messageFor s.params n).toList.foldl PortState.hand (s.portState n) := by
  cases m with
  | setup k =>
    by_cases h : k = n
    · subst h; simp [sendHeld, HeldMessage.messageFor, sendSetup_portState, h1, h18]
    · simp [sendHeld, HeldMessage.messageFor, sendSetup_portState, h]
  | spotAns k link answer =>
    by_cases h : k = n
    · subst h; simp [sendHeld, HeldMessage.messageFor, send_portState, h1, h18]
    · simp [sendHeld, HeldMessage.messageFor, send_portState, h]

/-- A held SETUP is outstanding at its slot, and a held SPOTANS changes no entry (R48). -/
theorem sendHeld_probe (m : HeldMessage) (s : State) (n : Nat) (h1 : 1 ≤ n) (h18 : n ≤ 18) :
    (sendHeld m s).probe n
      = { s.probe n with setupOutstanding := (s.probe n).setupOutstanding || m == .setup n } := by
  cases m with
  | setup k =>
    by_cases h : k = n
    · subst h; simp [sendHeld, sendSetup_probe, h1, h18]
    · have ne : (HeldMessage.setup k == .setup n) = false := by simpa using h
      simp [sendHeld, sendSetup_probe, h, ne]
  | spotAns k link answer =>
    have ne : (HeldMessage.spotAns k link answer == .setup n) = false := by simp
    simp [sendHeld, ne]

theorem foldl_sendHeld (l : List HeldMessage) (n : Nat) (h1 : 1 ≤ n) (h18 : n ≤ 18) :
    ∀ s : State,
      (l.foldl (fun s m => sendHeld m s) s).portState n
          = (l.filterMap (HeldMessage.messageFor s.params n)).foldl PortState.hand (s.portState n)
      ∧ (l.foldl (fun s m => sendHeld m s) s).probe n
          = { s.probe n with
              setupOutstanding := (s.probe n).setupOutstanding || l.contains (.setup n) } := by
  induction l with
  | nil => intro s; simp
  | cons m l ih =>
    intro s
    have params : (sendHeld m s).params = s.params := State.params_of_plans (sendHeld_plans m s)
    rw [List.foldl_cons, (ih _).1, (ih _).2, sendHeld_portState m s n h1 h18,
      sendHeld_probe m s n h1 h18, params]
    constructor
    · cases hm : m.messageFor s.params n <;> simp [hm]
    · rw [List.contains_cons, Bool.or_assoc]
      rw [Bool.beq_comm]

/-- The release hands each slot its held messages in the order held (R176, log 28). -/
theorem releaseHeld_portState (s : State) (n : Nat) (h1 : 1 ≤ n) (h18 : n ≤ 18) :
    (releaseHeld s).portState n
      = (s.store.held.filterMap (HeldMessage.messageFor s.params n)).foldl PortState.hand
          (s.portState n) :=
  (foldl_sendHeld s.store.held n h1 h18 (s.withStore { s.store with held := [] })).1

theorem releaseHeld_probe (s : State) (n : Nat) (h1 : 1 ≤ n) (h18 : n ≤ 18) :
    (releaseHeld s).probe n
      = { s.probe n with
          setupOutstanding := (s.probe n).setupOutstanding || s.store.held.contains (.setup n) } :=
  (foldl_sendHeld s.store.held n h1 h18 (s.withStore { s.store with held := [] })).2

/-! ## CS# and MISO -/

/-- After a transaction CS# is high and MISO is released (R178). -/
theorem State.raiseCs_misoReleased (s : State) : s.raiseCs.misoReleased = true := by
  simp [State.raiseCs, State.misoReleased]

theorem State.misoReleased_of_reset {s : State} (h : s.port.resetLow = true) :
    s.misoReleased = true := by simp [State.misoReleased, h]

end Sys2Proof.Machine
end

