-- ==== Sys2Proof/Tests/Slice0.lean ====
section
/-! SUPPORT. Tests/Slice0.lean: the checks of well-formedness, the manual's worked examples, small steps, and
for every statement with hypotheses a state that meets them (theorems `test_witness_…`). -/

open Sys2Proof Sys2Proof.Machine

namespace Sys2Proof.Tests

set_option Elab.async false

/-! ## Small states -/

/-- The part after start-up with nothing stored: the store IDLE, everything else as after reset. -/
def ready : State := { State.reset with store := { State.reset.store with state := .idle } }

def after (c : Instr) (s : State) : State :=
  match exec c s with
  | .next t => t
  | .fault _ => s
  | .refused _ => s

def answerTo (c : Instr) (s : State) : Option Answer := (after c s).port.answer

def crcOf (command : Byte) (params : List Byte) : Byte := requestCrc command params

/-- A request with no parameters, its CRC right. -/
def bareCrc (command : Byte) : Byte := requestCrc command []

def stepping : ProbeEntry :=
  { ProbeEntry.reset with
    state := .inStep, serial := some 7, mainPower := true, auxPower := true, policy := .queue }

def syncingProbe : ProbeEntry := { stepping with state := .syncing, setupOutstanding := true }

def withProbes (e : ProbeEntry) (s : State) : State :=
  { s with registry := { s.registry with probes := Vector.replicate 18 e } }

def inRun (r : RunState) (s : State) : State := { s with timer := { s.timer with run := r } }

/-- Class 2 of the manual's example of one link's history (05). -/
def levelClass : ClassDef :=
  ⟨true, .level, .signed, .high, 2800, 3600, 200, 0, 3, 2⟩

def lane : LinkDef := { LinkDef.undefined with defined := true, kind := .lane, cls := 2, source := 3, sink := 7 }

def rail : LinkDef := { LinkDef.undefined with defined := true, kind := .rail, cls := 2, slot := 7 }

def blankStep : StepEntry := { StepEntry.cleared with window := 100, runMask := 0xFFFF, rule := .always, testLink := 12 }

def timedLane : StepEntry :=
  { blankStep with talker := 3, expectCount := 1, expects := #v[7, 0, 0, 0], marker := 5 }

/-- A plan of one step of each timing kind over link 12 (LANE 3 to 7) and link 13 (RAIL 7). -/
def smallPlan : Plan :=
  { Plan.empty with
    params := { Params.default with stepCount := 5, sweepLength := 1000, patternPeriod := 2 }
    steps := Tab.put (Tab.put (Tab.put (Tab.put (Tab.put Plan.empty.steps
      0 timedLane)
      1 { timedLane with kind := .merged, timeMark := 10 })
      2 { blankStep with kind := .mark, timeMark := 20, log := true, marker := 9 })
      3 { blankStep with kind := .free, timeMark := 30 })
      4 { timedLane with timeMark := 40, log := true }
    links := Tab.put (Tab.put Plan.empty.links 12 lane) 13 rail
    classes := Tab.put Plan.empty.classes 2 levelClass }

def planned (s : State) : State := { s with plans := { s.plans with active := smallPlan, shadow := smallPlan } }

/-- A run in RUNNING over the small plan, every probe IN_STEP, at the mark of step `i`. -/
def runningAt (i : Nat) (time : Nat) : State :=
  { withProbes stepping (planned ready) with
    timer := ⟨.running, .clear, 5000 + time, 3, time, 0, false, true, false, i, false⟩ }

/-! ## Well-formedness: each check refuses an ill-formed command -/

theorem test_wf_unknown_command :
    (Instr.unknownCommand 0x03 0).wellFormed = true ∧ (Instr.unknownCommand 0x01 0).wellFormed = false := by
  decide +kernel

theorem test_wf_hello_code :
    (Instr.hello 0 7 31 3).wellFormed = true ∧ (Instr.hello 0 7 32 3).wellFormed = false := by
  decide +kernel

theorem test_wf_status_code :
    (Instr.statusReport 0 3 0 31).wellFormed = true
      ∧ (Instr.statusReport 0 3 0 32).wellFormed = false := by decide +kernel

theorem test_wf_done :
    (Instr.doneReport 0 0x7F 1).wellFormed = true ∧ (Instr.doneReport 0 0x80 1).wellFormed = false
      ∧ (Instr.doneReport 0 0x7F 2).wellFormed = false := by decide +kernel

theorem test_wf_reading :
    (Instr.readingReport 0 0x7F 5 0 1).wellFormed = true
      ∧ (Instr.readingReport 0 0x80 5 0 1).wellFormed = false
      ∧ (Instr.readingReport 0 0x7F 5 0 2).wellFormed = false := by decide +kernel

theorem test_wf_contres :
    (Instr.contresReport 0 0x7F 1 5 1).wellFormed = true
      ∧ (Instr.contresReport 0 0x80 1 5 1).wellFormed = false
      ∧ (Instr.contresReport 0 0x7F 2 5 1).wellFormed = false
      ∧ (Instr.contresReport 0 0x7F 1 6 1).wellFormed = false
      ∧ (Instr.contresReport 0 0x7F 0 6 1).wellFormed = true
      ∧ (Instr.contresReport 0 0x7F 1 5 2).wellFormed = false := by decide +kernel

/-- A frame that passes every check is no frame error. -/
theorem test_wf_frame_error :
    (Instr.frameError 0 [0x82, 0x00, 0x00, 0x00]).wellFormed = true
      ∧ (Instr.frameError 0 (frameOf 0x82 [])).wellFormed = false := by decide +kernel

theorem test_wf_indices :
    ((Instr.timedMark 511).wellFormed && (Instr.mergedMark 511).wellFormed
        && (Instr.markEntry 511).wellFormed && (Instr.freeEntry 511).wellFormed) = true
      ∧ (Instr.timedMark 512).wellFormed = false ∧ (Instr.mergedMark 512).wellFormed = false
      ∧ (Instr.markEntry 512).wellFormed = false ∧ (Instr.freeEntry 512).wellFormed = false := by
  decide +kernel

/-! ## CRCs, frames and layouts (12) -/

/-- The check values of the two CRCs over the digits 1 to 9 (the polynomials and starts of 12.2, R186). -/
theorem test_crc_check_values :
    crc8 [0x31, 0x32, 0x33, 0x34, 0x35, 0x36, 0x37, 0x38, 0x39] = 0xF4
      ∧ crc16 [0x31, 0x32, 0x33, 0x34, 0x35, 0x36, 0x37, 0x38, 0x39] = 0x29B1 := by decide +kernel

/-- The example of R189: the urgent VERDICT record of link 12. -/
theorem test_record_bytes :
    { ResultRecord.blank .verdict 4 2350 with
        link := some 12, step := some 0, marker := some 0, outcome := some .highMargin,
        value := some 3685, oldVerdict := some .passed, newVerdict := some .marginal,
        urgent := true, filter := some 0 }.encode
      = [0x32, 0x0C, 0x80, 0x01, 0x00, 0x00, 0x00, 0x00, 0x00, 0x04, 0x09, 0x2E, 0x38, 0x39, 0x95, 0xA0] := by
  decide +kernel

/-- Every message frame passes the checks of its own CRC: PARK IDLE is 06h, 01h, 01h and the CRC-16. -/
theorem test_park_frame :
    (Message.park .idle).frame.take 3 = [0x06, 0x01, 0x01] ∧ (Message.park .idle).frame.length = 5 := by
  decide +kernel

theorem test_tag_byte :
    (Tag.mk 5 9).byte = 0x59 ∧ Tag.ofByte 0x59 = some ⟨5, 9⟩ ∧ Tag.ofByte 0xD9 = none := by decide +kernel

theorem test_answer_wire :
    (Answer.mk .crc []).wire.length = 2 ∧ (Answer.mk .done [1, 2]).wire.take 4 = [0, 2, 1, 2] := by
  decide +kernel

/-! ## Judgement (05) -/

/-- The corrections of the example of one link's history. -/
theorem test_corrected_values :
    ([3240, 3300, 3100, 3700, 2500].map fun r =>
      levelClass.corrected { stepping with coeffHigh := ⟨40, 33000⟩ } (BitVec.ofNat 16 r))
      = [3222, 3283, 3081, 3685, 2477] := by decide +kernel

/-- Where two bands of R98 meet: 2,599, 2,600, 2,799, 2,800, 3,600, 3,601, 3,800 and 3,801. -/
theorem test_level_bands :
    ([2599, 2600, 2799, 2800, 3600, 3601, 3800, 3801].map (levelOutcome 2800 3600 200))
      = [.under, .lowMargin, .lowMargin, .inRange, .inRange, .highMargin, .highMargin, .over] := by
  decide +kernel

/-- The candidates of the worked calibration (07). -/
theorem test_candidates :
    candidate .gain 23871 40 = .candidate 33000 ∧ candidate .gain 12000 (-25) = .failed .outOfBounds
      ∧ candidate .offset 4096 0 = .candidate 4096 ∧ candidate .offset (-4096) 0 = .candidate (-4096)
      ∧ candidate .offset 4097 0 = .failed .outOfBounds := by decide +kernel

/-- The manual's contended example (05): contenders 2, 5 and 9 with codes 12, 9 and 40, and listener 11. -/
def contest (r2 r5 r9 r11 : Option Report) : OpenStep :=
  let entry := fun slot role code report =>
    Participant.mk slot role (some 4) none code (if report.isSome then .received else .missing) report
  ⟨.step 1, .contended, 300, 0, false, 0, 42500, 500, 0, 1000, 44200,
    [entry 2 .contender (some 12) r2, entry 5 .contender (some 9) r5, entry 9 .contender (some 40) r9,
      entry 11 .expect none r11], false⟩

theorem test_contended_example :
    let lost := fun n => some (Report.contest true n false)
    let won := some (Report.contest false 0 false)
    let nine := some (Report.reading 9 0 false)
    judgeContended (contest (lost 2) won (lost 5) nine) = ⟨.inRange, none, none⟩
      ∧ judgeContended (contest won won (lost 5) nine) = ⟨.contention, none, some 2⟩
      ∧ judgeContended (contest won won (lost 4) nine) = ⟨.contention, none, some 2⟩
      ∧ judgeContended (contest won won (lost 4) (some (.reading 9 0 true))) = ⟨.openSeen, none, some 11⟩
      ∧ judgeContended (contest (lost 2) won none nine) = ⟨.voidMissing, none, none⟩
      ∧ judgeContended (contest (lost 2) won (lost 5) none) = ⟨.inRange, none, none⟩ := by decide +kernel

/-- The counts of R112 for each group, at the edges of quota and threshold. -/
theorem test_verdict_moves :
    let f := fun o => Finding.mk o none none
    let r := { LinkRecord.fresh 0 with streak := 2, standing := 1, verdict := .testing }
    (r.judged levelClass (f .inRange) (.step 0) 4 9).verdict = .passed
      ∧ (r.judged levelClass (f .over) (.step 0) 4 9).verdict = .failed
      ∧ (r.judged levelClass (f .lowMargin) (.step 0) 4 9).verdict = .marginal
      ∧ (r.judged levelClass (f .openSeen) (.step 0) 4 9).verdict = .opened
      ∧ (r.judged levelClass (f .voidTalker) (.step 0) 4 9).verdict = .testing := by decide +kernel

/-! ## The commands, one small step each -/

theorem test_status_read :
    (answerTo (.statusRead (bareCrc 0x01)) State.reset).map (fun a => (a.status, a.bytes.length))
        = some (.done, 73)
      ∧ answerTo (.statusRead (bareCrc 0x01 + 1)) ready = some ⟨.crc, []⟩ := by decide +kernel

theorem test_capability_read :
    answerTo (.capabilityRead (bareCrc 0x02)) State.reset
      = some ⟨.done, [18, 2, 0, 2, 0, 32, 32, 8, 3, 8, 2, 64, 9, 4, 12, 1]⟩ := by decide +kernel

/-- A class written into the shadow, and the same content refused while STARTING. -/
theorem test_shadow_write :
    let content : Vector Byte 48 := Vector.ofFn fun i => levelClass.encode.getD i.val 0
    let write := Instr.shadowWrite 3 2 content (crcOf 0x10 (3 :: halfBytes 2 ++ content.toList))
    (after write ready).plans.shadow.cls 2 = levelClass ∧ answerTo write ready = some ⟨.done, []⟩
      ∧ answerTo write State.reset = some ⟨.busy, []⟩ := by decide +kernel

theorem test_shadow_read :
    answerTo (.shadowRead 3 2 (crcOf 0x11 (3 :: halfBytes 2))) (planned ready)
        = some ⟨.done, levelClass.encode⟩
      ∧ answerTo (.shadowRead 3 32 (crcOf 0x11 (3 :: halfBytes 32))) (planned ready)
        = some ⟨.range, []⟩ := by decide +kernel

theorem test_active_read :
    (answerTo (.activeRead 0 9 (crcOf 0x12 (0 :: halfBytes 9))) (planned ready)).map (·.bytes.length)
        = some 25 := by decide +kernel

theorem test_shadow_clear :
    let t := after (.shadowClear (bareCrc 0x13)) (planned ready)
    (t.plans.shadow.cls 2).defined = false ∧ t.plans.shadow.count = 0 ∧ (t.active.cls 2).defined = true := by
  decide +kernel

theorem test_live_edit :
    let content : Vector Byte 14 := Vector.ofFn fun i => { levelClass with margin := 100 }.encode.getD i.val 0
    let edit := Instr.liveEdit 3 2 content (crcOf 0x14 (3 :: halfBytes 2 ++ content.toList))
    (after edit (planned ready)).active.cls 2 = { levelClass with margin := 100 }
      ∧ (after edit (planned ready)).plans.shadow.cls 2 = levelClass
      ∧ answerTo edit ready = some ⟨.range, []⟩ := by decide +kernel

theorem test_apply :
    let s := inRun .running (planned ready)
    (after (.applyPlan (bareCrc 0x15)) s).plans.applyPending = true
      ∧ answerTo (.applyPlan (bareCrc 0x15)) s = some ⟨.accepted, []⟩
      ∧ answerTo (.applyPlan (bareCrc 0x15)) ready = some ⟨.invalid, [0, 0, 0, 8]⟩ := by decide +kernel

theorem test_apply_cancel :
    answerTo (.applyCancel (bareCrc 0x16)) ready = some ⟨.state, []⟩ := by decide +kernel

theorem test_run_start :
    let t := after (.runStart 0 (crcOf 0x20 [0])) (withProbes syncingProbe (planned ready))
    t.timer.run = .syncing ∧ (t.probe 7).outstanding = some 0
      ∧ (t.portState 7).transmit = [.mark 0 0 0] ∧ t.port.answer = some ⟨.done, []⟩ := by decide +kernel

theorem test_run_pause :
    let t := after (.runPause (bareCrc 0x21)) (runningAt 0 0)
    t.timer.run = .paused ∧ (t.portState 7).transmit = [.park .release] ∧ t.port.isSet .run = true := by
  decide +kernel

theorem test_run_resume :
    let t := after (.runResume (bareCrc 0x22)) (inRun .paused (runningAt 3 25))
    t.timer.run = .running ∧ t.timer.sweepTime = 0 ∧ t.timer.sweepNumber = 4 ∧ t.timer.pattern = 1
      ∧ t.timer.fixtureTime = 5025 := by decide +kernel

theorem test_run_stop :
    let t := after (.runStop (bareCrc 0x23)) (runningAt 0 0)
    t.timer.run = .stopped ∧ (t.probe 7).state = .syncing ∧ t.port.isSet .run = true := by decide +kernel

theorem test_run_abort :
    let t := after (.runAbort (bareCrc 0x24)) (after (.timedMark 0) (runningAt 0 0))
    t.timer.run = .stopped ∧ t.tableEmpty = true ∧ t.turn 0 = 1 ∧ (t.probe 3).current = none := by
  decide +kernel

theorem test_link_read :
    (answerTo (.linkRead 12 (crcOf 0x30 (halfBytes 12))) (planned ready)).map (fun a => (a.status, a.bytes.length))
        = some (.done, 87)
      ∧ answerTo (.linkRead 14 (crcOf 0x30 (halfBytes 14))) (planned ready) = some ⟨.range, []⟩ := by
  decide +kernel

theorem test_link_clear :
    let s := (planned ready).setLink 12 { LinkRecord.fresh 0 with verdict := .failed, fail := 3, withdrawn := true }
    let t := after (.linkClear 12 (crcOf 0x31 (halfBytes 12))) s
    t.link 12 = { LinkRecord.fresh 0 with withdrawn := true } ∧ t.router.q0.records.length = 1 := by
  decide +kernel

theorem test_link_withdraw :
    let t := after (.linkWithdraw 12 (crcOf 0x32 (halfBytes 12))) (planned ready)
    (t.link 12).withdrawn = true ∧ (t.link 13).withdrawn = false := by decide +kernel

theorem test_link_restore :
    let s := (planned ready).setLink 12 { LinkRecord.fresh 0 with withdrawn := true }
    ((after (.linkRestore 12 (crcOf 0x33 (halfBytes 12))) s).link 12).withdrawn = false := by decide +kernel

theorem test_probe_read :
    (answerTo (.probeRead 18 (crcOf 0x34 [18])) ready).map (·.bytes.length) = some 37
      ∧ answerTo (.probeRead 0 (crcOf 0x34 [0])) ready = some ⟨.range, []⟩
      ∧ answerTo (.probeRead 19 (crcOf 0x34 [19])) ready = some ⟨.range, []⟩ := by decide +kernel

def mark9 : ResultRecord := { ResultRecord.blank .mark 4 2350 with marker := some 9 }

def queued (s : State) : State := { s with router := { s.router with q1 := ⟨[mark9, mark9], 7, true⟩ } }

theorem test_queue_pop :
    let t := after (.queuePop 1 (crcOf 0x40 [1])) (queued ready)
    t.router.q1 = ⟨[mark9], 7, true⟩ ∧ t.port.answer = some ⟨.done, mark9.encode⟩
      ∧ answerTo (.queuePop 0 (crcOf 0x40 [0])) (queued ready) = some ⟨.empty, []⟩
      ∧ answerTo (.queuePop 2 (crcOf 0x40 [2])) (queued ready) = some ⟨.range, []⟩ := by decide +kernel

theorem test_queue_status :
    answerTo (.queueStatus 1 (crcOf 0x41 [1])) (queued ready) = some ⟨.done, [2, 0, 32, 0, 7, 1]⟩ := by
  decide +kernel

theorem test_queue_flush :
    (after (.queueFlush 1 (crcOf 0x42 [1])) (queued ready)).router.q1 = ⟨[], 0, false⟩ := by decide +kernel

def waiting12 : SpotRequest := ⟨none, 12, 2, 20, ⟨0, 0, 0, 0⟩, none, none⟩

theorem test_spot_request :
    (after (.spotRequest 12 2 20 (crcOf 0x48 (halfBytes 12 ++ [2, 20]))) (planned ready)).spot = [waiting12]
      ∧ answerTo (.spotRequest 12 17 20 (crcOf 0x48 (halfBytes 12 ++ [17, 20]))) (planned ready)
        = some ⟨.range, []⟩ := by decide +kernel

theorem test_spot_cancel :
    let t := after (.spotCancel 12 (crcOf 0x49 (halfBytes 12))) ((planned ready).withSpot [waiting12])
    t.spot = [] ∧ t.port.isSet .spot = true ∧ t.router.q0.records.length = 1
      ∧ answerTo (.spotCancel 12 (crcOf 0x49 (halfBytes 12))) (planned ready) = some ⟨.empty, []⟩ := by
  decide +kernel

theorem test_spot_list :
    (answerTo (.spotList (bareCrc 0x4A)) ((planned ready).withSpot [waiting12])).map (fun a => a.bytes.head?)
      = some (some 1) := by decide +kernel

def selection : Selection := ⟨[3, 7], .offset, .low, true⟩

def capturing : State :=
  (withProbes syncingProbe ready).withSession
    ⟨.capturing, some selection, [⟨3, true, none⟩, ⟨7, true, none⟩], some 50000⟩

theorem test_cal_select :
    (after (.calSelect 0x44 0 0 1 (crcOf 0x50 (threeBytes 0x44 ++ [0, 0, 1]))) ready).registry.session
      = ⟨.idle, some selection, [⟨3, false, none⟩, ⟨7, false, none⟩], none⟩ := by decide +kernel

theorem test_cal_capture :
    let t := after (.calCapture (bareCrc 0x51))
      ((withProbes syncingProbe ready).withSession ⟨.idle, some selection, [], none⟩)
    t.registry.session = capturing.registry.session ∧ (t.portState 7).transmit = [.calMeas false .low]
      ∧ t.port.answer = some ⟨.accepted, []⟩ := by decide +kernel

def held : State :=
  ready.withSession ⟨.held, some selection,
    [⟨3, false, some (.candidate 40)⟩, ⟨7, false, some (.failed .noAnswer)⟩], none⟩

theorem test_cal_accept :
    let t := after (.calAccept (bareCrc 0x52)) held
    (t.probe 3).coeffLow = ⟨40, 32768⟩ ∧ (t.probe 3).coeffHigh = ⟨40, 32768⟩ ∧ (t.probe 7).coeffLow = ⟨0, 32768⟩
      ∧ t.store.state = .busy .fixtureWrite ∧ t.registry.session.state = .writing := by decide +kernel

theorem test_cal_revert :
    let s := withProbes { stepping with coeffLow := ⟨9, 30000⟩, coeffHigh := ⟨8, 31000⟩ } ready
    let t := after (.calRevert 0x04 0 (crcOf 0x53 (threeBytes 0x04 ++ [0]))) s
    (t.probe 3).coeffLow = ⟨0, 32768⟩ ∧ (t.probe 3).coeffHigh = ⟨8, 31000⟩
      ∧ (t.probe 4).coeffLow = ⟨9, 30000⟩ := by decide +kernel

def latched (s : State) : State := { s with store := { s.store with latch := true } }

def stored : StoreSlot := ⟨.valid, false, blankLabel, some smallPlan⟩

def withSlots (x : StoreSlot) (s : State) : State := { s with store := { s.store with slots := Vector.replicate 4 x } }

def busyWith (op : StoreOp) (s : State) : State := { s with store := { s.store with state := .busy op } }

theorem test_store_write_enable :
    (after (.storeWriteEnable (bareCrc 0x60)) ready).store.latch = true := by decide +kernel

theorem test_store_save :
    let save := Instr.storeSave 3 blankLabel (crcOf 0x61 (3 :: blankLabel.toList))
    (after save (latched ready)).store.state = .busy (.save 3) ∧ (after save (latched ready)).store.latch = false
      ∧ answerTo save ready = some ⟨.noLatch, []⟩ := by decide +kernel

theorem test_store_erase :
    let erase := Instr.storeErase 0 (crcOf 0x63 [0])
    ((after erase (latched (withSlots stored ready))).storeSlot 0).state = .invalid
      ∧ answerTo erase (latched (withSlots { stored with locked := true } ready)) = some ⟨.locked, []⟩ := by
  decide +kernel

theorem test_store_lock :
    let lock := Instr.storeLock 1 (crcOf 0x64 [1])
    (after lock (latched (withSlots stored ready))).store.state = .busy (.lock 1)
      ∧ answerTo lock (latched ready) = some ⟨.invalid, []⟩ := by decide +kernel

theorem test_store_load :
    let load := Instr.storeLoad 2 (crcOf 0x62 [2])
    (after load (withSlots stored ready)).store.state = .busy (.load 2)
      ∧ answerTo load ready = some ⟨.invalid, []⟩
      ∧ answerTo (.storeLoad 4 (crcOf 0x62 [4])) ready = some ⟨.range, []⟩ := by decide +kernel

theorem test_store_set_boot :
    (after (.storeSetBoot 3 (crcOf 0x65 [3])) ready).store.boot = some 3
      ∧ (after (.storeSetBoot 255 (crcOf 0x65 [255])) ready).store.boot = none
      ∧ answerTo (.storeSetBoot 4 (crcOf 0x65 [4])) ready = some ⟨.range, []⟩ := by decide +kernel

theorem test_attn_enable :
    (after (.attnEnable 0xF00F (crcOf 0x70 (halfBytes 0xF00F))) ready).port.enables = 0x00F := by decide +kernel

theorem test_attn_clear :
    let s := { ready with port := { ready.port with flags := 0xFFF } }
    (after (.attnClear 0x003 (crcOf 0x71 (halfBytes 0x003))) s).port.flags = 0xFFC := by decide +kernel

theorem test_soft_reset :
    let t := after (.softReset (bareCrc 0x7F)) (after (.timedMark 0) (runningAt 0 0))
    t.timer.run = .stopped ∧ t.timer.fixtureTime = 0 ∧ t.turn 0 = 2 ∧ (t.probe 7).state = .syncing
      ∧ (t.portState 7).transmit = [.park .release] ∧ t.active.count = 5 := by decide +kernel

theorem test_unknown_command :
    answerTo (.unknownCommand 0x03 (crc8 [0x03])) ready = some ⟨.unknown, []⟩
      ∧ answerTo (.unknownCommand 0x03 (crc8 [0x03] + 1)) ready = some ⟨.crc, []⟩ := by decide +kernel

theorem test_hello :
    let t := after (.hello 6 0x1234 7 3) ready
    (t.probe 7).state = .unconfigured ∧ (t.probe 7).serial = some 0x1234 ∧ (t.probe 7).codeMismatch = false
      ∧ (t.portState 7).transmit = [.setup .drop .release] ∧ t.port.isSet .probe = true
      ∧ ((after (.hello 6 0x1234 32 3) ready).portState 7).frameErrors = 1 := by decide +kernel

theorem test_setup_ack :
    ((after (.setupAck 6) (withProbes { syncingProbe with state := .unconfigured } ready)).probe 7).state = .syncing
      ∧ ((after (.setupAck 6) ready).probe 7).strayCount = 1 := by decide +kernel

theorem test_mark_ack :
    let e := { syncingProbe with outstanding := some 4, syncCount := 1 }
    ((after (.markAck 6 4) (withProbes e ready)).probe 7).state = .inStep
      ∧ ((after (.markAck 6 5) (withProbes e ready)).probe 7).strayCount = 1 := by decide +kernel

theorem test_status_report :
    let t := after (.statusReport 6 2 9 7) (withProbes stepping ready)
    (t.probe 7).state = .faulted ∧ (t.probe 7).fault = some 9 ∧ (t.probe 7).mainPower = false
      ∧ (t.probe 7).auxPower = true := by decide +kernel

/-- Step 0 started in table slot 0 with turn 1: talker 3 and expect listener 7 are assigned. -/
def stepOpen : State := after (.timedMark 0) (runningAt 0 0)

theorem test_done_report :
    let t := after (.doneReport 2 0x01 0) stepOpen
    (t.probe 3).current = none ∧ t.tableEmpty = false
      ∧ ((after (.doneReport 2 0x02 0) stepOpen).probe 3).strayCount = 1 := by decide +kernel

/-- The READING that completes the step judges link 12 (05). -/
theorem test_reading_report :
    let t := after (.readingReport 6 0x01 3240 0 0) (after (.doneReport 2 0x01 0) stepOpen)
    t.tableEmpty = true ∧ (t.link 12).inRange = 1 ∧ (t.link 12).verdict = .testing
      ∧ (t.link 12).lastObservation = some ⟨3, .inRange, some 3240⟩ ∧ t.link 13 = LinkRecord.fresh 0 := by
  decide +kernel

theorem test_contres_report :
    ((after (.contresReport 6 0x01 0 0 0) stepOpen).probe 7).strayCount = 1 := by decide +kernel

theorem test_cal_read :
    (after (.calRead 2 40) capturing).registry.session.captures
        = [⟨3, false, some (.candidate 40)⟩, ⟨7, true, none⟩]
      ∧ (after (.calRead 6 5000) (after (.calRead 2 40) capturing)).registry.session.state = .held := by
  decide +kernel

theorem test_spot_ask :
    let t := after (.spotAsk 6 12 2 20) (withProbes stepping (planned ready))
    t.spot = [{ waiting12 with requester := some 7 }] ∧ (t.portState 7).transmit = [.spotAns 12 0]
      ∧ ((after (.spotAsk 4 12 2 20) (withProbes stepping (planned ready))).portState 5).transmit
        = [.spotAns 12 1] := by decide +kernel

theorem test_spot_drop :
    let s := (withProbes stepping (planned ready)).withSpot [{ waiting12 with requester := some 7 }]
    (after (.spotDrop 6 12) s).spot = [] ∧ (after (.spotDrop 2 12) s).spot = s.spot := by decide +kernel

theorem test_frame_error :
    ((after (.frameError 6 [0x82, 0, 0, 0]) ready).portState 7).frameErrors = 1 := by decide +kernel

theorem test_probe_frame_send :
    let s := send 7 (.park .idle) ready
    let t := after (.probeFrameSend 6 false) s
    (t.portState 7).transmit = [] ∧ (t.portState 7).sent = (Message.park .idle).frame := by decide +kernel

theorem test_sweep_start :
    let s := runningAt 5 999
    let t := after .sweepStart { s with timer := { s.timer with sweepEndDue := true } }
    t.timer.sweepNumber = 4 ∧ t.timer.sweepTime = 0 ∧ t.timer.pattern = 1 ∧ (t.probe 7).outstanding = some 4
      ∧ (t.portState 7).transmit = [.mark 4 5999 1] := by decide +kernel

theorem test_timed_mark :
    stepOpen.turn 0 = 1 ∧ (stepOpen.openAt 0).map (fun o => (o.start, o.deadline)) = some (5000, 6300)
      ∧ (stepOpen.portState 3).transmit = [.drive ⟨0, 1⟩ .high 5200 100]
      ∧ (stepOpen.portState 7).transmit = [.listen ⟨0, 1⟩ false .level .high 5200 5300] := by decide +kernel

theorem test_merged_mark :
    let t := after (.mergedMark 1) (runningAt 1 10)
    t.engine.merged = some ⟨[], some 0⟩ ∧ (t.openAt 0).isSome = true := by decide +kernel

theorem test_mark_entry :
    let t := after (.markEntry 2) (runningAt 2 20)
    t.port.isSet .mark = true ∧ t.router.q0.records.map (·.marker) = [some 9] := by decide +kernel

theorem test_free_entry :
    let t := after (.freeEntry 3) ((runningAt 3 30).withSpot [waiting12])
    t.engine.free = some ⟨false⟩ ∧ t.spot.map (·.inFlight) = [some ⟨0, 1⟩] := by decide +kernel

/-- The talker's silence: the deadline gives VOID_TALKER and misses for both participants. -/
theorem test_deadline :
    let t := after (.deadline 0 1) { stepOpen with timer := { stepOpen.timer with fixtureTime := 6300 } }
    t.tableEmpty = true ∧ (t.link 12).void = 1 ∧ (t.link 12).attempts = 0 ∧ (t.probe 3).missCount = 1
      ∧ (after (.deadline 0 1) stepOpen).tableEmpty = false := by decide +kernel

/-- Step 0 started two ticks before the limit of fixture time. -/
def stepLate : State :=
  let s := runningAt 0 0
  after (.timedMark 0) { s with timer := { s.timer with fixtureTime := 4294967294 } }

theorem test_fixture_time_limit :
    let t := after .fixtureTimeLimit stepLate
    t.timer.run = .stopped ∧ t.tableEmpty = true ∧ t.port.isSet .run = true
      ∧ t.timer.fixtureTime = 4294967295
      ∧ (after .fixtureTimeLimit { stepLate with clock := 1 }).clock = 2
      ∧ (after .fixtureTimeLimit t).clock = t.clock := by decide +kernel

theorem test_capture_deadline :
    let t := after .captureDeadline { capturing with clock := 50000 }
    t.registry.session.state = .held
      ∧ t.registry.session.captures.map (·.result) = [some (.failed .noAnswer), some (.failed .noAnswer)] := by
  decide +kernel

theorem test_save_end :
    let t := after (.saveEnd true) (after (.storeSave 3 blankLabel (crcOf 0x61 (3 :: blankLabel.toList))) (latched ready))
    (t.storeSlot 3).state = .valid ∧ t.store.lastResult = some ⟨.save 3, true⟩ ∧ t.store.state = .idle := by
  decide +kernel

theorem test_erase_end :
    ((after (.eraseEnd true) (busyWith (.erase 0) (withSlots stored ready))).storeSlot 0).state = .empty := by
  decide +kernel

theorem test_lock_end :
    ((after (.lockEnd true) (busyWith (.lock 0) (withSlots stored ready))).storeSlot 0).locked = true := by
  decide +kernel

theorem test_load_end :
    (after .loadEnd (busyWith (.load 0) (withSlots stored ready))).plans.shadow.count = 5 := by decide +kernel

theorem test_fixture_write_end :
    let t := after (.fixtureWriteEnd true) (after (.calAccept (bareCrc 0x52)) held)
    (t.probe 3).calLow = .calibrated ∧ (t.probe 7).calLow = .default ∧ t.store.fixture.valid = true
      ∧ t.registry.session.state = .idle ∧ t.port.isSet .cal = true := by decide +kernel

theorem test_hard_reset :
    let t := after .hardReset (withSlots stored stepOpen)
    t.port.resetLow = true ∧ t.tableEmpty = true ∧ (t.storeSlot 2).state = .valid ∧ t.store.state = .starting
      ∧ ((after (.setupAck 6) t).probe 7).strayCount = 0 := by
  decide +kernel

theorem test_start_up_begin :
    (after .startUpBegin (after .hardReset ready)).port.resetLow = false
      ∧ (after .hardReset ready).misoReleased = true := by decide +kernel

/-- CS# was low as RESET# rose. -/
def selected : State := { ready with port := { ready.port with csLow := true } }

/-- The transaction whose CS# was low as RESET# rose is not taken, and the next one is. -/
theorem test_chip_select_at_reset :
    let s := after .startUpBegin (after .hardReset selected)
    let t := after (.statusRead (bareCrc 0x01)) s
    s.misoReleased = false ∧ t.port.answer = none ∧ t.port.csLow = false
      ∧ (answerTo (.statusRead (bareCrc 0x01)) t).map (·.status) = some .done := by decide +kernel

theorem test_start_up_end :
    let t := after (.startUpEnd 0) State.reset
    t.store.state = .idle ∧ t.store.bootResult = some .none ∧ t.port.isSet .store = true
      ∧ ((after (.startUpEnd 4) (withSlots stored State.reset)).storeSlot 2).state = .invalid := by
  decide +kernel

def stepped (s : State) : State :=
  match step s with
  | .next t => t
  | .fault _ => s
  | .refused _ => s

/-- A request that waits runs at the next step, and an empty queue lets the clock go on. -/
theorem test_steps :
    let t := stepped { ready with pending := [.storeWriteEnable (bareCrc 0x60), .loadEnd] }
    t.pending = [.loadEnd] ∧ t.store.latch = true ∧ t.clock = 0 ∧ (stepped t).pending = []
      ∧ (stepped State.reset).clock = 1 := by decide +kernel

/-! ## Witnesses: a state and operands that meet the hypotheses of each statement, clause by clause -/

def lowReset : State := { ready with port := { ready.port with resetLow := true } }

def loadingState : State := busyWith (.load 0) (planned ready)

def applyHeld (s : State) : State := { s with plans := { s.plans with applyPending := true } }

theorem test_witness_StepRunsTheFrontCommand :
    { ready with pending := [.loadEnd, .sweepStart] }.pending = .loadEnd :: [.sweepStart] := by decide +kernel

/-- A RUNNING part between two marks, one at the last tick of its sweep, a stopped one, one under RESET#. -/
theorem test_witness_IdleStepIsOneTick :
    ((runningAt 1 5).pending = [] ∧ (runningAt 1 5).dueEvents = [] ∧ (runningAt 1 5).port.resetLow = false
        ∧ (runningAt 1 5).timerRuns = true ∧ (runningAt 1 5).timer.sweepTime + 1 < (runningAt 1 5).sweepLength)
      ∧ ((runningAt 5 999).dueEvents = [] ∧ ¬ (runningAt 5 999).timer.sweepTime + 1 < (runningAt 5 999).sweepLength)
      ∧ (ready.dueEvents = [] ∧ ready.timerRuns = false)
      ∧ (lowReset.pending = [] ∧ lowReset.dueEvents = [] ∧ lowReset.port.resetLow = true) := by decide +kernel

theorem test_witness_EveryCommandGoesOn :
    lowReset.port.resetLow = true ∧ Instr.loadEnd ≠ .hardReset ∧ Instr.loadEnd ≠ .startUpBegin := by
  decide +kernel

theorem test_witness_PortChecksComeFirst :
    ((Instr.applyPlan 0).request = some ⟨0x15, [], 0⟩ ∧ requestCrc 0x15 [] ≠ 0 ∧ ready.listens = true)
      ∧ (requestCrc 0x15 [] = bareCrc 0x15 ∧ State.reset.store.state = .starting
        ∧ State.reset.listens = true)
      ∧ (parameterLength 0x00 = none ∧ parameterLength 0x03 = none ∧ parameterLength 0x7E = none
        ∧ parameterLength 0x80 = none ∧ parameterLength 0x7F ≠ none)
      ∧ (selected.port.resetLow = false ∧ selected.port.csLow = true ∧ selected.listens = false) := by
  decide +kernel

theorem test_witness_StatusReadReturnsTheStatus :
    ready.listens = true ∧ ready.starting = false ∧ State.reset.starting = true
      ∧ State.reset.listens = true ∧ ready.serves = true ∧ State.reset.serves = false := by decide +kernel

theorem test_witness_LinkAndProbeReads :
    (planned ready).serves = true ∧ (planned ready).linkDefined 12 = true
      ∧ (planned ready).linkDefined 511 = false ∧ (planned ready).linkDefined 512 = false := by decide +kernel

theorem test_witness_QueueStatusAndSpotListRead :
    QueueId.ofByte 0 = some .q0 ∧ QueueId.ofByte 1 = some .q1 ∧ QueueId.ofByte 2 = none := by decide +kernel

theorem test_witness_PlanReadsReturnOnePart :
    Target.ofCode 0 999 = some .params ∧ Target.ofCode 1 511 = some (.step 511) ∧ Target.ofCode 1 512 = none
      ∧ Target.ofCode 2 511 = some (.link 511) ∧ Target.ofCode 2 512 = none
      ∧ Target.ofCode 3 31 = some (.cls 31) ∧ Target.ofCode 3 32 = none
      ∧ Target.ofCode 4 31 = some (.filter 31) ∧ Target.ofCode 4 32 = none ∧ Target.ofCode 5 0 = none
      ∧ loadingState.serves = true ∧ loadingState.loading = true ∧ (planned ready).loading = false := by
  decide +kernel

theorem test_witness_QueueRequests :
    (queued ready).serves = true ∧ QueueId.ofByte 1 = some .q1 ∧ ((queued ready).router.queue .q1).records = mark9 :: [mark9]
      ∧ ((queued ready).router.queue .q0).records = [] ∧ 1 < (2 : Byte).toNat := by decide +kernel

/-- Queues of 63 and of 64 records, the lost count at and below its top. -/
theorem test_witness_FullQueueLosesOneRecord :
    (List.replicate 63 mark9).length < 64 ∧ (List.replicate 64 mark9).length = 64
      ∧ List.replicate 64 mark9 = mark9 :: List.replicate 63 mark9
      ∧ (ResultQueue.offer ⟨List.replicate 64 mark9, 65535, false⟩ .blocking mark9).1.lost = 65535
      ∧ (ResultQueue.offer ⟨List.replicate 64 mark9, 65534, false⟩ .overwrite mark9).1.lost = 65535 := by
  decide +kernel

/-- A plan that filters MARK records and the records of links 12 to 13, and discards the others. -/
def filterPlan : Plan :=
  { smallPlan with
    params := { smallPlan.params with unmatched := .discard }
    filters := Tab.put (Tab.put smallPlan.filters
      3 ⟨.range, 12, 13, 0, 0x3F, .toQ1⟩)
      5 ⟨.any, 0, 0, 0, 0x20, .urgentQ0⟩ }

theorem test_witness_FullQueueRoutes :
    let skip := fun id => { ResultRecord.blank .skipped 4 2350 with link := some id }
    firstMatch filterPlan (skip 13) = some 3 ∧ routeOf filterPlan (skip 13) = .toQ1
      ∧ firstMatch filterPlan mark9 = some 5 ∧ routeOf filterPlan mark9 = .urgentQ0
      ∧ firstMatch filterPlan (skip 14) = none ∧ routeOf filterPlan (skip 14) = .discard
      ∧ routeOf smallPlan mark9 = .toQ0
      ∧ (⟨.pair, 12, 14, 0, 0x3F, .toQ0⟩ : FilterElement).isMatch (skip 14) = true
      ∧ (⟨.masked, 12, 0, 0xFFFC, 0x3F, .toQ0⟩ : FilterElement).isMatch (skip 15) = true := by
  decide +kernel

theorem test_witness_ShadowWriteReplacesOnePart :
    (planned ready).loading = false ∧ (planned ready).plans.applyPending = false
      ∧ Target.ofCode 1 511 = some (.step 511)
      ∧ ((planned ready).plans.shadow.write (.step 511) (List.replicate 48 0)).isSome = true
      ∧ (applyHeld ready).plans.applyPending = true ∧ (applyHeld ready).serves = true
      ∧ ready.shadowWritten 1 512 (List.replicate 48 0) = none
      ∧ ready.shadowWritten 1 0 (List.replicate 48 9) = none := by decide +kernel

theorem test_witness_WrittenPartReadsBack :
    (List.replicate 48 (0 : Byte)).length = 48
      ∧ (Plan.empty.write (.step 511) (List.replicate 48 0)).isSome = true
      ∧ (Plan.empty.write (.link 511) (List.replicate 48 0)).isSome = true
      ∧ (Plan.empty.write (.cls 31) (List.replicate 48 0)).isSome = true
      ∧ (Plan.empty.write (.filter 31) (List.replicate 48 0)).isSome = true
      ∧ (Plan.empty.write .params (List.replicate 48 0)).isSome = true
      ∧ (.cls 31 : Target) ≠ .params := by decide +kernel

theorem test_witness_ShadowClear :
    ready.serves = true ∧ ready.loading = false ∧ ready.plans.applyPending = false
      ∧ State.reset.listens = true ∧ State.reset.starting = true
      ∧ smallPlan.validate 0 = none ∧ smallPlan.planSlots = [3, 7] := by decide +kernel

theorem test_witness_LiveEdit :
    ((planned ready).active.cls 2).defined = true ∧ ClassDef.decode levelClass.encode = some levelClass
      ∧ levelClass.inRange = true ∧ { levelClass with margin := 32768 }.inRange = false
      ∧ ((planned ready).active.cls 31).defined = false
      ∧ FilterElement.decode (FilterElement.off.encode ++ [0, 0, 0, 0, 0]) = some FilterElement.off
      ∧ FilterElement.decode (List.replicate 14 9) = none := by decide +kernel

theorem test_witness_Apply :
    (planned ready).plans.shadow.validate (planned ready).plans.generation = none
      ∧ (planned ready).timer.run = .stopped ∧ (inRun .running (planned ready)).timer.run ≠ .stopped
      ∧ ready.plans.shadow.validate ready.plans.generation = some ⟨.parameters, 0, .paramRange⟩
      ∧ (applyHeld (planned ready)).plans.applyPending = true ∧ (applyHeld (planned ready)).loading = false := by
  decide +kernel

theorem test_witness_RunStart :
    (planned ready).serves = true ∧ (0 : Byte).toNat ≤ 1 ∧ (1 : Byte).toNat ≤ 1 ∧ 1 < (2 : Byte).toNat
      ∧ (planned ready).timer.run = .stopped ∧ (planned ready).registry.session.state.allowsRun = true
      ∧ (planned ready).active.count ≠ 0 ∧ capturing.registry.session.state.allowsRun = false
      ∧ ready.active.params.stepCount = 0 := by decide +kernel

theorem test_witness_RunRequests :
    stepOpen.serves = true ∧ stepOpen.timer.run = .running ∧ stepOpen.tableEmpty = false
      ∧ (runningAt 0 0).serves = true ∧ (runningAt 0 0).timer.run = .running ∧ (runningAt 0 0).tableEmpty = true
      ∧ (inRun .paused (runningAt 0 0)).timer.run = .paused ∧ ready.timer.run = .stopped
      ∧ (applyHeld (runningAt 0 0)).plans.applyPending = true := by decide +kernel

def inFlight12 (e : Option Ending) : SpotRequest := { waiting12 with inFlight := some ⟨0, 1⟩, endPending := e }

/-- RUN ABORT with no spot test in flight, with one, and with one whose end is pending. -/
theorem test_witness_RunAbort :
    let s := fun q => (withProbes syncingProbe (runningAt 0 0)).withSpot [q]
    let inFlight := fun q => (s q).spot.find? fun q => q.inFlight.isSome
    (s waiting12).serves = true ∧ (s waiting12).timer.run ≠ .stopped
      ∧ (s waiting12).plans.applyPending = false ∧ (∀ q ∈ (s waiting12).spot, q.inFlight = none)
      ∧ inFlight (inFlight12 none) = some (inFlight12 none)
      ∧ inFlight (inFlight12 (some .withdrawn)) = some (inFlight12 (some .withdrawn))
      ∧ (∀ n ∈ allSlots, ((s waiting12).probe n).state ≠ .inStep) := by decide +kernel

theorem test_witness_LinkRequests :
    (planned ready).linkDefined 12 = true ∧ ((planned ready).link 12).withdrawn = false
      ∧ ((planned ready).link 12).verdict = .untested ∧ (planned ready).spotFor 12 = none
      ∧ ((planned ready).withSpot [waiting12]).spotFor 12 = some waiting12 ∧ waiting12.inFlight = none
      ∧ ((planned ready).withSpot [inFlight12 none]).spotFor 12 = some (inFlight12 none)
      ∧ (inFlight12 none).inFlight ≠ none
      ∧ (((planned ready).setLink 12 { LinkRecord.fresh 0 with withdrawn := true, verdict := .failed }).link 12).withdrawn
        = true := by decide +kernel

theorem test_witness_SpotRequest :
    (1 : Byte).toNat = 1 ∧ (16 : Byte).toNat ≤ 16 ∧ 16 < (17 : Byte).toNat
      ∧ (∀ r ∈ ((planned ready).withSpot (List.replicate 7 { waiting12 with link := 13 })).spot, r.link ≠ 12)
      ∧ (List.replicate 7 waiting12).length < 8 ∧ 8 ≤ (List.replicate 8 { waiting12 with link := 13 }).length
      ∧ (∃ r ∈ ((planned ready).withSpot [waiting12]).spot, r.link = 12) := by decide +kernel

theorem test_witness_SpotAsk :
    let s := withProbes stepping (planned ready)
    let answer := fun (s : State) n => (s.arrival (some n) 12 2).toByte
    s.port.resetLow = false ∧ (s.probe (slotOf 6)).state = .inStep ∧ s.starting = false
      ∧ slotOf 6 ∈ (s.active.link 12).endpoints ∧ slotOf 4 ∉ (s.active.link 12).endpoints
      ∧ answer s 7 = 0 ∧ answer s 5 = 1
      ∧ answer (s.setLink 12 { LinkRecord.fresh 0 with withdrawn := true }) 7 = 2
      ∧ answer (s.withSpot [waiting12]) 7 = 3
      ∧ answer (s.withSpot (List.replicate 8 { waiting12 with link := 13 })) 7 = 4
      ∧ ((withProbes syncingProbe State.reset).probe (slotOf 6)).state = .syncing
      ∧ (withProbes syncingProbe State.reset).starting = true
      ∧ (ready.probe (slotOf 6)).state ≠ .syncing ∧ (ready.probe (slotOf 6)).state ≠ .inStep := by decide +kernel

/-- A SPOTASK during start-up is answered when start-up ends (R176). -/
theorem test_spot_ask_held :
    let t := after (.spotAsk 6 12 2 20) (withProbes syncingProbe State.reset)
    t.store.held = [.spotAns 7 12 1] ∧ (t.portState 7).transmit = []
      ∧ (after (.startUpEnd 0) t).store.held = []
      ∧ ((after (.startUpEnd 0) t).portState 7).transmit = [.spotAns 12 1] := by decide +kernel

theorem test_witness_SpotCancel :
    let mine := fun (r : SpotRequest) => { r with requester := some 7 }
    let s := fun r => (withProbes stepping (planned ready)).withSpot [r]
    (s (inFlight12 none)).spotFor 12 = some (inFlight12 none) ∧ (inFlight12 none).endPending = none
      ∧ (s (inFlight12 (some .withdrawn))).spotFor 12 = some (inFlight12 (some .withdrawn))
      ∧ (s waiting12).spotFor 12 = some waiting12 ∧ (s waiting12).spotFor 13 = none
      ∧ (511 : Half).toNat ≤ 511 ∧ 511 < (512 : Half).toNat
      ∧ (s (mine waiting12)).spotFor 12 = some (mine waiting12) ∧ (mine waiting12).requester = some (slotOf 6)
      ∧ (s (mine (inFlight12 none))).spotFor 12 = some (mine (inFlight12 none))
      ∧ (s (mine (inFlight12 (some .withdrawn)))).spotFor 12 = some (mine (inFlight12 (some .withdrawn)))
      ∧ ((s waiting12).probe (slotOf 6)).state = .inStep ∧ waiting12.requester ≠ some (slotOf 6)
      ∧ (ready.probe (slotOf 6)).state = .absent := by decide +kernel

theorem test_witness_CalSelect :
    CalKind.ofCode 1 = some .gain ∧ CalKind.ofCode 2 = none ∧ ProbeRange.ofCode 1 = some .high
      ∧ ProbeRange.ofCode 2 = none ∧ boolOfCode 1 = some true ∧ boolOfCode 2 = none
      ∧ (0x20000 : BitVec 24).getLsbD 17 = true ∧ (∀ n ∈ allSlots, (0xFC0000 : BitVec 24).getLsbD (n - 1) = false)
      ∧ ready.timer.run = .stopped ∧ ready.registry.session.state = .idle
      ∧ capturing.registry.session.state = .capturing := by decide +kernel

theorem test_witness_CalCapture :
    let s := (withProbes syncingProbe ready).withSession ⟨.idle, some selection, [], none⟩
    s.serves = true ∧ s.registry.session.selection = some selection ∧ selection.slots.Nodup
      ∧ (∀ n ∈ selection.slots, 1 ≤ n ∧ n ≤ 18) ∧ (∃ n ∈ selection.slots, (s.probe n).state = .syncing)
      ∧ (∀ n ∈ selection.slots, (ready.probe n).state ≠ .syncing) := by decide +kernel

theorem test_witness_CalRead :
    (capturing.probe (slotOf 2)).state = .syncing ∧ capturing.registry.session.state = .capturing
      ∧ capturing.registry.session.selection = some selection
      ∧ (∃ c ∈ capturing.registry.session.captures, c.slot = slotOf 2 ∧ c.outstanding = true)
      ∧ (∃ c ∈ capturing.registry.session.captures, c.slot ≠ slotOf 2 ∧ c.outstanding = true)
      ∧ (∀ c ∈ (after (.calRead 6 1) capturing).registry.session.captures, c.slot ≠ slotOf 2 → c.outstanding = false)
      ∧ ready.registry.session.awaits (slotOf 2) = false
      ∧ candidate .gain 24000 0 = .candidate 32768 ∧ capturing.registry.session.deadline = some 50000 := by
  decide +kernel

theorem test_witness_CalAcceptAndRevert :
    held.serves = true ∧ held.registry.session.state = .held ∧ held.registry.session.selection = some selection
      ∧ candidateSlots held.registry.session.captures = [3] ∧ held.store.state = .idle
      ∧ (held.registry.session.captures.map CaptureEntry.slot).Nodup
      ∧ (busyWith .fixtureWrite held).store.state ≠ .idle ∧ candidateSlots [] = [] ∧ ready.registry.session.state ≠ .held
      ∧ RangeChoice.ofCode 2 = some .both ∧ RangeChoice.ofCode 3 = none := by decide +kernel

theorem test_witness_StoreRequests :
    let s := latched (withSlots stored ready)
    s.serves = true ∧ (3 : Byte).toNat = (3 : Fin 4).val ∧ 4 ≤ (4 : Byte).toNat ∧ s.store.state = .idle
      ∧ s.store.latch = true ∧ (s.storeSlot 3).locked = false ∧ (s.storeSlot 3).state = .valid
      ∧ labelFits blankLabel = true ∧ labelFits (Vector.replicate 8 0x1F) = false
      ∧ labelFits (Vector.replicate 8 0x7E) = true ∧ labelFits (Vector.replicate 8 0x7F) = false
      ∧ ready.store.latch = false ∧ (ready.storeSlot 0).state ≠ .valid
      ∧ (busyWith .fixtureWrite s).store.state ≠ .idle ∧ (busyWith .fixtureWrite s).serves = true
      ∧ ((latched (withSlots { stored with locked := true } ready)).storeSlot 0).locked = true
      ∧ s.plans.applyPending = false ∧ (applyHeld s).plans.applyPending = true ∧ (254 : Byte).toNat ≠ 255 := by
  decide +kernel

theorem test_witness_StoreOperationsEnd :
    let s := withSlots stored ready
    (busyWith (.save 3) { s with store := { s.store with saveCopy := some ⟨Plan.empty, blankLabel⟩ } }).store.state
        = .busy (.save 3)
      ∧ (busyWith (.erase 0) s).store.state = .busy (.erase 0) ∧ (busyWith (.lock 0) s).store.state = .busy (.lock 0)
      ∧ (busyWith (.load 0) s).store.state = .busy (.load 0)
      ∧ ((busyWith (.load 0) s).storeSlot 0).content.isSome = true ∧ s.store.state = .idle := by decide +kernel

theorem test_witness_FixtureWriteEnds :
    let s := after (.calAccept (bareCrc 0x52)) held
    s.port.resetLow = false ∧ s.store.state = .busy .fixtureWrite
      ∧ s.registry.calWrite = some ⟨[3], .both, .calibrated⟩ ∧ RangeChoice.both.covers .low = true
      ∧ 7 ∉ [3] ∧ (s.probe 7).calLow ≠ .bad ∧ RangeChoice.low.covers .high = false
      ∧ (after (.storeSetBoot 3 (crcOf 0x65 [3])) ready).registry.calWrite = none := by decide +kernel

theorem test_witness_HardReset :
    lowReset.port.resetLow = true ∧ ready.port.resetLow = false
      ∧ (busyWith (.lock 2) ready).store.state = .busy (.lock 2)
      ∧ (busyWith .fixtureWrite ready).store.state = .busy .fixtureWrite := by decide +kernel

theorem test_witness_StartUpEnd :
    let f : FixtureRecord := ⟨Vector.replicate 18 ⟨⟨5, 30000⟩, ⟨6, 31000⟩, .calibrated, .default⟩, some 2, true⟩
    let s := withSlots stored { State.reset with store := { State.reset.store with fixture := f } }
    s.store.state = .starting ∧ s.port.resetLow = false ∧ s.store.fixture.valid = true
      ∧ State.reset.store.fixture.valid = false ∧ ((after (.startUpEnd 0) s).storeSlot 2).state = .valid
      ∧ ((after (.startUpEnd 4) s).storeSlot 2).state ≠ .valid ∧ smallPlan.validate 0 = none
      ∧ Plan.empty.validate 0 ≠ none ∧ ready.store.state ≠ .starting := by decide +kernel

theorem test_witness_ProbeMessages :
    let u := withProbes { syncingProbe with state := .unconfigured } ready
    let m := withProbes { syncingProbe with outstanding := some 4, syncCount := 1 } ready
    (31 : Byte).toNat ≤ 31 ∧ 31 < (32 : Byte).toNat ∧ ready.timer.run = .stopped ∧ ready.starting = false
      ∧ State.reset.starting = true ∧ (u.probe (slotOf 17)).state = .unconfigured
      ∧ (u.probe (slotOf 17)).setupOutstanding = true ∧ (m.probe (slotOf 17)).outstanding = some 4
      ∧ 1 ≤ (m.probe (slotOf 17)).syncCount ∧ (m.probe (slotOf 17)).state = .syncing
      ∧ ((withProbes { stepping with outstanding := some 4, state := .lost } ready).probe 1).outstanding = some 4
      ∧ (stepOpen.probe 3).state = .inStep ∧ (ready.probe 3).state = .absent := by decide +kernel

/-- A HELLO or a fault takes a probe out of a capture, with another probe awaited and as the last. -/
theorem test_witness_LeftSyncing :
    let last := after (.calRead 6 1) capturing
    (capturing.probe (slotOf 2)).state = .syncing ∧ capturing.registry.session.awaits (slotOf 2) = true
      ∧ (∃ c ∈ capturing.registry.session.captures, c.slot ≠ slotOf 2 ∧ c.outstanding = true)
      ∧ last.registry.session.awaits (slotOf 2) = true
      ∧ (∀ c ∈ last.registry.session.captures, c.slot ≠ slotOf 2 → c.outstanding = false)
      ∧ ready.registry.session.awaits (slotOf 2) = false := by decide +kernel

theorem test_left_syncing :
    (after (.statusReport 2 3 9 3) capturing).registry.session.captures
        = [⟨3, false, some (.failed .leftSyncing)⟩, ⟨7, true, none⟩]
      ∧ (after (.hello 2 7 3 3) (after (.calRead 6 1) capturing)).registry.session.state = .held := by
  decide +kernel

def withParams (f : Params → Params) (s : State) : State :=
  s.withPlans { s.plans with active := { s.active with params := f s.params } }

/-- The small run with a quorum of `n` plan probes. -/
def withQuorum (n : Byte) (s : State) : State := withParams (fun p => { p with quorum := n }) s

/-- The fault of probe 3 leaves one plan probe IN_STEP: enough for quorum 1, not for quorum 2. -/
theorem test_witness_QuorumLoss :
    let s := withQuorum 2 (runningAt 0 0)
    (s.probe (slotOf 2)).state = .inStep ∧ s.timer.run = .running ∧ s.tableEmpty = true
      ∧ (s.active.planSlots.countP fun n => n != slotOf 2 && (s.probe n).state == .inStep) = 1
      ∧ s.params.quorum.toNat = 2 ∧ (runningAt 0 0).params.quorum.toNat = 1
      ∧ s.timer.health ≠ .severe ∧ (inRun .pausing s).timer.run = .pausing := by decide +kernel

theorem test_quorum_loss :
    let t := after (.statusReport 2 3 9 3) (withQuorum 2 (runningAt 0 0))
    t.timer.run = .halted ∧ t.timer.health = .severe ∧ (t.portState 7).transmit = [.park .release]
      ∧ (after (.statusReport 2 3 9 3) (runningAt 0 0)).timer.run = .running := by decide +kernel

theorem test_witness_DiscardedReports :
    128 ≤ (0x80 : Byte).toNat ∧ (0x7F : Byte).toNat < 128 ∧ 1 < (2 : Byte).toNat ∧ 5 < (6 : Byte).toNat
      ∧ ((after (.readingReport 6 0x01 5 0 2) stepOpen).portState 7).frameErrors = 1
      ∧ ((after (.contresReport 6 0x01 1 6 0) stepOpen).portState 7).frameErrors = 1 := by decide +kernel

/-- Step 0's listener report does not complete it while the talker is awaited, and completes it after. -/
theorem test_witness_Reports :
    let t := after (.doneReport 2 0x01 0) stepOpen
    Tag.ofByte 0x01 = some ⟨0, 1⟩
      ∧ ((stepOpen.acceptor (slotOf 6) ⟨0, 1⟩ (.reading 3240 0 false)).map
          fun o => (o.receive (slotOf 6) (.reading 3240 0 false)).complete) = some false
      ∧ ((t.acceptor (slotOf 6) ⟨0, 1⟩ (.reading 3240 0 false)).map
          fun o => (o.receive (slotOf 6) (.reading 3240 0 false)).complete) = some true
      ∧ t.engine.merged = none ∧ t.engine.free = none ∧ t.timer.run = .running
      ∧ stepOpen.acceptor (slotOf 6) ⟨0, 2⟩ (.reading 3240 0 false) = none := by decide +kernel

/-- A spot test of the RAIL 13 has one EXPECT participant under the LEVEL class 2. -/
theorem test_witness_LevelReadingJudgesItsLink :
    let s := after (.freeEntry 3) ((runningAt 3 30).withSpot [{ waiting12 with link := 13 }])
    let t := { s with engine := { s.engine with free := none } }
    t.timer.run = .running ∧ t.engine.merged = none ∧ t.engine.free = none
      ∧ ((t.acceptor (slotOf 6) ⟨0, 1⟩ (.reading 3240 0 false)).map (·.participants)
          = some [⟨slotOf 6, .expect, some 2, none, none, .awaited, none⟩])
      ∧ ((t.acceptor (slotOf 6) ⟨0, 1⟩ (.reading 3240 0 false)).map fun o => (o.form, o.withdrawn, o.testLink))
          = some (.driven, false, 13)
      ∧ t.linkDefined 13 = true ∧ (t.link 13).definedIn ≤ 0 ∧ (t.active.cls 2).defined = true
      ∧ (t.active.cls 2).measure = .level := by decide +kernel

/-- Reports that close steps with each closure outcome. -/
theorem test_witness_Closures :
    let t := after (.doneReport 2 0x01 0) stepOpen
    let reading := Report.reading 3240 0 false
    let findings := fun (o : OpenStep) => (o.participants.filterMap (t.expectFinding 0)).map (·.outcome)
    reportOf (.readingReport 6 0x01 3240 0 0) = some (6, ⟨0, 1⟩, reading)
      ∧ t.linkDefined 12 = true ∧ t.linkDefined 14 = false
      ∧ ((stepOpen.openAt 0).map fun o => o.participants.any fun p =>
          p.role == .talker && p.report != some (.drive false)) = some true
      ∧ ((t.openAt 0).map fun o => (findings o, t.closureFinding o)) = some ([], ⟨.voidMissing, none, none⟩)
      ∧ ((t.openAt 0).map fun o => findings (o.receive 7 reading)) = some [.inRange]
      ∧ ((t.openAt 0).map fun o => o.participants.all fun p =>
          p.role != .talker || p.report == some (.drive false)) = some true
      ∧ (t.openAt 0).map OpenStep.form = some .driven := by decide +kernel

/-- The contended example's clauses: a missing contender, a wire off, a report against the arbitration. -/
theorem test_witness_Contended :
    let lost := fun n => some (Report.contest true n false)
    let won := some (Report.contest false 0 false)
    let ps := fun r2 r5 r9 r11 => (contest r2 r5 r9 r11).participants
    winnerCode (ps (lost 2) won (lost 5) none) = 9
      ∧ ((ps (lost 2) won none none).any fun p => p.role == .contender && p.report.isNone) = true
      ∧ ((ps won won (lost 4) (some (.reading 9 0 true))).find? wireOffSeen).map (·.slot) = some 11
      ∧ ((ps won won (lost 5) none).find? (disagrees 9)).map (·.slot) = some 2
      ∧ ((ps (lost 2) won (lost 5) none).all fun p => !disagrees 9 p) = true
      ∧ (12).testBit 2 ≠ (9).testBit 2 ∧ (12).testBit 3 = (9).testBit 3 := by decide +kernel

theorem test_witness_LineDiscardsAndSendsFrames :
    frameChecks [0x82, 0, 0, 0] = false ∧ frameChecks (frameOf 0x82 []) = true
      ∧ ((send 7 (.park .idle) ready).portState (slotOf 6)).transmit = .park .idle :: []
      ∧ ((send 7 (.park .idle) ready).portState (slotOf 6)).lastFrame ≠ some .part
      ∧ (ready.portState (slotOf 6)).transmit = [] ∧ ready.starting = false
      ∧ (send 7 (.park .idle) State.reset).starting = true := by decide +kernel

/-- A sweep start is due, in a run state, with every probe alike. -/
def sweepDue (r : RunState) (e : ProbeEntry) : State :=
  let s := withProbes e (inRun r (runningAt 5 999))
  { s with timer := { s.timer with sweepEndDue := true } }

/-- The sweep starts of SYNCING that give RUNNING, SYNCING and HALTED, and one that finds losses. -/
theorem test_witness_SweepJudgements :
    let few := withParams fun p => { p with syncSweeps := 5 }
    let unmarked := { stepping with outstanding := some 3, missCount := 2 }
    (sweepDue .syncing stepping).sweepStartDue = true
      ∧ (sweepDue .syncing stepping).active.planSlots = [3, 7]
      ∧ (sweepDue .syncing stepping).params.syncSweeps = 4
      ∧ (sweepDue .syncing stepping).timer.sweepNumber = 3
      ∧ (few (sweepDue .syncing syncingProbe)).params.syncSweeps = 5
      ∧ (few (sweepDue .syncing syncingProbe)).sweepStartDue = true
      ∧ (sweepDue .syncing syncingProbe).params.quorum = 1
      ∧ (applyHeld (sweepDue .pausing syncingProbe)).sweepStartDue = true
      ∧ (sweepDue .running stepping).timer.run = .running ∧ stepping.outstanding = none
      ∧ { stepOpen with timer := (sweepDue .halted stepping).timer }.sweepStartDue = true
      ∧ (sweepDue .stopping stepping).sweepStartDue = true
      ∧ 3 ≤ satInc 8 unmarked.missCount ∧ (sweepDue .running unmarked).params.missLimit = 3 := by
  decide +kernel

theorem test_sync_judgement :
    let few := withParams fun p => { p with syncSweeps := 5 }
    (after .sweepStart (sweepDue .syncing stepping)).timer.run = .running
      ∧ (after .sweepStart (few (sweepDue .syncing syncingProbe))).timer.run = .syncing
      ∧ (after .sweepStart (sweepDue .syncing syncingProbe)).timer.run = .halted
      ∧ (after .sweepStart (sweepDue .syncing syncingProbe)).timer.pattern = 1 := by decide +kernel

theorem test_witness_SweepStart :
    let s := runningAt 5 999
    let t := { s with timer := { s.timer with sweepEndDue := true } }
    t.sweepStartDue = true ∧ s.sweepStartDue = false ∧ t.plans.applyPending = false
      ∧ (applyHeld t).sweepStartDue = true := by decide +kernel

def startSlot : Except NotStarted (Fin 8) → Option (Fin 8)
  | .ok k => some k
  | .error _ => none

def stopReason : Except NotStarted (Fin 8) → Option NotStarted
  | .ok _ => none
  | .error reason => some reason

theorem test_witness_TimedMark :
    let s := runningAt 0 0
    let e := s.active.step 0
    let lost := withProbes { stepping with state := .lost } s
    s.kindReached 0 .timed = true ∧ s.pendingSteps = [] ∧ s.due e = true
      ∧ startSlot (s.timedCheck (s.stepTest 0 e)) = some 0
      ∧ lost.due e = true ∧ stopReason (lost.timedCheck (lost.stepTest 0 e)) = some .probeUnavailable
      ∧ (inRun .pausing s).kindReached 0 .timed = true ∧ (inRun .pausing s).due e = false
      ∧ ((s.stepTest 0 e).participants.map Participant.slot).Nodup
      ∧ (s.stepTest 0 e).participants.map Participant.slot = [3, 7] := by decide +kernel

theorem test_witness_MergedMark :
    let s := runningAt 1 10
    let e := s.active.step 1
    let p : PendingStep := ⟨1, e⟩
    let behind := fun n => { s with engine := { s.engine with merged := some ⟨List.replicate n p, some 0⟩ } }
    s.kindReached 1 .merged = true ∧ s.due e = true ∧ s.engine.merged = none
      ∧ startSlot (s.timedCheck (s.stepTest 1 e)) = some 0
      ∧ (behind 2).kindReached 1 .merged = true ∧ (behind 2).due e = true ∧ (List.replicate 2 p).length < 3
      ∧ (behind 3).due e = true ∧ 3 ≤ (List.replicate 3 p).length ∧ (inRun .pausing s).due e = false
      ∧ (inRun .pausing s).kindReached 1 .merged = true := by decide +kernel

def headOf (s : State) (i : Nat) : HeadResult := s.mergedHead none (s.stepTest i (s.active.step i))

/-- No member is open: a head that waits for its busy link, one that is dropped, one that starts, and a new step
that waits behind a dropped head. -/
theorem test_witness_MergedHeads :
    let s := runningAt 1 10
    let busy := { stepOpen with timer := s.timer }
    let lost := withProbes { stepping with state := .lost } s
    let p : PendingStep := ⟨1, s.active.step 1⟩
    let behind := fun (s : State) => s.withEngine { s.engine with merged := some ⟨[p], none⟩ }
    let other : PendingStep := ⟨2, { timedLane with talker := 5, testLink := 13 }⟩
    let droppable := (busy.mapProbe 5 fun e => { e with state := .lost }).withEngine
      { busy.engine with merged := some ⟨[other], none⟩ }
    busy.kindReached 1 .merged = true ∧ busy.due p.entry = true ∧ busy.engine.merged = none
      ∧ headOf busy 1 = .waits ∧ lost.due p.entry = true ∧ headOf lost 1 = .dropped .probeUnavailable
      ∧ headOf s 1 = .starts 0 ∧ (behind s).engine.merged = some ⟨p :: [], none⟩
      ∧ headOf (behind busy) 1 = .waits ∧ headOf (behind s) 1 = .starts 0
      ∧ droppable.mergedHead none (droppable.stepTest other.index other.entry) = .dropped .probeUnavailable
      ∧ headOf droppable 1 = .waits ∧ droppable.due p.entry = true
      ∧ droppable.kindReached 1 .merged = true := by decide +kernel

/-- A free window whose head waits for its busy link, and one that its head spends. -/
theorem test_witness_FreeHeads :
    let f := runningAt 3 30
    let busy := { stepOpen with timer := f.timer, spot := [waiting12] }
    let lost := (withProbes { stepping with state := .lost } f).withSpot [waiting12]
    busy.kindReached 3 .free = true ∧ busy.acts (busy.active.step 3) = true ∧ busy.pendingSteps = []
      ∧ stopReason (busy.timedCheck (busy.spotTest waiting12)) = some .linkBusy
      ∧ lost.kindReached 3 .free = true ∧ lost.acts (lost.active.step 3) = true
      ∧ stopReason (lost.timedCheck (lost.spotTest waiting12)) = some .probeUnavailable
      ∧ (∃ q ∈ (f.withSpot [inFlight12 none]).spot, q.inFlight ≠ none) := by decide +kernel

theorem test_witness_MarkAndFree :
    let s := runningAt 2 20
    let f := runningAt 3 30
    s.kindReached 2 .mark = true ∧ s.acts (s.active.step 2) = true ∧ s.pendingSteps = []
      ∧ f.kindReached 3 .free = true ∧ f.acts (f.active.step 3) = true ∧ f.spot = []
      ∧ startSlot ((f.withSpot [waiting12]).timedCheck ((f.withSpot [waiting12]).spotTest waiting12)) = some 0
      ∧ waiting12.inFlight = none ∧ (inRun .pausing s).acts (s.active.step 2) = false
      ∧ (inRun .pausing s).kindReached 2 .mark = true ∧ (inRun .pausing f).kindReached 3 .free = true := by
  decide +kernel

theorem test_witness_Deadline :
    let t := { stepOpen with timer := { stepOpen.timer with fixtureTime := 6300 } }
    t.turn 0 = 1 ∧ t.port.resetLow = false ∧ t.engine.merged = none ∧ t.engine.free = none
      ∧ ((t.openAt 0).map fun o => (decide (o.deadline ≤ 6300), o.form, o.withdrawn, o.testLink))
          = some (true, .driven, false, 12)
      ∧ ((t.openAt 0).map fun o => o.participants.any fun p =>
          p.role == .talker && p.state == .awaited && p.report == none) = some true
      ∧ t.linkDefined 12 = true ∧ (t.link 12).definedIn ≤ 0
      ∧ t.openAt 1 = none ∧ (t.turn 0 ≠ 2) ∧ stepOpen.timer.fixtureTime < 6300 := by decide +kernel

/-- A deadline that counts a miss, one that loses a probe, and one whose probe has reported. -/
theorem test_witness_DeadlineMisses :
    let at6300 := fun (s : State) => { s with timer := { s.timer with fixtureTime := 6300 } }
    let heard := at6300 (after (.doneReport 2 0x01 0) stepOpen)
    let states := fun (s : State) => (s.openAt 0).map fun o => o.participants.map (·.state)
    states (at6300 stepOpen) = some [.awaited, .awaited] ∧ states heard = some [.received, .awaited]
      ∧ (heard.probe 7).state = .inStep ∧ (heard.probe 7).missCount = 0 ∧ heard.params.missLimit = 3
      ∧ ((heard.mapProbe 7 fun e => { e with missCount := 2 }).probe 7).missCount = 2
      ∧ ((heard.openAt 0).map fun o => decide (o.participants.map Participant.slot).Nodup) = some true
      ∧ (heard.openAt 0).map OpenStep.source = some (.step 0) := by decide +kernel

/-- The test of a spot request that its deadline closes: one repeat less, or the end of the request. -/
theorem test_witness_SpotClosure :
    let s := fun r => after (.freeEntry 3) ((runningAt 3 30).withSpot [r])
    let found := fun r => ((s r).spot.find? fun q => q.inFlight == some ⟨0, 1⟩).map
      fun q => (q.repeats, q.endPending)
    ((s waiting12).openAt 0).map OpenStep.source = some .spot ∧ found waiting12 = some (2, none)
      ∧ found { waiting12 with repeats := 1 } = some (1, none) := by decide +kernel

theorem test_witness_FixtureTimeLimit :
    let s := fun r => inRun r stepLate
    (s .running).limitReached = true ∧ (s .pausing).limitReached = true ∧ (s .stopping).limitReached = true
      ∧ (s .halted).limitReached = true ∧ (s .stopping).tableEmpty = false
      ∧ (s .syncing).limitReached = false ∧ stepOpen.limitReached = false := by decide +kernel

theorem test_witness_Judgement :
    levelClass.defined = true ∧ levelClass.measure = .level ∧ levelClass.lowLimit ≤ levelClass.highLimit
      ∧ TestOutcome.openSeen.group = .openGroup ∧ TestOutcome.over.group = .fail
      ∧ TestOutcome.lowMargin.group = .margin ∧ TestOutcome.inRange.group = .pass
      ∧ TestOutcome.voidTalker.group = .void ∧ Verdict.latched .failed = true ∧ Verdict.latched .testing = false := by
  decide +kernel

/-- The measures, formats and ranges of class values, and a first failure held and not held. -/
theorem test_witness_Readings :
    let cls := fun m => { levelClass with measure := m, low := 0, high := 4 }
    let judged := fun m expected raw errors =>
      (judgeReading (cls m) stepping expected raw errors false).map (·.outcome)
    judged .errors 0 9 0 = some .inRange ∧ judged .errors 0 9 4 = some .highMargin
      ∧ judged .errors 0 9 5 = some .over ∧ judged .code 7 7 0 = some .inRange
      ∧ (judgeReading { cls .code with mask := 0xFFFF } stepping 7 8 0 false).map (·.outcome) = some .mismatch
      ∧ judged .silence 0 9 0 = none
      ∧ (judgeQuiet (cls .silence) stepping 0 false).map (·.1) = some .inRange
      ∧ (judgeQuiet (cls .silence) stepping 9 false).map (·.1) = some .heard
      ∧ ({ levelClass with format := .offset }).corrected stepping 0 = -32768
      ∧ ({ levelClass with format := .unsigned }).corrected stepping 0xFFFF = 65535
      ∧ ((LinkRecord.fresh 0).judged levelClass ⟨.over, some 8, some 2⟩ (.step 1) 3 4).firstFailure
        = some ⟨3, 4, .step 1, .over, some 8, some 2⟩ := by decide +kernel

/-- The premises of the two invariants hold after reset and in a store with locked slots. -/
theorem test_witness_Invariants :
    State.reset.router.q0.records.length ≤ 64 ∧ State.reset.router.q1.records.length ≤ 64
      ∧ State.reset.spot.length ≤ 8 ∧ State.reset.pendingSteps.length ≤ 3
      ∧ (∀ n ∈ allSlots, (State.reset.portState n).transmit.length ≤ 16)
      ∧ (∀ n ∈ ([0, 1, 2, 3] : List (Fin 4)),
          ((withSlots { stored with locked := true } ready).storeSlot n).locked = true
            ∧ ((withSlots { stored with locked := true } ready).storeSlot n).state = .valid) := by decide +kernel

/-- A tap count above 18 is refused in a link of every kind (R188). -/
theorem test_tap_count_above_18 :
    ∀ k ∈ [LinkKind.lane, .strap, .rail, .busline],
      let d := { lane with kind := k, slot := 4, taps := Vector.ofFn fun i => BitVec.ofNat 8 (i + 1) }
      ({ d with tapCount := 19 }).error smallPlan = some .paramRange
        ∧ ({ d with tapCount := 18 }).error smallPlan = none := by decide +kernel

/-- A quiet slot of 0 or above 18 in a CONTENDED step is refused before its quiet link is looked at. -/
theorem test_contended_quiet_slot :
    let quiet := fun slot link => { timedLane with
      form := .contended, contenderCount := 2, contenders := #v[⟨1, 1⟩, ⟨2, 2⟩, ⟨0, 0⟩, ⟨0, 0⟩],
      expectCount := 0, quietCount := 1, quiets := Vector.replicate 4 ⟨slot, link, 2⟩ }
    let error := fun slot link => (quiet slot link).error smallPlan none
    error 0 14 = some .slotRange ∧ error 19 14 = some .slotRange
      ∧ error 2 14 = some .linkUndefined ∧ error 2 12 = some .formMismatch := by decide +kernel

end Sys2Proof.Tests
end

/-! MARK and FREE entries at their marks (R13, R16, R19): both close the earlier windows and pass the mark, and
an entry that acts then raises MARK, or opens a free window and examines its head (R75, R78). -/

namespace Sys2Proof.Machine

/-! ## The state behind a mark -/

/-- The mark of entry `i` is passed and the earlier windows are closed (R19, R76, R80); `w` is the free window
that the entry itself opens. -/
def State.atMark (s : State) (i : Nat) (w : Option FreeWindow) : State :=
  (s.withEngine { s.engine with merged := none, free := w }).withTimer
    { s.timer with nextStep := i + 1 }

@[simp] theorem State.atMark_engine (s : State) (i : Nat) (w : Option FreeWindow) :
    (s.atMark i w).engine = { s.engine with merged := none, free := w } := (rfl)
@[simp] theorem State.atMark_timer (s : State) (i : Nat) (w : Option FreeWindow) :
    (s.atMark i w).timer = { s.timer with nextStep := i + 1 } := (rfl)
@[simp] theorem State.atMark_links (s : State) (i : Nat) (w : Option FreeWindow) :
    (s.atMark i w).links = s.links := (rfl)
@[simp] theorem State.atMark_router (s : State) (i : Nat) (w : Option FreeWindow) :
    (s.atMark i w).router = s.router := (rfl)
@[simp] theorem State.atMark_plans (s : State) (i : Nat) (w : Option FreeWindow) :
    (s.atMark i w).plans = s.plans := (rfl)
@[simp] theorem State.atMark_store (s : State) (i : Nat) (w : Option FreeWindow) :
    (s.atMark i w).store = s.store := (rfl)
@[simp] theorem State.atMark_port (s : State) (i : Nat) (w : Option FreeWindow) :
    (s.atMark i w).port = s.port := (rfl)
@[simp] theorem State.atMark_turn (s : State) (i : Nat) (w : Option FreeWindow) (k : Fin 8) :
    (s.atMark i w).turn k = s.turn k := (rfl)

/-- An entry acts by its run mask and the run state, which its mark does not move (R13). -/
@[simp] theorem State.atMark_acts (s : State) (i : Nat) (w : Option FreeWindow) (e : StepEntry) :
    (s.atMark i w).acts e = s.acts e := (rfl)

/-- The conditions of a start do not look at the windows or at the next mark (R70). -/
theorem State.atMark_timedCheck (s : State) (i : Nat) (w : Option FreeWindow) (r : SpotRequest) :
    (s.atMark i w).timedCheck ((s.atMark i w).spotTest r) = s.timedCheck (s.spotTest r) := (rfl)

/-- With no step pending, closing the windows and passing the mark do nothing else. -/
theorem passMark_closeWindows {s : State} (i : Nat) (h : s.pendingSteps = []) :
    passMark i (closeWindows s) = s.atMark i none := by
  rw [closeWindows_of_none h]; rfl

/-! ## The commands at their marks -/

theorem exec_markEntry {s : State} {i : Nat} (h : s.kindReached i .mark = true) :
    exec (.markEntry i) s = .next (markEntry i s) := by
  have arm : exec (.markEntry i) s
      = .next (if s.kindReached i .mark then markEntry i s else s) := rfl
  rw [arm, if_pos h]

theorem exec_freeEntry {s : State} {i : Nat} (h : s.kindReached i .free = true) :
    exec (.freeEntry i) s = .next (freeEntry i s) := by
  have arm : exec (.freeEntry i) s
      = .next (if s.kindReached i .free then freeEntry i s else s) := rfl
  rw [arm, if_pos h]

theorem markEntry_eq {s : State} (i : Nat) (h : s.pendingSteps = []) :
    markEntry i s = if s.acts (s.active.step i) then markAction (s.active.step i) (s.atMark i none)
      else s.atMark i none := by
  unfold markEntry; dsimp only
  rw [passMark_closeWindows i h, State.atMark_acts]

theorem freeEntry_eq {s : State} (i : Nat) (h : s.pendingSteps = []) :
    freeEntry i s = if s.acts (s.active.step i) then examineFree (s.atMark i (some ⟨false⟩))
      else s.atMark i none := by
  unfold freeEntry; dsimp only
  rw [passMark_closeWindows i h, State.atMark_acts]; rfl

/-! ## The action of a MARK entry (R16) -/

/-- The MARK record of an entry that acts (R16). -/
def State.markRecord (s : State) (e : StepEntry) : ResultRecord :=
  { s.newRecord .mark with marker := some e.marker }

theorem markAction_of_log {e : StepEntry} (s : State) (h : e.log = true) :
    markAction e s = hand (s.markRecord e) (raise .mark s) := by
  simp only [markAction, h, if_true]; rfl

theorem markAction_of_no_log {e : StepEntry} (s : State) (h : e.log = false) :
    markAction e s = raise .mark s := by
  simp [markAction, h]

/-- MARK is up behind the action, whatever the router raises or clears for the record. -/
theorem markAction_isSet (e : StepEntry) (s : State) : (markAction e s).port.isSet .mark = true := by
  cases h : e.log with
  | true => rw [markAction_of_log s h, hand_isSet .mark rfl, raise_isSet]
  | false => rw [markAction_of_no_log s h, raise_isSet]

/-- The raised flag is nothing to the router: it takes the record as it would without the action. -/
theorem markAction_router_of_log {e : StepEntry} (s : State) (h : e.log = true) :
    (markAction e s).router = (hand (s.markRecord e) s).router := by
  rw [markAction_of_log s h]
  exact hand_router_congr _ (raise_router s .mark) (raise_plans s .mark)

/-- `markAction` changes at most the router and the port. -/
theorem markAction_keeps (e : StepEntry) (s : State) :
    (markAction e s).engine = s.engine ∧ (markAction e s).timer = s.timer
    ∧ (markAction e s).registry = s.registry ∧ (markAction e s).links = s.links
    ∧ (markAction e s).spot = s.spot ∧ (markAction e s).plans = s.plans
    ∧ (markAction e s).store = s.store := by
  cases h : e.log with
  | true => rw [markAction_of_log s h]; simp
  | false => rw [markAction_of_no_log s h]; simp

/-! ## The examination of the free-window head (R78) -/

/-- Without a request there is no head. -/
theorem examineFree_of_no_request {s : State} (h : s.spot = []) : examineFree s = s := by
  unfold examineFree
  rw [h]
  cases s.engine.free <;> rfl

/-- One request in flight is enough to make the head wait. -/
theorem examineFree_of_in_flight {s : State} (h : ∃ q ∈ s.spot, q.inFlight ≠ none) :
    examineFree s = s := by
  obtain ⟨q, hq, hf⟩ := h
  have busy : s.spot.any (fun q => q.inFlight.isSome) = true :=
    List.any_eq_true.mpr ⟨q, hq, Option.isSome_iff_ne_none.mpr hf⟩
  cases hw : s.engine.free with
  | none => unfold examineFree; rw [hw]
  | some w =>
    cases hr : s.spot with
    | nil => exact examineFree_of_no_request hr
    | cons r rest => rw [examineFree_eq s w r rest hw hr, busy, Bool.or_true, if_pos rfl]

theorem any_inFlight_of_idle {spot : List SpotRequest} (idle : ∀ q ∈ spot, q.inFlight = none) :
    spot.any (fun q => q.inFlight.isSome) = false := by simpa using idle

/-- In an open window with none in flight, the head starts in the slot that its check gives, and is in flight
with the tag of that slot (R79, R120). -/
theorem examineFree_of_ok {s : State} {r : SpotRequest} {rest : List SpotRequest} {k : Fin 8}
    (hw : s.engine.free = some ⟨false⟩) (hr : s.spot = r :: rest)
    (idle : ∀ q ∈ s.spot, q.inFlight = none) (hc : s.timedCheck (s.spotTest r) = .ok k) :
    examineFree s = startTest k (s.spotTest r)
      (s.withSpot ({ r with inFlight := some ⟨k, s.turn k + 1⟩ } :: rest)) := by
  rw [examineFree_eq s _ r rest hw hr, any_inFlight_of_idle idle]
  simp [hc, hr, markInFlight, State.nextTag]

/-- A head whose probes are not all IN_STEP with field power spends the window. -/
theorem examineFree_of_spent {s : State} {r : SpotRequest} {rest : List SpotRequest}
    (hw : s.engine.free = some ⟨false⟩) (hr : s.spot = r :: rest)
    (idle : ∀ q ∈ s.spot, q.inFlight = none)
    (hc : s.timedCheck (s.spotTest r) = .error .probeUnavailable
      ∨ s.timedCheck (s.spotTest r) = .error .fieldPower) :
    examineFree s = s.withEngine { s.engine with free := some ⟨true⟩ } := by
  rw [examineFree_eq s _ r rest hw hr, any_inFlight_of_idle idle]
  rcases hc with hc | hc <;> simp [hc]

/-- A head waits on a full table, on a busy link and on a probe that cannot take an assignment. -/
theorem examineFree_of_waits {s : State} {w : FreeWindow} {r : SpotRequest} {rest : List SpotRequest}
    (hw : s.engine.free = some w) (hr : s.spot = r :: rest)
    (hc : s.timedCheck (s.spotTest r) = .error .openFull
      ∨ s.timedCheck (s.spotTest r) = .error .linkBusy
      ∨ s.timedCheck (s.spotTest r) = .error .probeBusy) :
    examineFree s = s := by
  rw [examineFree_eq s w r rest hw hr]
  rcases hc with hc | hc | hc <;> simp [hc]

/-! ## The entries that act -/

/-- A MARK entry that acts raises MARK, hands its record when it is logged, and leaves the rest of the state
as its mark does. -/
theorem exec_markEntry_of_acts {s : State} {i : Nat} (hp : s.pendingSteps = [])
    (hk : s.kindReached i .mark = true) (ha : s.acts (s.active.step i) = true) :
    exec (.markEntry i) s = .next (markAction (s.active.step i) (s.atMark i none)) := by
  rw [exec_markEntry hk, markEntry_eq i hp, if_pos ha]

/-- A FREE entry that acts opens the free window, and then its head's examination decides. -/
theorem exec_freeEntry_of_acts {s t : State} {i : Nat} (hp : s.pendingSteps = [])
    (hk : s.kindReached i .free = true) (ha : s.acts (s.active.step i) = true)
    (head : examineFree (s.atMark i (some ⟨false⟩)) = t) : exec (.freeEntry i) s = .next t := by
  rw [exec_freeEntry hk, freeEntry_eq i hp, if_pos ha, head]

/-- What a spot test that starts in the window of FREE entry `i` leaves (R71, R79, R120). -/
theorem startTest_atMark (s : State) (i : Nat) (k : Fin 8) (x : TestPlan) (w : FreeWindow)
    (spot : List SpotRequest) :
    let t := startTest k x ((s.atMark i (some w)).withSpot spot)
    t.openAt k = some (s.openStep x) ∧ t.turn k = s.turn k + 1 ∧ t.spot = spot
      ∧ t.engine.free = some w ∧ t.engine.merged = none
      ∧ t.timer = { s.timer with nextStep := i + 1 } ∧ t.links = s.links
      ∧ t.router = s.router ∧ t.plans = s.plans ∧ t.store = s.store ∧ t.port = s.port := by
  have step : ((s.atMark i (some w)).withSpot spot).openStep x = s.openStep x := rfl
  simp [startTest_openAt, startTest_turn, startTest_engine, step]

/-- Settles O53, entry by entry: the state behind the mark, then the action of the MARK entry or the examination
of the free-window head. -/
theorem markAndFreeEntriesAct : Obligations.MarkAndFreeEntriesAct := by
  unfold Obligations.MarkAndFreeEntriesAct
  rintro i s e rfl hp
  refine ⟨fun hk ha => ?mark, fun hk ha hs => ?noRequest, fun r rest k hk ha hs idle hc => ?starts,
    fun r rest hk ha hs => ⟨fun hc => ?waits, fun idle hc => ?spends⟩,
    fun ha => ⟨fun hk => ?idleMark, fun hk => ?idleFree⟩⟩
  case mark =>
    obtain ⟨engine, timer, registry, links, spot, plans, store⟩ :=
      markAction_keeps (s.active.step i) (s.atMark i none)
    refine ⟨_, exec_markEntry_of_acts hp hk ha, markAction_isSet _ _, fun hl => ?_, fun hl => ?_,
      engine, timer, registry, links, spot, plans, store⟩
    · rw [markAction_of_no_log _ hl]; exact ⟨rfl, rfl⟩
    · rw [markAction_router_of_log _ hl]; exact hand_router_congr _ rfl rfl
  case noRequest =>
    exact exec_freeEntry_of_acts hp hk ha (examineFree_of_no_request hs)
  case starts =>
    exact ⟨_, exec_freeEntry_of_acts hp hk ha (examineFree_of_ok rfl hs idle
        ((s.atMark_timedCheck i _ r).trans hc)),
      startTest_atMark s i k (s.spotTest r) ⟨false⟩ _⟩
  case waits =>
    refine exec_freeEntry_of_acts hp hk ha ?_
    rcases hc with inFlight | hc
    · exact examineFree_of_in_flight inFlight
    · exact examineFree_of_waits rfl hs (by rwa [s.atMark_timedCheck])
  case spends =>
    exact exec_freeEntry_of_acts hp hk ha
      (examineFree_of_spent rfl hs idle (by rwa [s.atMark_timedCheck]))
  case idleMark =>
    rw [exec_markEntry hk, markEntry_eq i hp, ha]; rfl
  case idleFree =>
    rw [exec_freeEntry hk, freeEntry_eq i hp, ha]; rfl

end Sys2Proof.Machine

/-! The marks of TIMED and MERGED steps (R69 to R76): the five conditions of R70 and what a merged head makes of
them (R74), then a due step at its mark, which starts, waits, or is counted as not started. -/

namespace Sys2Proof.Machine

/-! ## The conditions of a start (R57, R70, R74) -/

/-- A probe can take an assignment when it is IN_STEP and holds none, or queues one (R57). -/
theorem ProbeEntry.canTake_iff (e : ProbeEntry) :
    e.canTake = true ↔ e.state = .inStep
      ∧ (e.current = none ∨ (e.policy = .queue ∧ e.queued = none)) := by
  simp [ProbeEntry.canTake]

theorem State.linkBusy_eq_false (s : State) (id : Nat) :
    s.linkBusy id = false ↔ ∀ k o, s.openAt k = some o → o.testLink ≠ id := by
  simp only [← Bool.not_eq_true, State.linkBusy_iff, not_exists, not_and, ne_eq]

/-- Only the reasons of R70 come out of the check of a test. -/
theorem State.timedCheck_reason {s : State} {test : TestPlan} {reason : NotStarted}
    (h : s.timedCheck test = .error reason) : reason ≠ .crowded ∧ reason ≠ .windowClosed := by
  rw [State.timedCheck_error] at h
  constructor <;> rintro rfl <;> simp at h

theorem State.mergedHead_eq_starts (s : State) (member : Option (Fin 8)) (test : TestPlan) (k : Fin 8) :
    s.mergedHead member test = .starts k ↔ member = none ∧ s.timedCheck test = .ok k := by
  rw [State.mergedHead_eq]
  cases member with
  | some j => simp
  | none =>
    cases s.timedCheck test with
    | ok j => simp
    | error reason => cases reason <;> simp

theorem State.mergedHead_eq_dropped (s : State) (member : Option (Fin 8)) (test : TestPlan)
    (reason : NotStarted) :
    s.mergedHead member test = .dropped reason ↔
      member = none ∧ s.timedCheck test = .error reason
      ∧ (reason = .probeUnavailable ∨ reason = .fieldPower) := by
  rw [State.mergedHead_eq]
  cases member with
  | some j => simp
  | none =>
    cases s.timedCheck test with
    | ok j => simp
    | error cause => cases cause <;> cases reason <;> simp

theorem State.mergedHead_eq_waits (s : State) (member : Option (Fin 8)) (test : TestPlan) :
    s.mergedHead member test = .waits ↔
      member ≠ none ∨ s.timedCheck test = .error .openFull
      ∨ s.timedCheck test = .error .linkBusy ∨ s.timedCheck test = .error .probeBusy := by
  rw [State.mergedHead_eq]
  cases member with
  | some j => simp
  | none =>
    cases hc : s.timedCheck test with
    | ok j => simp
    | error reason =>
      obtain ⟨notCrowded, notClosed⟩ := State.timedCheck_reason hc
      cases reason <;> simp_all

/-- A head behind an open member waits, whatever its conditions (R74). -/
theorem State.mergedHead_of_member (s : State) (k : Fin 8) (test : TestPlan) :
    s.mergedHead (some k) test = .waits := by simp [State.mergedHead_eq_waits]

/-- The examination of a head looks at the table, the Probe Table and its test alone. -/
theorem State.mergedHead_congr {s t : State} (ht : t.engine.table = s.engine.table)
    (hr : t.registry = s.registry) (member : Option (Fin 8)) (test : TestPlan) :
    t.mergedHead member test = s.mergedHead member test := by
  have table : t.openAt = s.openAt := funext (State.openAt_of_table ht)
  have probes : t.probe = s.probe := funext (State.probe_of_registry hr)
  unfold State.mergedHead State.emptySlot State.linkBusy State.allInStep State.allPowered
    State.allCanTake
  rw [table, probes]

/-! ## A due step that is not started (R72) -/

/-- What a due step that is not started leaves on its link and in the router, taken in a state `b` that differs
from `s` in its windows and its next mark alone (R72). -/
theorem notStarted_of_mark {s b : State} (i : Nat) (e : StepEntry) (reason : NotStarted)
    (links : b.links = s.links) (router : b.router = s.router) (plans : b.plans = s.plans)
    (port : b.port = s.port) (sweep : b.timer.sweepNumber = s.timer.sweepNumber)
    (time : b.timer.sweepTime = s.timer.sweepTime) :
    (s.linkDefined e.testLink.toNat = true →
      (notStarted i e reason b).link e.testLink.toNat = { s.link e.testLink.toNat with
        notStarted := satInc 16777215 (s.link e.testLink.toNat).notStarted })
    ∧ (∀ id, id ≠ e.testLink.toNat → (notStarted i e reason b).link id = s.link id)
    ∧ (e.log = false →
      (notStarted i e reason b).router = s.router ∧ (notStarted i e reason b).port = s.port)
    ∧ (e.log = true → (notStarted i e reason b).router = (hand
        { ResultRecord.blank .skipped s.timer.sweepNumber s.timer.sweepTime with
          link := some e.testLink.toNat, step := some i, marker := some e.marker,
          reason := some reason } s).router) := by
  have link := State.link_of_links links
  have defined := State.linkDefined_of_plans plans
  refine ⟨fun hd => ?_, fun id hid => ?_, fun hl => ?_, fun hl => ?_⟩
  · rw [notStarted_link, defined, if_pos ⟨rfl, hd⟩, link]; rfl
  · rw [notStarted_link, if_neg fun h => hid h.1, link]
  · simp [notStarted, hl, router, port]
  · simp only [notStarted, hl, if_true, skippedRecord, State.newRecord, State.withTimer_timer,
      (countNotStarted_frame _ _).2.2.2.1, sweep, time]
    exact hand_router_congr _ (by simp [router]) (by simp [plans])

/-! ## The mark of a TIMED step (R70) -/

@[simp] theorem State.atMark_spot (s : State) (i : Nat) (w : Option FreeWindow) :
    (s.atMark i w).spot = s.spot := (rfl)

theorem exec_timedMark {s : State} {i : Nat} (h : s.kindReached i .timed = true) :
    exec (.timedMark i) s = .next (timedMark i s) := by
  have arm : exec (.timedMark i) s
      = .next (if s.kindReached i .timed then timedMark i s else s) := rfl
  rw [arm, if_pos h]

/-- Behind its mark a TIMED step is due, and is checked, as before it. -/
theorem timedMark_eq {s : State} (i : Nat) (h : s.pendingSteps = []) :
    timedMark i s = if s.due (s.active.step i) then timedStep i (s.active.step i) (s.atMark i none)
      else s.atMark i none := by
  unfold timedMark; dsimp only
  rw [passMark_closeWindows i h]; rfl

theorem timedStep_of_ok {s : State} {i : Nat} {e : StepEntry} {k : Fin 8} (w : Option FreeWindow)
    (h : s.timedCheck (s.stepTest i e) = .ok k) :
    timedStep i e (s.atMark i w) = startTest k (s.stepTest i e) (s.atMark i w) := by
  have check : (s.atMark i w).timedCheck ((s.atMark i w).stepTest i e) = .ok k := h
  unfold timedStep; dsimp only
  rw [check]; rfl

theorem timedStep_of_error {s : State} {i : Nat} {e : StepEntry} {reason : NotStarted}
    (w : Option FreeWindow) (h : s.timedCheck (s.stepTest i e) = .error reason) :
    timedStep i e (s.atMark i w) = notStarted i e reason (s.atMark i w) := by
  have check : (s.atMark i w).timedCheck ((s.atMark i w).stepTest i e) = .error reason := h
  unfold timedStep; dsimp only
  rw [check]

/-- The participants of a step are the slots it names, in their order (R10). -/
theorem StepEntry.participants_slots (e : StepEntry) (cls : Nat) :
    (e.participants cls).map Participant.slot = e.slots := by
  unfold StepEntry.participants StepEntry.slots
  cases e.form <;> simp [Participant.awaiting, Function.comp_def]

/-- The link of a due step is not withdrawn (R15). -/
theorem State.withdrawn_of_due {s : State} {e : StepEntry} (h : s.due e = true) :
    (s.link e.testLink.toNat).withdrawn = false := by
  simp only [State.due, Bool.and_eq_true, Bool.not_eq_true'] at h
  exact h.2

/-- What a start leaves as it is, and what it does to the table (R68, R71). -/
theorem startTest_outcome (k : Fin 8) (x : TestPlan) (s : State) :
    let t := startTest k x s
    t.openAt k = some (s.openStep x) ∧ t.turn k = s.turn k + 1
      ∧ (∀ j, j ≠ k → t.openAt j = s.openAt j ∧ t.turn j = s.turn j) := by
  refine ⟨by simp [startTest_openAt], by simp [startTest_turn], fun j hj => ?_⟩
  simp [startTest_openAt, startTest_turn, hj.symm]

theorem exec_timedMark_of_due {s : State} {i : Nat} (hk : s.kindReached i .timed = true)
    (hp : s.pendingSteps = []) (hd : s.due (s.active.step i) = true) :
    exec (.timedMark i) s = .next (timedStep i (s.active.step i) (s.atMark i none)) := by
  rw [exec_timedMark hk, timedMark_eq i hp, if_pos hd]

/-- Settles O50: the five conditions by the lemmas of the check, and the mark by its three cases. -/
theorem timedMarkStartsTheStep : Obligations.TimedMarkStartsTheStep := by
  unfold Obligations.TimedMarkStartsTheStep
  constructor
  · intro s test
    refine ⟨s.emptySlot ≠ none, s.linkBusy test.testLink = false,
      s.allInStep test.participants = true, s.allPowered test.participants = true,
      s.allCanTake test.participants = true, ?room, s.linkBusy_eq_false _, s.allInStep_iff _,
      s.allPowered_iff _, ?able, fun k => ?ok, fun reason => ?error⟩
    case room =>
      simp only [ne_eq, State.emptySlot_eq_none, Classical.not_forall, Classical.not_not]
    case able => simp only [State.allCanTake_iff, ProbeEntry.canTake_iff]
    case ok => rw [State.timedCheck_ok, State.emptySlot_eq_some, and_assoc]
    case error =>
      rw [State.timedCheck_error]
      simp only [Bool.not_eq_true, Bool.not_eq_false, ne_eq, Classical.not_not, and_or_left,
        or_and_right, and_assoc, and_left_comm, and_comm]
  · rintro i s e rfl hk hp
    refine ⟨fun k hd hc => ?starts, fun reason hd hc => ?fails, fun hd => ?idle⟩
    case starts =>
      obtain ⟨here, turn, others⟩ :=
        startTest_outcome k (s.stepTest i (s.active.step i)) (s.atMark i none)
      have slots : (s.stepTest i (s.active.step i)).participants.map Participant.slot
          = (s.active.step i).slots := StepEntry.participants_slots _ _
      refine ⟨_, exec_timedMark_of_due hk hp hd, ?_⟩
      rw [timedStep_of_ok none hc]
      refine ⟨here.trans ?_, turn, others, fun n hn => ?_, ?_⟩
      · have step : (s.atMark i none).openStep (s.stepTest i (s.active.step i))
            = { s.openStep (s.stepTest i (s.active.step i)) with
                withdrawn := (s.link (s.active.step i).testLink.toNat).withdrawn } := rfl
        rw [step, State.withdrawn_of_due hd]; rfl
      · exact startTest_other k _ (s.atMark i none) n (by rwa [slots])
      · simp [startTest_engine]
    case fails =>
      refine ⟨_, exec_timedMark_of_due hk hp hd, ?_⟩
      rw [timedStep_of_error none hc]
      obtain ⟨counted, kept, unlogged, logged⟩ :=
        notStarted_of_mark (s := s) (b := s.atMark i none) i (s.active.step i) reason
          rfl rfl rfl rfl rfl rfl
      obtain ⟨-, -, -, engine, registry, spot, plans, store⟩ :=
        notStarted_frame i (s.active.step i) reason (s.atMark i none)
      exact ⟨notStarted_timer _ _ _ _, counted, kept, unlogged, logged, engine, registry, spot, plans,
        store⟩
    case idle => rw [exec_timedMark hk, timedMark_eq i hp, hd]; rfl

/-! ## The merged window at a mark (R73) -/

/-- The mark of entry `i` is passed, the free window is closed (R80) and the merged window is `w`. -/
def State.atMergedMark (s : State) (i : Nat) (w : MergedWindow) : State :=
  (s.withEngine { s.engine with free := none, merged := some w }).withTimer
    { s.timer with nextStep := i + 1 }

@[simp] theorem State.atMergedMark_engine (s : State) (i : Nat) (w : MergedWindow) :
    (s.atMergedMark i w).engine = { s.engine with free := none, merged := some w } := (rfl)
@[simp] theorem State.atMergedMark_timer (s : State) (i : Nat) (w : MergedWindow) :
    (s.atMergedMark i w).timer = { s.timer with nextStep := i + 1 } := (rfl)

/-- The examination of a head does not look at the windows or at the next mark. -/
theorem State.atMergedMark_mergedHead (s : State) (i : Nat) (w : MergedWindow) (m : Option (Fin 8))
    (p : PendingStep) :
    (s.atMergedMark i w).mergedHead m ((s.atMergedMark i w).stepTest p.index p.entry)
      = s.mergedHead m (s.stepTest p.index p.entry) := (rfl)

theorem exec_mergedMark {s : State} {i : Nat} (h : s.kindReached i .merged = true) :
    exec (.mergedMark i) s = .next (mergedMark i s) := by
  have arm : exec (.mergedMark i) s
      = .next (if s.kindReached i .merged then mergedMark i s else s) := rfl
  rw [arm, if_pos h]

/-- The window in progress at the mark of a MERGED step: a new one is empty. -/
def State.windowAtMark (s : State) : MergedWindow := s.engine.merged.getD ⟨[], none⟩

theorem passMark_openMerged (s : State) (i : Nat) :
    passMark i (openMerged s) = s.atMergedMark i s.windowAtMark := by
  unfold openMerged State.windowAtMark
  cases s.engine.merged <;> rfl

theorem exec_mergedMark_of_not_due {s : State} {i : Nat} (hk : s.kindReached i .merged = true)
    (hd : s.due (s.active.step i) = false) :
    exec (.mergedMark i) s = .next (s.atMergedMark i s.windowAtMark) := by
  have due : (s.atMergedMark i s.windowAtMark).due (s.active.step i) = false := hd
  rw [exec_mergedMark hk]
  unfold mergedMark; dsimp only
  rw [passMark_openMerged, due, if_neg Bool.false_ne_true]

/-- A due MERGED step joins a pending list with room, and the heads are examined (R73, R75). -/
theorem exec_mergedMark_of_room {s : State} {i : Nat} (hk : s.kindReached i .merged = true)
    (hd : s.due (s.active.step i) = true) {pending : List PendingStep} {member : Option (Fin 8)}
    (hw : s.windowAtMark = ⟨pending, member⟩) (hl : pending.length < 3) :
    exec (.mergedMark i) s = .next (examineMerged 4
      (s.atMergedMark i ⟨pending ++ [⟨i, s.active.step i⟩], member⟩)) := by
  have due : (s.atMergedMark i ⟨pending, member⟩).due (s.active.step i) = true := hd
  have room : pending.length < Config.pendingRoom := hl
  rw [exec_mergedMark hk]
  unfold mergedMark; dsimp only
  rw [passMark_openMerged, hw, if_pos due]
  unfold mergedStep
  simp only [State.atMergedMark_engine, if_pos room]
  rfl

/-- A due MERGED step at a full pending list is CROWDED (R73). -/
theorem exec_mergedMark_of_full {s : State} {i : Nat} (hk : s.kindReached i .merged = true)
    (hd : s.due (s.active.step i) = true) {w : MergedWindow} (hw : s.windowAtMark = w)
    (hl : 3 ≤ w.pending.length) :
    exec (.mergedMark i) s
      = .next (notStarted i (s.active.step i) .crowded (s.atMergedMark i w)) := by
  have due : (s.atMergedMark i w).due (s.active.step i) = true := hd
  have full : ¬ w.pending.length < Config.pendingRoom := Nat.not_lt.mpr hl
  rw [exec_mergedMark hk]
  unfold mergedMark; dsimp only
  rw [passMark_openMerged, hw, if_pos due]
  unfold mergedStep
  simp only [State.atMergedMark_engine, if_neg full]

/-! ## The examination of the merged heads (R74) -/

theorem examineMerged_of_empty {s : State} {m : Option (Fin 8)} (fuel : Nat)
    (hw : s.engine.merged = some ⟨[], m⟩) : examineMerged fuel s = s := by
  cases fuel with
  | zero => rfl
  | succ fuel => rw [examineMerged, hw]

theorem examineMerged_of_waits {s : State} {p : PendingStep} {rest : List PendingStep}
    {m : Option (Fin 8)} (fuel : Nat) (hw : s.engine.merged = some ⟨p :: rest, m⟩)
    (hh : s.mergedHead m (s.stepTest p.index p.entry) = .waits) : examineMerged fuel s = s := by
  cases fuel with
  | zero => rfl
  | succ fuel => rw [examineMerged, hw]; simp only [hh]

/-- While a member is open no head moves. -/
theorem examineMerged_of_member {s : State} {pending : List PendingStep} {k : Fin 8} (fuel : Nat)
    (hw : s.engine.merged = some ⟨pending, some k⟩) : examineMerged fuel s = s := by
  cases pending with
  | nil => exact examineMerged_of_empty fuel hw
  | cons p rest => exact examineMerged_of_waits fuel hw (s.mergedHead_of_member k _)

/-- A head that starts becomes the member, and the next head waits behind it. -/
theorem examineMerged_of_starts {s : State} {p : PendingStep} {rest : List PendingStep}
    {m : Option (Fin 8)} {k : Fin 8} (fuel : Nat) (hw : s.engine.merged = some ⟨p :: rest, m⟩)
    (hh : s.mergedHead m (s.stepTest p.index p.entry) = .starts k) :
    examineMerged (fuel + 1) s
      = startTest k (s.stepTest p.index p.entry) (s.setMerged ⟨rest, some k⟩) := by
  rw [examineMerged, hw]
  simp only [hh]
  exact examineMerged_of_member fuel (by rw [startTest_engine]; rfl)

theorem examineMerged_of_dropped {s : State} {p : PendingStep} {rest : List PendingStep}
    {m : Option (Fin 8)} {reason : NotStarted} (fuel : Nat)
    (hw : s.engine.merged = some ⟨p :: rest, m⟩)
    (hh : s.mergedHead m (s.stepTest p.index p.entry) = .dropped reason) :
    examineMerged (fuel + 1) s
      = examineMerged fuel (notStarted p.index p.entry reason (s.setMerged ⟨rest, m⟩)) := by
  rw [examineMerged, hw]
  simp only [hh]

/-- A dropped head leaves the next one waiting: nothing else moves. -/
theorem examineMerged_of_dropped_waits {s : State} {p q : PendingStep} {reason : NotStarted}
    (fuel : Nat) (hw : s.engine.merged = some ⟨[p, q], none⟩)
    (hh : s.mergedHead none (s.stepTest p.index p.entry) = .dropped reason)
    (hq : s.mergedHead none (s.stepTest q.index q.entry) = .waits) :
    examineMerged (fuel + 1) s
      = notStarted p.index p.entry reason (s.setMerged ⟨[q], none⟩) := by
  rw [examineMerged_of_dropped fuel hw hh]
  obtain ⟨-, -, -, engine, registry, -, plans, -⟩ :=
    notStarted_frame p.index p.entry reason (s.setMerged ⟨[q], none⟩)
  refine examineMerged_of_waits fuel (by rw [engine]; rfl) ?_
  rw [State.mergedHead_congr (s := s) (by rw [engine]; rfl) registry]
  have test : (notStarted p.index p.entry reason (s.setMerged ⟨[q], none⟩)).stepTest q.index q.entry
      = s.stepTest q.index q.entry := by
    unfold State.stepTest State.active; rw [plans]; rfl
  rw [test, hq]

/-! ## A head that leaves the list at the mark of a MERGED step -/

section
variable {s : State} {i : Nat} {p : PendingStep} {rest : List PendingStep}

theorem examineMerged_atMergedMark_of_waits
    (hh : s.mergedHead none (s.stepTest p.index p.entry) = .waits) :
    examineMerged 4 (s.atMergedMark i ⟨p :: rest, none⟩) = s.atMergedMark i ⟨p :: rest, none⟩ :=
  examineMerged_of_waits 4 rfl ((s.atMergedMark_mergedHead i _ none p).trans hh)

theorem examineMerged_atMergedMark_of_starts {k : Fin 8}
    (hh : s.mergedHead none (s.stepTest p.index p.entry) = .starts k) :
    examineMerged 4 (s.atMergedMark i ⟨p :: rest, none⟩)
      = startTest k (s.stepTest p.index p.entry) (s.atMergedMark i ⟨rest, some k⟩) :=
  examineMerged_of_starts 3 rfl ((s.atMergedMark_mergedHead i _ none p).trans hh)

/-- A dropped head that nothing follows leaves an empty window. -/
theorem examineMerged_atMergedMark_of_dropped {reason : NotStarted}
    (hh : s.mergedHead none (s.stepTest p.index p.entry) = .dropped reason) :
    examineMerged 4 (s.atMergedMark i ⟨[p], none⟩)
      = notStarted p.index p.entry reason (s.atMergedMark i ⟨[], none⟩) := by
  rw [examineMerged_of_dropped 3 rfl ((s.atMergedMark_mergedHead i _ none p).trans hh)]
  exact examineMerged_of_empty (m := none) 3 (by simp)

theorem examineMerged_atMergedMark_of_dropped_waits {q : PendingStep} {reason : NotStarted}
    (hh : s.mergedHead none (s.stepTest p.index p.entry) = .dropped reason)
    (hq : s.mergedHead none (s.stepTest q.index q.entry) = .waits) :
    examineMerged 4 (s.atMergedMark i ⟨[p, q], none⟩)
      = notStarted p.index p.entry reason (s.atMergedMark i ⟨[q], none⟩) :=
  examineMerged_of_dropped_waits 3 rfl ((s.atMergedMark_mergedHead i _ none p).trans hh)
    ((s.atMergedMark_mergedHead i _ none q).trans hq)

end

/-- What a head that starts at a mark leaves: its table slot, its turn, and itself as the member. -/
theorem startTest_atMergedMark (s : State) (i : Nat) (k : Fin 8) (x : TestPlan)
    (rest : List PendingStep) :
    let t := startTest k x (s.atMergedMark i ⟨rest, some k⟩)
    t.openAt k = some (s.openStep x) ∧ t.turn k = s.turn k + 1
      ∧ (∀ j, j ≠ k → t.openAt j = s.openAt j ∧ t.turn j = s.turn j)
      ∧ t.engine.merged = some ⟨rest, some k⟩ ∧ t.engine.free = none
      ∧ t.timer = { s.timer with nextStep := i + 1 } ∧ t.links = s.links ∧ t.spot = s.spot
      ∧ t.router = s.router ∧ t.plans = s.plans ∧ t.store = s.store ∧ t.port = s.port := by
  obtain ⟨here, turn, others⟩ := startTest_outcome k x (s.atMergedMark i ⟨rest, some k⟩)
  obtain ⟨-, -, -, timer, links, spot, router, plans, store, port⟩ :=
    startTest_frame k x (s.atMergedMark i ⟨rest, some k⟩)
  have engine := startTest_engine k x (s.atMergedMark i ⟨rest, some k⟩)
  exact ⟨here, turn, others, by rw [engine]; rfl, by rw [engine]; rfl, timer, links, spot, router,
    plans, store, port⟩

/-- What a step that is not started at a mark leaves, with the merged window `w` behind it. -/
theorem notStarted_atMergedMark (s : State) (i j : Nat) (e : StepEntry) (reason : NotStarted)
    (w : MergedWindow) :
    let t := notStarted j e reason (s.atMergedMark i w)
    t.engine = { s.engine with free := none, merged := some w }
      ∧ t.timer = { s.timer with nextStep := i + 1, notStarted := true }
      ∧ (s.linkDefined e.testLink.toNat = true →
          t.link e.testLink.toNat = { s.link e.testLink.toNat with
            notStarted := satInc 16777215 (s.link e.testLink.toNat).notStarted })
      ∧ (∀ id, id ≠ e.testLink.toNat → t.link id = s.link id)
      ∧ (e.log = false → t.router = s.router ∧ t.port = s.port)
      ∧ (e.log = true → t.router = (hand
          { ResultRecord.blank .skipped s.timer.sweepNumber s.timer.sweepTime with
            link := some e.testLink.toNat, step := some j, marker := some e.marker,
            reason := some reason } s).router)
      ∧ t.registry = s.registry ∧ t.spot = s.spot ∧ t.plans = s.plans ∧ t.store = s.store := by
  obtain ⟨counted, kept, unlogged, logged⟩ :=
    notStarted_of_mark (s := s) (b := s.atMergedMark i w) j e reason rfl rfl rfl rfl rfl rfl
  obtain ⟨-, -, -, engine, registry, spot, plans, store⟩ :=
    notStarted_frame j e reason (s.atMergedMark i w)
  exact ⟨engine, notStarted_timer _ _ _ _, counted, kept, unlogged, logged, registry, spot, plans,
    store⟩

/-- An absent window and an empty one are the same window at a mark. -/
theorem State.windowAtMark_of_empty {s : State}
    (h : s.engine.merged = none ∨ s.engine.merged = some ⟨[], none⟩) :
    s.windowAtMark = ⟨[], none⟩ := by
  rcases h with h | h <;> simp [State.windowAtMark, h]

theorem State.windowAtMark_of_some {s : State} {w : MergedWindow} (h : s.engine.merged = some w) :
    s.windowAtMark = w := by simp [State.windowAtMark, h]

/-- A due step in an empty window is its head, and the examination decides. -/
theorem exec_mergedMark_of_empty {s t : State} {i : Nat} (hk : s.kindReached i .merged = true)
    (hd : s.due (s.active.step i) = true)
    (hw : s.engine.merged = none ∨ s.engine.merged = some ⟨[], none⟩)
    (head : examineMerged 4 (s.atMergedMark i ⟨[⟨i, s.active.step i⟩], none⟩) = t) :
    exec (.mergedMark i) s = .next t := by
  rw [exec_mergedMark_of_room hk hd (State.windowAtMark_of_empty hw) (by simp)]
  exact congrArg _ head

/-- A due step behind a waiting head joins it, and the examination decides. -/
theorem exec_mergedMark_of_head {s t : State} {i : Nat} (hk : s.kindReached i .merged = true)
    (hd : s.due (s.active.step i) = true) {p : PendingStep} {rest : List PendingStep}
    (hw : s.engine.merged = some ⟨p :: rest, none⟩) (hl : rest.length < 2)
    (head : examineMerged 4
      (s.atMergedMark i ⟨p :: (rest ++ [⟨i, s.active.step i⟩]), none⟩) = t) :
    exec (.mergedMark i) s = .next t := by
  rw [exec_mergedMark_of_room hk hd (State.windowAtMark_of_some hw)
    (by simp only [List.length_cons]; omega)]
  exact congrArg _ head

/-- Settles O52: the examination of a head by its check, and the mark by the window it finds. -/
theorem mergedMarkJoinsTheWindow : Obligations.MergedMarkJoinsTheWindow := by
  unfold Obligations.MergedMarkJoinsTheWindow
  refine ⟨fun s member test => ⟨s.mergedHead_eq_starts member test,
    s.mergedHead_eq_dropped member test, s.mergedHead_eq_waits member test⟩, ?_⟩
  rintro i s e rfl hk
  refine ⟨fun pending k hd hw hl => ?behindMember, fun k hd hw hc => ?starts,
    fun hd hw => ⟨fun hh => ?waits, fun reason hh => ?dropped⟩,
    fun p rest hd hw hl => ⟨fun hh => ?headWaits, fun k hh => ?headStarts,
      fun reason hh hr hq => ?headDropped⟩,
    fun w hd hw hl => ?crowded, fun hd => ?idle⟩
  case behindMember =>
    rw [exec_mergedMark_of_room hk hd (State.windowAtMark_of_some hw) hl,
      examineMerged_of_member 4 rfl]
    rfl
  case starts =>
    have hh := (s.mergedHead_eq_starts none _ k).mpr ⟨rfl, hc⟩
    exact ⟨_, exec_mergedMark_of_empty hk hd hw (examineMerged_atMergedMark_of_starts hh),
      startTest_atMergedMark s i k _ []⟩
  case waits =>
    exact exec_mergedMark_of_empty hk hd hw (examineMerged_atMergedMark_of_waits hh)
  case dropped =>
    exact ⟨_, exec_mergedMark_of_empty hk hd hw (examineMerged_atMergedMark_of_dropped hh),
      notStarted_atMergedMark s i i _ reason _⟩
  case headWaits =>
    exact exec_mergedMark_of_head hk hd hw hl (examineMerged_atMergedMark_of_waits hh)
  case headStarts =>
    exact ⟨_, exec_mergedMark_of_head hk hd hw hl (examineMerged_atMergedMark_of_starts hh),
      startTest_atMergedMark s i k _ _⟩
  case headDropped =>
    subst hr
    obtain ⟨engine, timer, counted, kept, -, -, rest⟩ :=
      notStarted_atMergedMark s i p.index p.entry reason ⟨[⟨i, s.active.step i⟩], none⟩
    exact ⟨_, exec_mergedMark_of_head hk hd hw hl
        (examineMerged_atMergedMark_of_dropped_waits hh hq),
      engine, timer, counted, kept, rest⟩
  case crowded =>
    obtain ⟨engine, outcome⟩ := notStarted_atMergedMark s i i (s.active.step i) .crowded w
    exact ⟨_, exec_mergedMark_of_full hk hd (State.windowAtMark_of_some hw) hl,
      by rw [engine, ← hw], outcome⟩
  case idle =>
    exact ⟨_, exec_mergedMark_of_not_due hk hd, rfl, rfl, rfl, rfl, rfl, rfl, rfl, rfl, rfl, rfl, rfl,
      rfl⟩

end Sys2Proof.Machine

/-! The closure of a step by a report (R81, R83): the closure outcome of DRIVEN and CONTENDED steps (R101, R105,
R107, R108), what the closure leaves untouched up to its judgement, and what the judgement makes of the links and
of the Spot Queue (R103 to R106, R109, R116, R121). -/

namespace Sys2Proof.Machine

/-! ## The closure outcome -/

theorem State.redefined_iff (s : State) (id generation : Nat) :
    s.redefined id generation = true
      ↔ s.linkDefined id = false ∨ generation < (s.link id).definedIn := by
  simp [State.redefined]

theorem State.redefined_eq_false (s : State) (id generation : Nat) :
    s.redefined id generation = false
      ↔ s.linkDefined id = true ∧ (s.link id).definedIn ≤ generation := by
  simp [State.redefined]

theorem State.closureFinding_of_redefined {s : State} {o : OpenStep}
    (h : s.redefined o.testLink o.generation = true) :
    s.closureFinding o = ⟨.voidRedefined, none, none⟩ := by
  rw [State.closureFinding, if_pos h]; rfl

theorem State.closureFinding_of_driven {s : State} {o : OpenStep}
    (h : s.redefined o.testLink o.generation = false) (hf : o.form = .driven) :
    s.closureFinding o = s.judgeDriven o := by
  simp [State.closureFinding, h, hf]

theorem State.closureFinding_of_contended {s : State} {o : OpenStep}
    (h : s.redefined o.testLink o.generation = false) (hf : o.form = .contended) :
    s.closureFinding o = judgeContended o := by
  simp [State.closureFinding, h, hf]

/-! ### DRIVEN steps (R101, R105) -/

/-- A talker fails unless it reports a drive without a fault (R105). -/
theorem talkerFailed_iff (ps : List Participant) :
    talkerFailed ps = true ↔ ∃ p ∈ ps, p.role = .talker ∧ p.report ≠ some (.drive false) := by
  simp only [talkerFailed, List.any_eq_true, Bool.and_eq_true, beq_iff_eq]
  refine exists_congr fun p => and_congr_right fun _ => and_congr_right fun _ => ?_
  cases p.report with
  | none => simp
  | some r => cases r <;> simp

theorem talkerFailed_eq_false (ps : List Participant) :
    talkerFailed ps = false ↔ ∀ p ∈ ps, p.role = .talker → p.report = some (.drive false) := by
  simp only [← Bool.not_eq_true, talkerFailed_iff, not_exists, not_and, ne_eq, Classical.not_not]

/-- The order of the groups is the order of their ranks (R101). -/
theorem worstFirst_ranked : worstFirst.Pairwise fun a b => a.rank < b.rank := by decide

theorem levelOutcome_group (low high margin v : Int) :
    (levelOutcome low high margin v).group ∈ worstFirst := by
  unfold levelOutcome; (repeat' split) <;> decide

theorem errorsOutcome_group (low high e : Int) : (errorsOutcome low high e).group ∈ worstFirst := by
  unfold errorsOutcome; (repeat' split) <;> decide

theorem codeOutcome_group (mask raw expected : Half) :
    (codeOutcome mask raw expected).group ∈ worstFirst := by
  unfold codeOutcome; split <;> decide

/-- A report that can be judged falls into one of the four groups that are combined (R98, R99, R101). -/
theorem judgeReading_group {c : ClassDef} {e : ProbeEntry} {expected raw errors : Half} {wireOff : Bool}
    {f : Finding} (h : judgeReading c e expected raw errors wireOff = some f) :
    f.outcome.group ∈ worstFirst := by
  have opened : TestOutcome.openSeen.group ∈ worstFirst := by decide
  unfold judgeReading at h
  split at h
  · cases h
  · cases hm : c.measure <;> simp only [hm] at h
    case level =>
      split at h <;> cases h
      · exact opened
      · exact levelOutcome_group _ _ _ _
    case errors =>
      cases h; dsimp only; split
      · exact opened
      · exact errorsOutcome_group _ _ _
    case code =>
      cases h; dsimp only; split
      · exact opened
      · exact codeOutcome_group _ _ _
    case silence => cases h

theorem State.expectFinding_group {s : State} {expected : Half} {p : Participant} {f : Finding}
    (h : s.expectFinding expected p = some f) : f.outcome.group ∈ worstFirst := by
  unfold State.expectFinding at h
  split at h
  · exact judgeReading_group h
  · cases h

/-- The combination is the first finding of the worst group present (R101). -/
theorem combine_first_of_worst {fs : List Finding} (hg : ∀ f ∈ fs, f.outcome.group ∈ worstFirst)
    (hne : fs ≠ []) :
    ∃ before f after, fs = before ++ f :: after ∧ combine fs = some f
      ∧ (∀ g ∈ before, f.outcome.group.rank < g.outcome.group.rank)
      ∧ ∀ g ∈ after, f.outcome.group.rank ≤ g.outcome.group.rank := by
  obtain ⟨f, hf⟩ : ∃ f, combine fs = some f := by
    rw [← Option.ne_none_iff_exists']
    intro none_found
    obtain ⟨x, hx⟩ := List.exists_mem_of_ne_nil fs hne
    have absent := List.findSome?_eq_none_iff.mp none_found _ (hg x hx)
    simpa using List.find?_eq_none.mp absent x hx
  obtain ⟨better, g, others, order, found, absent⟩ := (combine_eq_some fs f).mp hf
  obtain ⟨hfg, before, after, split, earlier⟩ := List.find?_eq_some_iff_append.mp found
  have group : f.outcome.group = g := by simpa using hfg
  have ranked := worstFirst_ranked
  rw [order, List.pairwise_append, List.pairwise_cons] at ranked
  have worst : ∀ x ∈ fs, x.outcome.group = g ∨ g.rank < x.outcome.group.rank := by
    intro x hx
    have member := hg x hx
    rw [order, List.mem_append, List.mem_cons] at member
    rcases member with inBetter | same | inOthers
    · simpa using List.find?_eq_none.mp (absent _ inBetter) x hx
    · exact Or.inl same
    · exact Or.inr (ranked.2.1.1 _ inOthers)
  refine ⟨before, f, after, split, hf, fun x hx => ?_, fun x hx => ?_⟩
  · have other : x.outcome.group ≠ g := by simpa using earlier x hx
    rw [group]
    exact (worst x (by simp [split, hx])).resolve_left other
  · rw [group]
    rcases worst x (by simp [split, hx]) with same | above
    · exact Nat.le_of_eq (by rw [same])
    · exact Nat.le_of_lt above

theorem State.judgeDriven_of_talker {s : State} {o : OpenStep}
    (h : talkerFailed o.participants = true) : s.judgeDriven o = ⟨.voidTalker, none, none⟩ := by
  rw [State.judgeDriven, if_pos h]; rfl

/-- With its talkers in order a DRIVEN step is judged by the combination of its findings (R105). -/
theorem State.judgeDriven_of_drive {s : State} {o : OpenStep}
    (h : talkerFailed o.participants = false) :
    s.judgeDriven o
      = (combine (o.participants.filterMap (s.expectFinding (s.active.link o.testLink).expected))).getD
          ⟨.voidMissing, none, none⟩ := by
  rw [State.judgeDriven, h]; rfl

/-- The first finding of the worst group judges the step (R101, R105). -/
theorem State.judgeDriven_of_findings {s : State} {o : OpenStep} {fs : List Finding}
    (h : talkerFailed o.participants = false)
    (hfs : fs = o.participants.filterMap (s.expectFinding (s.active.link o.testLink).expected))
    (hne : fs ≠ []) :
    ∃ before f after, fs = before ++ f :: after ∧ s.judgeDriven o = f
      ∧ (∀ g ∈ before, f.outcome.group.rank < g.outcome.group.rank)
      ∧ ∀ g ∈ after, f.outcome.group.rank ≤ g.outcome.group.rank := by
  have groups : ∀ f ∈ fs, f.outcome.group ∈ worstFirst := by
    intro f hf
    rw [hfs, List.mem_filterMap] at hf
    obtain ⟨p, -, hp⟩ := hf
    exact State.expectFinding_group hp
  obtain ⟨before, f, after, split, combined, earlier, later⟩ := combine_first_of_worst groups hne
  refine ⟨before, f, after, split, ?_, earlier, later⟩
  rw [State.judgeDriven_of_drive h, ← hfs, combined]; rfl

/-! ### CONTENDED steps (R107, R108) -/

/-- A search that finds an element has passed over everything before it. -/
theorem find?_of_first {α : Type} {q : α → Bool} {xs before after : List α} {p : α}
    (split : xs = before ++ p :: after) (hp : q p = true) (hb : ∀ x ∈ before, q x = false) :
    xs.find? q = some p :=
  List.find?_eq_some_iff_append.mpr
    ⟨hp, before, after, split, fun x hx => by rw [hb x hx]; rfl⟩

theorem find?_of_absent {α : Type} {q : α → Bool} {xs : List α} (h : ∀ x ∈ xs, q x = false) :
    xs.find? q = none := List.find?_eq_none.mpr fun x hx => by simp [h x hx]

theorem judgeContended_of_missing {o : OpenStep}
    (h : ∃ p ∈ o.participants, p.role = .contender ∧ p.report = none) :
    judgeContended o = ⟨.voidMissing, none, none⟩ := by
  have missing : (o.participants.any fun p => p.role == .contender && p.report.isNone) = true := by
    simpa using h
  rw [judgeContended, if_pos missing]; rfl

section
variable {o : OpenStep} (heard : ∀ p ∈ o.participants, p.role = .contender → p.report ≠ none)
include heard

theorem no_contender_missing :
    (o.participants.any fun p => p.role == .contender && p.report.isNone) = false := by
  simpa using heard

/-- With every contender heard, the first wire-off judges the step (R108). -/
theorem judgeContended_of_open {p : Participant}
    (h : o.participants.find? wireOffSeen = some p) :
    judgeContended o = ⟨.openSeen, none, some p.slot⟩ := by
  simp [judgeContended, no_contender_missing heard, h]

/-- With no wire-off, the first disagreement does. -/
theorem judgeContended_of_contention {p : Participant}
    (hw : o.participants.find? wireOffSeen = none)
    (h : o.participants.find? (disagrees (winnerCode o.participants)) = some p) :
    judgeContended o = ⟨.contention, none, some p.slot⟩ := by
  simp [judgeContended, no_contender_missing heard, hw, h]

theorem judgeContended_of_agreement (hw : o.participants.find? wireOffSeen = none)
    (h : o.participants.find? (disagrees (winnerCode o.participants)) = none) :
    judgeContended o = ⟨.inRange, none, none⟩ := by
  simp [judgeContended, no_contender_missing heard, hw, h]

end

/-- A contender with the winner's code exists when every code fits its six bits (R7, R107). -/
theorem winnerCode_contends {ps : List Participant}
    (h : ∃ p ∈ ps, p.role = .contender ∧ p.code ≠ none)
    (hc : ∀ p ∈ ps, ∀ code, p.code = some code → code ≤ 63) :
    ∃ p ∈ ps, p.role = .contender ∧ p.code = some (winnerCode ps) := by
  rcases winnerCode_mem ps with top | found
  · obtain ⟨p, hp, role, hcode⟩ := h
    obtain ⟨code, code_eq⟩ := Option.ne_none_iff_exists'.mp hcode
    have above := winnerCode_le ps p code hp role code_eq
    have below := hc p hp code code_eq
    exact ⟨p, hp, role, by rw [code_eq, top]; congr 1; omega⟩
  · exact found

/-! ## Up to the judgement (R83 items 1 to 3) -/

/-- Behind a report that closes the step of table slot `k`, the state `x` is as `s` in everything that the
judgement reads and that the closure keeps: no window is open, and the run is RUNNING, or halted by the probes
that the closure has lost. -/
structure State.JudgesAs (k : Fin 8) (s x : State) : Prop where
  links : x.links = s.links
  spot : x.spot = s.spot
  plans : x.plans = s.plans
  store : x.store = s.store
  sweepNumber : x.timer.sweepNumber = s.timer.sweepNumber
  sweepTime : x.timer.sweepTime = s.timer.sweepTime
  coeff : ∀ n r, (x.probe n).coeff r = (s.probe n).coeff r
  turns : x.engine.turns = s.engine.turns
  openAt : ∀ j, j ≠ k → x.openAt j = s.openAt j
  merged : x.engine.merged = none
  free : x.engine.free = none
  run : x.timer.run = .running ∨ x.timer.run = .halted

/-- With no window open a timer's stop ends the sweep and sends PARK, and does nothing else (R36). -/
theorem timerStop_of_none {s : State} (h : s.pendingSteps = []) :
    timerStop s = parkAll ((s.withEngine { s.engine with merged := none, free := none }).withTimer
      { s.timer with sweepActive := false, sweepEndDue := false }) := by
  unfold timerStop endSweep
  rw [closeWindows_of_none h]; rfl

theorem State.pendingSteps_of_no_window {s : State} (h : s.engine.merged = none) :
    s.pendingSteps = [] := by simp [State.pendingSteps, h]

theorem StepEngine.eq_of_no_window {e : StepEngine} (hm : e.merged = none) (hf : e.free = none) :
    { e with merged := none, free := none } = e := by
  cases e; cases hm; cases hf; rfl

theorem setHealth_timer (h : Health) (s : State) :
    (setHealth h s).timer = { s.timer with health := h } := by
  unfold setHealth
  split
  · next same => rw [← same]
  · rfl

theorem enterHalted_timer (s : State) :
    (enterHalted s).timer = { s.timer with health := .severe, run := .halted } := by
  have health := setHealth_timer .severe s
  simp [enterHalted, health]

namespace State.JudgesAs

variable {k : Fin 8} {s x : State}

theorem refl (k : Fin 8) {s : State} (hm : s.engine.merged = none) (hf : s.engine.free = none)
    (hr : s.timer.run = .running) : s.JudgesAs k s :=
  ⟨rfl, rfl, rfl, rfl, rfl, rfl, fun _ _ => rfl, rfl, fun _ _ => rfl, hm, hf, Or.inl hr⟩

/-- A change of the Probe Table that keeps the coefficients, of the ports, of the queues and of the flags, in
which the timer may enter HALTED. -/
theorem of_halting {y : State} (h : s.JudgesAs k x) (links : y.links = x.links)
    (spot : y.spot = x.spot) (plans : y.plans = x.plans) (store : y.store = x.store)
    (engine : y.engine = x.engine) (coeff : ∀ n r, (y.probe n).coeff r = (x.probe n).coeff r)
    (sweepNumber : y.timer.sweepNumber = x.timer.sweepNumber)
    (sweepTime : y.timer.sweepTime = x.timer.sweepTime)
    (run : y.timer.run = x.timer.run ∨ y.timer.run = .halted) : s.JudgesAs k y where
  links := links.trans h.links
  spot := spot.trans h.spot
  plans := plans.trans h.plans
  store := store.trans h.store
  sweepNumber := sweepNumber.trans h.sweepNumber
  sweepTime := sweepTime.trans h.sweepTime
  coeff n r := (coeff n r).trans (h.coeff n r)
  turns := by rw [engine]; exact h.turns
  openAt j hj := (State.openAt_of_table (by rw [engine]) j).trans (h.openAt j hj)
  merged := by rw [engine]; exact h.merged
  free := by rw [engine]; exact h.free
  run := run.elim (fun same => by rw [same]; exact h.run) Or.inr

theorem of_same {y : State} (h : s.JudgesAs k x) (links : y.links = x.links) (spot : y.spot = x.spot)
    (plans : y.plans = x.plans) (store : y.store = x.store) (timer : y.timer = x.timer)
    (engine : y.engine = x.engine) (coeff : ∀ n r, (y.probe n).coeff r = (x.probe n).coeff r) :
    s.JudgesAs k y :=
  h.of_halting links spot plans store engine coeff (by rw [timer]) (by rw [timer])
    (Or.inl (by rw [timer]))

theorem mapProbe (h : s.JudgesAs k x) (n : Nat) (f : ProbeEntry → ProbeEntry)
    (hf : ∀ e r, (f e).coeff r = e.coeff r) : s.JudgesAs k (x.mapProbe n f) := by
  refine h.of_same rfl rfl rfl rfl rfl rfl fun m r => ?_
  rw [State.probe_mapProbe]
  split
  · exact hf _ r
  · rfl

theorem setOpen (h : s.JudgesAs k x) (o : Option OpenStep) : s.JudgesAs k (x.setOpen k o) :=
  { h with
    openAt := fun j hj => by
      rw [State.openAt_setOpen, if_neg (Ne.symm hj)]; exact h.openAt j hj }

theorem hearProbe (h : s.JudgesAs k x) (n : Nat) : s.JudgesAs k (hearProbe n x) :=
  h.of_same rfl rfl rfl rfl rfl rfl fun _ _ => rfl

theorem endAssignment (h : s.JudgesAs k x) (t : Tag) (n : Nat) :
    s.JudgesAs k (endAssignment t n x) := by
  refine h.mapProbe n _ fun e r => ?_
  cases r <;> simp only [ProbeEntry.endAssignment, ProbeEntry.dropQueued, ProbeEntry.coeff] <;>
    (repeat' split) <;> rfl

theorem changeState (h : s.JudgesAs k x) (n : Nat) (new : ProbeState) :
    s.JudgesAs k (changeState n new x) := by
  obtain ⟨-, -, -, timer, engine, links, spot, plans, store⟩ := changeState_frame n new x
  refine h.of_same links spot plans store timer engine fun m r => ?_
  rw [changeState_probe]
  split
  · cases r <;> rfl
  · rfl

theorem enterHalted (h : s.JudgesAs k x) : s.JudgesAs k (enterHalted x) := by
  obtain ⟨-, -, -, engine, registry, links, spot, -, plans, store⟩ := enterHalted_frame x
  have timer := enterHalted_timer x
  exact h.of_halting links spot plans store engine
    (fun n r => by rw [State.probe_of_registry registry]) (by rw [timer]) (by rw [timer])
    (Or.inr (by rw [timer]))

theorem timerStop (h : s.JudgesAs k x) : s.JudgesAs k (timerStop x) := by
  obtain ⟨-, -, -, spot, plans, store⟩ := timerStop_frame x
  have timer := timerStop_timer x
  have engine : (Machine.timerStop x).engine = x.engine :=
    (timerStop_engine x).trans (StepEngine.eq_of_no_window h.merged h.free)
  have links : (Machine.timerStop x).links = x.links := by
    rw [timerStop_of_none (State.pendingSteps_of_no_window h.merged)]; simp
  exact h.of_halting links spot plans store engine (fun n r => by rw [timerStop_probe])
    (by rw [timer]) (by rw [timer]) (Or.inl (by rw [timer]))

theorem quorumWatch (h : s.JudgesAs k x) (b : Bool) : s.JudgesAs k (quorumWatch b x) := by
  unfold Machine.quorumWatch
  dsimp only
  (repeat' split)
  · exact h.enterHalted.timerStop
  · exact h.enterHalted
  · exact h

theorem leaveInStep (h : s.JudgesAs k x) (b : Bool) (n : Nat) :
    s.JudgesAs k (leaveInStep b n x) := by
  refine (h.mapProbe n _ fun e r => ?_).quorumWatch b
  cases r <;> simp only [ProbeEntry.clearAssignments, ProbeEntry.dropQueued, ProbeEntry.coeff] <;>
    split <;> rfl

theorem addMiss (h : s.JudgesAs k x) (b : Bool) (n : Nat) : s.JudgesAs k (addMiss b n x) := by
  have counted := h.mapProbe n (fun e => { e with missCount := satInc 8 e.missCount })
    fun e r => by cases r <;> rfl
  unfold Machine.addMiss loseProbe
  dsimp only
  (repeat' split)
  · exact (counted.changeState n .lost).leaveInStep b n
  · exact counted.changeState n .lost
  · exact counted

theorem countMissing (h : s.JudgesAs k x) (p : Participant) : s.JudgesAs k (countMissing p x) := by
  unfold Machine.countMissing
  split
  · exact h.addMiss false p.slot
  · exact h

end State.JudgesAs

/-- The state in which the closure of step `o` with tag `t` is judged: the misses of its MISSING participants are
counted and its assignments have ended (R83 items 1 to 3). -/
def atJudgement (t : Tag) (o : OpenStep) (s : State) : State :=
  o.settled.participants.foldl (fun s p => endAssignment t p.slot s)
    (o.settled.participants.foldl (fun s p => countMissing p s) s)

theorem closeStep_eq (k : Fin 8) (o : OpenStep) (s : State) :
    closeStep k o s = reportEmpty (examine (freeSlot k
      (judgeClosed ⟨k, s.turn k⟩ o.settled (atJudgement ⟨k, s.turn k⟩ o s)))) := rfl

theorem State.JudgesAs.atJudgement {k : Fin 8} {s x : State} (h : s.JudgesAs k x) (t : Tag)
    (o : OpenStep) : s.JudgesAs k (atJudgement t o x) := by
  have missed := foldl_keeps (s.JudgesAs k) (fun y p => Machine.countMissing p y)
    (fun _ p hy => hy.countMissing p) o.settled.participants x h
  exact foldl_keeps (s.JudgesAs k) _ (fun _ (p : Participant) hy => hy.endAssignment t p.slot) _ _
    missed

/-- A complete step has no entry left to turn MISSING. -/
theorem OpenStep.settled_of_complete {o : OpenStep} (h : o.complete = true) : o.settled = o := by
  have same : o.participants.map Participant.settle = o.participants := by
    refine (List.map_congr_left fun p hp => ?_).trans (List.map_id _)
    have notAwaited : p.state ≠ .awaited := by
      simpa [OpenStep.complete] using (List.all_eq_true.mp h) p hp
    exact if_neg notAwaited
  unfold OpenStep.settled; rw [same]

/-- Without a MISSING participant no miss is counted, and the run is not touched. -/
theorem atJudgement_timer {t : Tag} {o : OpenStep} (s : State) (hc : o.complete = true)
    (hp : ∀ p ∈ o.participants, p.state ≠ .missing) : (atJudgement t o s).timer = s.timer := by
  have noMiss : ∀ (ps : List Participant) (x : State), (∀ p ∈ ps, p.state ≠ .missing) →
      ps.foldl (fun s p => countMissing p s) x = x := by
    intro ps
    induction ps with
    | nil => intro x _; rfl
    | cons p ps ih =>
      intro x h
      have skip : countMissing p x = x := if_neg fun m => h p (List.mem_cons_self ..) m.1
      rw [List.foldl_cons, skip]
      exact ih x fun q hq => h q (List.mem_cons_of_mem _ hq)
  unfold atJudgement
  rw [OpenStep.settled_of_complete hc, noMiss _ s hp]
  exact foldl_frame State.timer _ (fun x (p : Participant) => (endAssignment_frame t p.slot x).2.2.2.1) _ s

/-! ## Behind the judgement (R83 items 6 to 9) -/

/-- In a run that is RUNNING or HALTED, with no window open, the report of an empty table can only stop the
timer (R36, R86). -/
theorem reportEmpty_of_watched {s : State} (h : s.timer.run = .running ∨ s.timer.run = .halted) :
    reportEmpty s = s ∨ (s.timer.run = .halted ∧ reportEmpty s = timerStop s) := by
  unfold reportEmpty
  split
  · rcases h with h | h <;> simp [h]
  · exact Or.inl rfl

/-- Behind the judgement the table slot is emptied and nothing else moves but the timer and the ports. -/
theorem reportEmpty_freeSlot {k : Fin 8} {s : State} (hm : s.engine.merged = none)
    (hf : s.engine.free = none) (hr : s.timer.run = .running ∨ s.timer.run = .halted) :
    let t := reportEmpty (examine (freeSlot k s))
    t.links = s.links ∧ t.spot = s.spot ∧ t.port = s.port ∧ t.plans = s.plans ∧ t.store = s.store
      ∧ t.engine = (s.setOpen k none).engine
      ∧ (s.timer.run = .running → t.timer.run = .running) := by
  have freed : freeSlot k s = s.setOpen k none := by
    unfold freeSlot; simp only [State.setOpen_engine, hm]
  have quiet : examine (s.setOpen k none) = s.setOpen k none := examine_of_no_windows hm hf
  dsimp only
  rw [freed, quiet]
  rcases reportEmpty_of_watched (s := s.setOpen k none) hr with same | ⟨halted, stopped⟩
  · rw [same]; exact ⟨rfl, rfl, rfl, rfl, rfl, rfl, id⟩
  · have engine : (timerStop (s.setOpen k none)).engine = (s.setOpen k none).engine :=
      (timerStop_engine _).trans (StepEngine.eq_of_no_window hm hf)
    have notRunning : s.timer.run ≠ .running := by
      rw [show s.timer.run = .halted from halted]; decide
    rw [stopped, engine,
      timerStop_of_none (s := s.setOpen k none) (State.pendingSteps_of_no_window hm)]
    simp [notRunning]

/-- The closure of a complete step, from a state `x` that is as `s` for the judgement: what the judgement makes of
the links, the Spot Queue and the port stands, the step's slot is emptied, and the rest is kept (R83). -/
theorem closeStep_of_judgesAs {k : Fin 8} {s x : State} {o : OpenStep} (h : s.JudgesAs k x)
    (hc : o.complete = true) :
    let t := closeStep k o x
    let y := atJudgement ⟨k, s.turn k⟩ o x
    let judged := judgeClosed ⟨k, s.turn k⟩ o y
    t.links = judged.links ∧ t.spot = judged.spot ∧ t.port = judged.port
      ∧ t.openAt k = none ∧ (∀ j, j ≠ k → t.openAt j = s.openAt j) ∧ (∀ j, t.turn j = s.turn j)
      ∧ t.plans = s.plans ∧ t.store = s.store
      ∧ (y.timer.run = .running → t.timer.run = .running) := by
  have turn : x.turn k = s.turn k := State.turn_of_turns h.turns k
  have hy := h.atJudgement ⟨k, s.turn k⟩ o
  dsimp only
  rw [closeStep_eq, turn, OpenStep.settled_of_complete hc]
  generalize Machine.atJudgement ⟨k, s.turn k⟩ o x = y at hy ⊢
  obtain ⟨-, -, -, timer, engine, -, plans, store⟩ := judgeClosed_frame ⟨k, s.turn k⟩ o y
  obtain ⟨links, spot, port, plans', store', engine', run⟩ :=
    reportEmpty_freeSlot (k := k) (s := judgeClosed ⟨k, s.turn k⟩ o y) (by rw [engine]; exact hy.merged)
      (by rw [engine]; exact hy.free) (by rw [timer]; exact hy.run)
  have table : ∀ j, (reportEmpty (examine (freeSlot k (judgeClosed ⟨k, s.turn k⟩ o y)))).openAt j
      = if k = j then none else y.openAt j := by
    intro j
    rw [State.openAt_of_table (s := (judgeClosed ⟨k, s.turn k⟩ o y).setOpen k none) (by rw [engine']) j,
      State.openAt_setOpen, State.openAt_of_table (s := y) (by rw [engine]) j]
  refine ⟨links, spot, port, by rw [table, if_pos rfl], fun j hj => ?_, fun j => ?_,
    (plans'.trans plans).trans hy.plans, (store'.trans store).trans hy.store,
    fun hr => run (by rw [timer]; exact hr)⟩
  · rw [table, if_neg (Ne.symm hj)]; exact hy.openAt j hj
  · refine State.turn_of_turns ?_ j
    rw [engine', State.setOpen_engine, engine]
    exact hy.turns

/-! ## The links behind the judgement (R103, R106, R109) -/

theorem judgeLink_of_kept {o : OpenStep} {f : Finding} (s : State)
    (h : f.outcome = .voidRedefined ∨ o.withdrawn = true) : judgeLink o f s = s := if_pos h

theorem judgeLink_link_other (o : OpenStep) (f : Finding) (s : State) {id : Nat}
    (h : id ≠ o.testLink) : (judgeLink o f s).link id = s.link id := by
  unfold judgeLink
  split
  · rfl
  · rw [State.link_setLink, if_neg fun e => h e.1.symm]

theorem judgeLink_link_test {o : OpenStep} {f : Finding} (s : State) (hd : s.linkDefined o.testLink = true)
    (hf : f.outcome ≠ .voidRedefined) (hw : o.withdrawn = false) :
    (judgeLink o f s).link o.testLink = (s.link o.testLink).judged
      (s.active.cls (s.active.link o.testLink).cls.toNat) f o.source s.timer.sweepNumber
      s.timer.sweepTime := by
  have moves : ¬ (f.outcome = .voidRedefined ∨ o.withdrawn = true) := by simp [hf, hw]
  unfold judgeLink
  rw [if_neg moves]
  exact State.link_setLink_same _ _ _ (State.lt_of_linkDefined hd)

/-- A quiet participant of a step whose link is `id` (R106). -/
def Participant.isQuietOn (p : Participant) (id : Nat) : Prop := p.role = .quiet ∧ p.quietLink = some id

/-- A quiet check touches the link of its own participant alone. -/
theorem quietCheck_link_other (o : OpenStep) (p : Participant) (acc : State × List ResultRecord)
    {id : Nat} (h : ¬ p.isQuietOn id) : (quietCheck o p acc).1.link id = acc.1.link id := by
  unfold quietCheck
  split
  · next role _ _ quietLink =>
    have other : ¬ _ = id := fun e => h ⟨role, e ▸ quietLink⟩
    dsimp only
    (repeat' split) <;> simp [State.link_setLink, other]
  · rfl

/-- The checks of participants on other links leave a link as it is. -/
theorem foldl_quietCheck_link_other (o : OpenStep) {id : Nat} (ps : List Participant)
    (h : ∀ p ∈ ps, ¬ p.isQuietOn id) (acc : State × List ResultRecord) :
    (ps.foldl (fun acc p => quietCheck o p acc) acc).1.link id = acc.1.link id := by
  induction ps generalizing acc with
  | nil => rfl
  | cons p ps ih =>
    rw [List.foldl_cons, ih (fun q hq => h q (List.mem_cons_of_mem _ hq)),
      quietCheck_link_other o p acc (h p (List.mem_cons_self ..))]

/-- The quiet checks change the links alone of what a check reads. -/
theorem foldl_quietCheck_frame (o : OpenStep) (ps : List Participant)
    (acc : State × List ResultRecord) :
    let t := (ps.foldl (fun acc p => quietCheck o p acc) acc).1
    t.timer = acc.1.timer ∧ t.registry = acc.1.registry ∧ t.plans = acc.1.plans := by
  refine foldl_keeps (fun b : State × List ResultRecord => b.1.timer = acc.1.timer
    ∧ b.1.registry = acc.1.registry ∧ b.1.plans = acc.1.plans) _ ?_ ps acc ⟨rfl, rfl, rfl⟩
  rintro ⟨b, rs⟩ p ⟨timer, registry, plans⟩
  obtain ⟨-, -, -, timer', -, registry', -, -, plans', -⟩ := quietCheck_frame o p rs b
  exact ⟨timer'.trans timer, registry'.trans registry, plans'.trans plans⟩

theorem ClassDef.corrected_congr (c : ClassDef) {e e' : ProbeEntry}
    (h : ∀ r, e.coeff r = e'.coeff r) (raw : Half) : c.corrected e raw = c.corrected e' raw := by
  rw [ClassDef.corrected, ClassDef.corrected, h]

theorem judgeQuiet_congr (c : ClassDef) {e e' : ProbeEntry} (h : ∀ r, e.coeff r = e'.coeff r)
    (raw : Half) (wireOff : Bool) : judgeQuiet c e raw wireOff = judgeQuiet c e' raw wireOff := by
  unfold judgeQuiet; rw [ClassDef.corrected_congr c h]

theorem judgeReading_congr (c : ClassDef) {e e' : ProbeEntry} (h : ∀ r, e.coeff r = e'.coeff r)
    (expected raw errors : Half) (wireOff : Bool) :
    judgeReading c e expected raw errors wireOff = judgeReading c e' expected raw errors wireOff := by
  unfold judgeReading; rw [ClassDef.corrected_congr c h]

/-- Whether a quiet check is taken, and its outcome, depend on the plan, the record of the quiet link and the
coefficients of the listener's probe alone (R97, R106). -/
theorem State.takesQuietCheck_congr {s x : State} {id n : Nat} (plans : x.plans = s.plans)
    (link : x.link id = s.link id) (coeff : ∀ r, (x.probe n).coeff r = (s.probe n).coeff r)
    (generation cls : Nat) (raw : Half) (wireOff : Bool) (outcome : TestOutcome) (a : Int) :
    x.takesQuietCheck generation id cls n raw wireOff outcome a
      ↔ s.takesQuietCheck generation id cls n raw wireOff outcome a := by
  have active : x.active = s.active := by rw [State.active, plans]; rfl
  simp only [State.takesQuietCheck, State.linkDefined_of_plans plans, link, active,
    judgeQuiet_congr _ coeff]

section
variable {o : OpenStep} {p : Participant} {cls id : Nat} {raw errors : Half} {wireOff : Bool}
  (hp : p = ⟨p.slot, .quiet, some cls, some id, p.code, p.state, some (.reading raw errors wireOff)⟩)
include hp

/-- A check that is taken moves its link's record (R106). -/
theorem quietCheck_link_of_taken (acc : State × List ResultRecord) {outcome : TestOutcome} {a : Int}
    (h : acc.1.takesQuietCheck o.generation id cls p.slot raw wireOff outcome a) :
    (quietCheck o p acc).1.link id
      = (acc.1.link id).checked outcome a o.testLink o.source acc.1.timer.sweepNumber
          acc.1.timer.sweepTime := by
  obtain ⟨defined, generation, withdrawn, judged⟩ := h
  have kept := (acc.1.redefined_eq_false id o.generation).mpr ⟨defined, generation⟩
  rw [hp]
  simp only [quietCheck, kept, withdrawn, judged, Bool.or_self, Bool.false_eq_true, if_false]
  split <;> exact State.link_setLink_same _ _ _ (State.lt_of_linkDefined defined)

theorem quietCheck_of_not_taken (acc : State × List ResultRecord)
    (h : ¬ ∃ outcome a, acc.1.takesQuietCheck o.generation id cls p.slot raw wireOff outcome a) :
    quietCheck o p acc = acc := by
  rw [hp]
  simp only [quietCheck]
  split
  · rfl
  · next kept =>
    rw [Bool.or_eq_true, not_or, Bool.not_eq_true, Bool.not_eq_true,
      State.redefined_eq_false] at kept
    split
    · rfl
    · next outcome a judged => exact absurd ⟨outcome, a, kept.1.1, kept.1.2, kept.2, judged⟩ h

end

/-- The closure outcome that lets the quiet checks be taken (R106). -/
def OpenStep.checksQuiet (o : OpenStep) (f : Finding) : Prop :=
  o.form = .driven ∧ f.outcome ≠ .voidTalker

theorem quietChecks_of_checks {o : OpenStep} {f : Finding} (s : State) (h : o.checksQuiet f) :
    quietChecks o f s = o.participants.foldl (fun acc p => quietCheck o p acc) (s, []) := by
  unfold quietChecks
  rw [h.1]
  exact if_neg h.2

theorem quietChecks_of_no_checks {o : OpenStep} {f : Finding} (s : State) (h : ¬ o.checksQuiet f) :
    quietChecks o f s = (s, []) := by
  unfold quietChecks
  cases hf : o.form with
  | contended => rfl
  | driven => exact if_pos (Classical.not_not.mp fun talker => h ⟨hf, talker⟩)

/-- A link that no check names is left as the judgement of the test link leaves it. -/
theorem quietChecks_link_other {o : OpenStep} {f : Finding} (s : State) {id : Nat}
    (h : ¬ (o.checksQuiet f ∧ ∃ p ∈ o.participants, p.isQuietOn id)) :
    (quietChecks o f s).1.link id = s.link id := by
  by_cases checks : o.checksQuiet f
  · rw [quietChecks_of_checks s checks]
    exact foldl_quietCheck_link_other o _ (fun p hp quiet => h ⟨checks, p, hp, quiet⟩) _
  · rw [quietChecks_of_no_checks s checks]

/-- The link of a quiet listener that is named once is moved by that listener's check alone. -/
theorem foldl_quietCheck_link_once (o : OpenStep) {ps : List Participant} {p : Participant} {id : Nat}
    (hp : p ∈ ps) (nodup : (ps.map Participant.slot).Nodup)
    (once : ∀ q ∈ ps, q.isQuietOn id → q = p) (acc : State × List ResultRecord) :
    ∃ b : State × List ResultRecord,
      (ps.foldl (fun acc p => quietCheck o p acc) acc).1.link id = (quietCheck o p b).1.link id
      ∧ b.1.link id = acc.1.link id ∧ b.1.timer = acc.1.timer ∧ b.1.registry = acc.1.registry
      ∧ b.1.plans = acc.1.plans := by
  obtain ⟨before, after, rfl⟩ := List.append_of_mem hp
  have fresh : p ∉ before ∧ p ∉ after := by
    have slots : (before ++ p :: after).Nodup :=
      List.Pairwise.of_map Participant.slot (fun _ _ differ same => differ (by rw [same])) nodup
    rw [List.nodup_append, List.nodup_cons] at slots
    exact ⟨fun h => slots.2.2 p h p (List.mem_cons_self ..) rfl, slots.2.1.1⟩
  have others : ∀ q, q ∈ before ∨ q ∈ after → ¬ q.isQuietOn id := by
    intro q hq quiet
    have same := once q (List.mem_append.mpr (hq.imp_right (List.mem_cons_of_mem p))) quiet
    subst same
    exact hq.elim fresh.1 fresh.2
  refine ⟨before.foldl (fun acc p => quietCheck o p acc) acc, ?_, ?_, foldl_quietCheck_frame o _ acc⟩
  · rw [List.foldl_append, List.foldl_cons]
    exact foldl_quietCheck_link_other o after (fun q hq => others q (Or.inr hq)) _
  · exact foldl_quietCheck_link_other o before (fun q hq => others q (Or.inl hq)) _

theorem judgeClosed_links (t : Tag) (o : OpenStep) (s : State) :
    (judgeClosed t o s).links
      = (quietChecks o (s.closureFinding o) (judgeLink o (s.closureFinding o) s)).1.links := by
  unfold judgeClosed
  cases o.source <;> simp

/-- The judgement of a closed step moves the links as R103 and R106 say. -/
theorem judgeClosed_movesLinks (k : Tag) (o : OpenStep) {s t : State}
    (ht : t.links = (judgeClosed k o s).links) : s.closureMovesLinks t o (s.closureFinding o) := by
  have link := State.link_of_links (ht.trans (judgeClosed_links k o s))
  have reason : (s.closureFinding o).outcome ≠ .voidRedefined → s.linkDefined o.testLink = true := by
    intro h
    cases hr : s.redefined o.testLink o.generation with
    | true => exact absurd (by rw [State.closureFinding_of_redefined hr]) h
    | false => exact ((s.redefined_eq_false _ _).mp hr).1
  generalize s.closureFinding o = f at link reason
  refine ⟨fun id unchecked other => ?_, fun unchecked kept => ?_, fun unchecked moved attached => ?_,
    fun checks nodup p hp id cls raw errors wireOff shape other once => ?_⟩
  · rw [link, quietChecks_link_other _ unchecked, judgeLink_link_other o f s other]
  · rw [link, quietChecks_link_other _ unchecked, judgeLink_of_kept s kept]
  · rw [link, quietChecks_link_other _ unchecked, judgeLink_link_test s (reason moved) moved attached]
  · obtain ⟨-, -, -, timer, -, registry, -, -, plans, -⟩ := judgeLink_frame o f s
    have checked : t.link id
        = (o.participants.foldl (fun acc p => quietCheck o p acc) (judgeLink o f s, [])).1.link id := by
      rw [link, quietChecks_of_checks _ checks]
    obtain ⟨b, own, link', timer', registry', plans'⟩ :=
      foldl_quietCheck_link_once o hp nodup (fun q hq quiet => once q hq quiet.1 quiet.2)
        (judgeLink o f s, [])
    have blink : b.1.link id = s.link id := link'.trans (judgeLink_link_other o f s other)
    have btimer : b.1.timer = s.timer := timer'.trans timer
    have taken := State.takesQuietCheck_congr (n := p.slot) (plans'.trans plans) blink
      (fun r => by rw [State.probe_of_registry (registry'.trans registry)]) o.generation cls raw wireOff
    rw [checked, own]
    refine ⟨fun outcome a h => ?_, fun h => ?_⟩
    · rw [quietCheck_link_of_taken shape b ((taken outcome a).mpr h), blink, btimer]
    · simp only [← taken] at h
      rw [quietCheck_of_not_taken shape b h, blink]

/-! ## The Spot Queue behind the judgement (R116, R121) -/

/-- What the closure of its spot test makes of a request (R121). -/
theorem SpotRequest.counted_eq (r : SpotRequest) (g : OutcomeGroup) (withdrawn : Bool) :
    r.counted g (!withdrawn) = if withdrawn = true then { r with inFlight := none }
      else { r with
        inFlight := none
        repeats := r.repeats - 1
        tallies :=
          ⟨r.tallies.inRange + (if g = .pass then 1 else 0),
            r.tallies.margin + (if g = .margin then 1 else 0),
            r.tallies.fail + (if g = .fail ∨ g = .openGroup then 1 else 0),
            r.tallies.void + (if g = .void then 1 else 0)⟩ } := by
  cases withdrawn with
  | true => rfl
  | false => cases g <;> rfl

/-- A request with an end pending, or with no repeat left, leaves the queue and raises SPOT (R121, R122). -/
theorem spotClosure_of_leaves {t : Tag} {s : State} {r : SpotRequest} (g : OutcomeGroup) (counts : Bool)
    (h : s.spot.find? (fun q => q.inFlight == some t) = some r)
    (leaves : r.endPending ≠ none ∨ (r.counted g counts).repeats = 0) :
    (spotClosure t g counts s).spot = s.spot.filter (fun q => q.link != r.link)
      ∧ (spotClosure t g counts s).port.isSet .spot = true := by
  unfold spotClosure
  rw [h]
  dsimp only
  cases he : r.endPending with
  | some e => exact ⟨by simp [withoutLink], raise_isSet .spot _⟩
  | none =>
    have noRepeat := leaves.resolve_left (Classical.not_not.mpr he)
    rw [if_pos noRepeat]
    exact ⟨by simp [withoutLink], raise_isSet .spot _⟩

theorem spotClosure_of_stays {t : Tag} {s : State} {r : SpotRequest} {g : OutcomeGroup} {counts : Bool}
    (h : s.spot.find? (fun q => q.inFlight == some t) = some r) (he : r.endPending = none)
    (stays : (r.counted g counts).repeats ≠ 0) :
    (spotClosure t g counts s).spot
      = s.spot.map (fun q => if q.link = r.link then r.counted g counts else q) := by
  unfold spotClosure
  rw [h]
  simp only [he, if_neg stays, State.withSpot_spot]

/-- The judgement leaves the Spot Queue alone but for the closure of a spot test. -/
theorem judgeClosed_spot (t : Tag) (o : OpenStep) (s : State) :
    ((∃ i, o.source = .step i) → (judgeClosed t o s).spot = s.spot)
      ∧ (o.source = .spot → ∃ x, x.spot = s.spot
        ∧ judgeClosed t o s
            = spotClosure t (s.closureFinding o).outcome.group (!o.withdrawn) x) := by
  unfold judgeClosed
  constructor
  · rintro ⟨i, hi⟩
    simp [hi]
  · intro hs
    simp only [hs]
    exact ⟨_, by simp, rfl⟩

theorem judgeClosed_movesSpot (k : Tag) (o : OpenStep) {s t : State}
    (spot : t.spot = (judgeClosed k o s).spot) (port : t.port = (judgeClosed k o s).port) :
    s.closureMovesSpot t k o (s.closureFinding o) := by
  obtain ⟨scheduled, spotTest⟩ := judgeClosed_spot k o s
  refine ⟨fun h => spot.trans (scheduled h), fun r after source found count => ?_⟩
  obtain ⟨x, same, closed⟩ := spotTest source
  rw [← SpotRequest.counted_eq] at count
  rw [← same] at found
  rw [spot, port, closed, count, ← same]
  exact ⟨spotClosure_of_leaves _ _ found, spotClosure_of_stays found⟩

/-! ## The judgement read in the state before the report -/

namespace State.JudgesAs

variable {k : Fin 8} {s x : State} (h : s.JudgesAs k x)
include h

theorem active : x.active = s.active := by rw [State.active, h.plans]; rfl

theorem link : x.link = s.link := funext (State.link_of_links h.links)

theorem closureFinding (o : OpenStep) : x.closureFinding o = s.closureFinding o := by
  have expectFinding : x.expectFinding = s.expectFinding := by
    funext expected p
    unfold State.expectFinding
    simp only [h.active, judgeReading_congr _ (h.coeff p.slot)]
  have redefined : x.redefined = s.redefined := by
    funext id generation
    rw [State.redefined, State.linkDefined, h.active, h.link]; rfl
  unfold State.closureFinding State.judgeDriven
  rw [redefined, h.active, expectFinding]

theorem closureMovesLinks {t : State} {o : OpenStep} {f : Finding} (m : x.closureMovesLinks t o f) :
    s.closureMovesLinks t o f := by
  have taken := fun id n => State.takesQuietCheck_congr (id := id) h.plans
    (congrFun h.link id) (h.coeff n)
  unfold State.closureMovesLinks at m ⊢
  simpa only [h.link, h.active, h.sweepNumber, h.sweepTime, taken] using m

theorem closureMovesSpot {t : State} {tag : Tag} {o : OpenStep} {f : Finding}
    (m : x.closureMovesSpot t tag o f) : s.closureMovesSpot t tag o f := by
  unfold State.closureMovesSpot at m ⊢
  simpa only [h.spot] using m

end State.JudgesAs

/-! ## A report that closes its step (R60, R61, R81) -/

/-- A report whose fields check, from a probe that is IN_STEP, reaches the registry (R46, R60). -/
theorem exec_of_reportOf {c : Instr} {port : Port} {k : Tag} {r : Report} {s : State}
    (h : reportOf c = some (port, k, r)) (hl : s.port.resetLow = false)
    (hs : (s.probe (slotOf port)).state = .inStep) :
    exec c s = .next (takeReport (slotOf port) k r (hearProbe (slotOf port) s)) := by
  have taken : ∀ (checks : Bool) (p : Port) (tag : Byte) (r' : Report),
      (if checks = true then (Tag.ofByte tag).map fun t => (p, t, r') else none) = some (port, k, r) →
      receive (slotOf p) checks ProbeState.reports (takeTagged (slotOf p) tag r') s
        = takeReport (slotOf port) k r (hearProbe (slotOf port) s) := by
    intro checks p tag r' hr
    obtain ⟨rfl, hr⟩ := Option.ite_none_right_eq_some.mp hr
    obtain ⟨t, ht, same⟩ := Option.map_eq_some_iff.mp hr
    cases same
    rw [receive_admitted _ _ _ hl (by rw [hs]; rfl)]
    simp only [takeTagged, ht]
  unfold reportOf at h
  split at h
  · exact congrArg _ (taken _ _ _ _ h)
  · exact congrArg _ (taken _ _ _ _ h)
  · exact congrArg _ (taken _ _ _ _ h)
  · cases h

/-- A report is accepted from an IN_STEP probe, with the present turn of its table slot (R60). -/
theorem State.acceptor_eq_some {s : State} {n : Nat} {k : Tag} {r : Report} {o : OpenStep}
    (h : s.acceptor n k r = some o) : (s.probe n).state = .inStep ∧ s.turn k.slot = k.turn := by
  unfold State.acceptor at h
  simp only [Option.ite_none_right_eq_some, Bool.and_eq_true, beq_iff_eq] at h
  exact h.1.1

section
variable {c : Instr} {port : Port} {k : Tag} {r : Report} {o : OpenStep} {s : State}
  (hc : reportOf c = some (port, k, r)) (hl : s.port.resetLow = false)
  (hr : s.timer.run = .running) (hm : s.engine.merged = none) (hf : s.engine.free = none)
  (ha : s.acceptor (slotOf port) k r = some o)
  (done : (o.receive (slotOf port) r).complete = true)
include hc hl hr hm hf ha done

/-- The state to which a report that completes its step brings the closure is as the one before it for the
judgement, and its timer is the same. -/
theorem exec_closing_report : ∃ x, s.JudgesAs k.slot x ∧ x.timer = s.timer
    ∧ exec c s = .next (closeStep k.slot (o.receive (slotOf port) r) x) := by
  have accepts : (hearProbe (slotOf port) s).acceptor (slotOf port) k r = some o := ha
  have stored : s.JudgesAs k.slot (((hearProbe (slotOf port) s).setOpen k.slot
      (some (o.receive (slotOf port) r))).mapProbe (slotOf port) fun e => { e with missCount := 0 }) :=
    (((State.JudgesAs.refl k.slot hm hf hr).hearProbe _).setOpen _).mapProbe _ _
      fun e q => by cases q <;> rfl
  refine ⟨_, stored.endAssignment k (slotOf port), by simp, ?_⟩
  rw [exec_of_reportOf hc hl (State.acceptor_eq_some ha).1]
  simp only [takeReport, accepts, acceptReport, done, if_true]

/-- What a report that completes its step does (R81, R83): the links and the Spot Queue move by the closure
outcome, its table slot alone is emptied, and the run goes on when no participant is MISSING. -/
theorem exec_closing_report_outcome : ∃ t f, exec c s = .next t
    ∧ f = s.closureFinding (o.receive (slotOf port) r)
    ∧ s.closureMovesLinks t (o.receive (slotOf port) r) f
    ∧ s.closureMovesSpot t k (o.receive (slotOf port) r) f
    ∧ t.openAt k.slot = none ∧ (∀ j, j ≠ k.slot → t.openAt j = s.openAt j)
    ∧ (∀ j, t.turn j = s.turn j) ∧ t.plans = s.plans ∧ t.store = s.store
    ∧ ((∀ p ∈ (o.receive (slotOf port) r).participants, p.state ≠ .missing) →
      t.timer.run = .running) := by
  obtain ⟨x, asBefore, timer, next⟩ := exec_closing_report hc hl hr hm hf ha done
  obtain ⟨links, spot, port_eq, empty, others, turns, plans, store, run⟩ :=
    closeStep_of_judgesAs asBefore done
  have judges := asBefore.atJudgement ⟨k.slot, s.turn k.slot⟩ (o.receive (slotOf port) r)
  have tag : (⟨k.slot, s.turn k.slot⟩ : Tag) = k := by rw [(State.acceptor_eq_some ha).2]
  rw [tag] at links spot port_eq run judges
  have finding := judges.closureFinding (o.receive (slotOf port) r)
  refine ⟨_, _, next, rfl, ?_, ?_, empty, others, turns, plans, store, fun noneMissing => run ?_⟩
  · rw [← finding]; exact judges.closureMovesLinks (judgeClosed_movesLinks k _ links)
  · rw [← finding]; exact judges.closureMovesSpot (judgeClosed_movesSpot k _ spot port_eq)
  · rw [atJudgement_timer x done noneMissing, timer, hr]

end

/-! ## The reading of a LEVEL class (R98) -/

/-- The reading of one EXPECT listener under a LEVEL class is judged by the band of its corrected value. -/
theorem State.closureFinding_of_level {s : State} {o : OpenStep} {n i : Nat} {raw errors : Half}
    (hp : o.participants = [⟨n, .expect, some i, none, none, .received, some (.reading raw errors false)⟩])
    (hf : o.form = .driven) (hd : s.linkDefined o.testLink = true)
    (hg : (s.link o.testLink).definedIn ≤ o.generation) (hc : (s.active.cls i).defined = true)
    (hl : (s.active.cls i).measure = .level) :
    s.closureFinding o = ⟨levelOutcome (s.active.cls i).lowLimit (s.active.cls i).highLimit
      (s.active.cls i).margin.toNat ((s.active.cls i).corrected (s.probe n) raw),
      some ((s.active.cls i).corrected (s.probe n) raw), none⟩ := by
  have noTalker : talkerFailed o.participants = false := by simp [talkerFailed, hp]
  have single : o.participants.filterMap (s.expectFinding (s.active.link o.testLink).expected)
      = [⟨levelOutcome (s.active.cls i).lowLimit (s.active.cls i).highLimit
          (s.active.cls i).margin.toNat ((s.active.cls i).corrected (s.probe n) raw),
        some ((s.active.cls i).corrected (s.probe n) raw), none⟩] := by
    simp [hp, State.expectFinding, judgeReading, hc, hl]
  obtain ⟨before, f, after, split, judged, -⟩ :=
    State.judgeDriven_of_findings noTalker single.symm (List.cons_ne_nil _ _)
  rw [State.closureFinding_of_driven ((s.redefined_eq_false _ _).mpr ⟨hd, hg⟩) hf, judged]
  cases before with
  | nil => exact (List.cons.inj split).1.symm
  | cons b before => simp at split

/-- The report of the one listener that a step awaits is the step's last. -/
theorem OpenStep.receive_single {o : OpenStep} {n i : Nat} {raw errors : Half}
    (hp : o.participants = [⟨n, .expect, some i, none, none, .awaited, none⟩]) :
    (o.receive n (.reading raw errors false)).participants
      = [⟨n, .expect, some i, none, none, .received, some (.reading raw errors false)⟩] := by
  simp [OpenStep.receive, hp, Participant.awaits, Role.reports]

theorem reportOf_reading {tag : Byte} {k : Tag} (port : Port) (raw errors : Half)
    (h : Tag.ofByte tag = some k) :
    reportOf (.readingReport port tag raw errors 0) = some (port, k, .reading raw errors false) := by
  have clear : tag.msb = false := by
    cases hb : tag.msb with
    | false => rfl
    | true => simp [Tag.ofByte, hb] at h
  simp [reportOf, readingChecks, tagChecks, clear, h]

/-- Settles O47: a report that completes its step moves the links and the Spot Queue by the closure outcome, whose
value is then read off the participants; a LEVEL reading is the case of one listener. -/
theorem levelReadingJudgesItsLink : Obligations.LevelReadingJudgesItsLink := by
  unfold Obligations.LevelReadingJudgesItsLink
  refine ⟨?level, ?closes, fun s o => ⟨?redefined, fun hd hg => ?kept⟩,
    fun ps hcode hc => ⟨winnerCode_contends hcode hc, fun p hp code => winnerCode_le ps p code hp⟩,
    ?contest, ?reading⟩
  case level =>
    intro port tag raw errors k i o s hl ht hr hm hf ha hp hform hw hd hg hc hlevel
    have single := OpenStep.receive_single (raw := raw) (errors := errors) hp
    have done : (o.receive (slotOf port) (.reading raw errors false)).complete = true := by
      simp [OpenStep.complete, single]
    obtain ⟨t, f, next, finding, links, -, -, -, -, plans, store, run⟩ :=
      exec_closing_report_outcome (reportOf_reading port raw errors ht) hl hr hm hf ha done
    obtain ⟨others, -, judged, -⟩ := links
    have level := State.closureFinding_of_level (s := s) single hform hd hg hc hlevel
    have unchecked : ∀ id, ¬ ∃ p ∈ (o.receive (slotOf port) (.reading raw errors false)).participants,
        p.role = .quiet ∧ p.quietLink = some id := by simp [single]
    rw [level] at finding
    subst finding
    refine ⟨t, _, next, rfl, judged (fun h => unchecked _ h.2) ?_ hw,
      fun id hid => others id (fun h => unchecked _ h.2) hid, run (by simp [single]), plans, store⟩
    intro void
    have group := levelOutcome_group (s.active.cls i).lowLimit (s.active.cls i).highLimit
      (s.active.cls i).margin.toNat ((s.active.cls i).corrected (s.probe (slotOf port)) raw)
    rw [show levelOutcome _ _ _ _ = .voidRedefined from void] at group
    exact absurd group (by decide)
  case closes =>
    intro c port k r o s hc hl hr hm hf ha done
    obtain ⟨t, f, next, finding, links, spot, empty, others, turns, plans, store, -⟩ :=
      exec_closing_report_outcome hc hl hr hm hf ha done
    exact ⟨t, f, next, finding, links, spot, empty, others, turns, plans, store⟩
  case redefined =>
    intro h
    exact State.closureFinding_of_redefined ((s.redefined_iff _ _).mpr h)
  case kept =>
    have notRedefined := (s.redefined_eq_false _ _).mpr ⟨hd, hg⟩
    refine ⟨fun driven => ?_, fun contended => ?_⟩
    · rw [State.closureFinding_of_driven notRedefined driven]
      refine ⟨fun h => State.judgeDriven_of_talker ((talkerFailed_iff _).mpr h), fun h fs hfs => ?_⟩
      have drives := (talkerFailed_eq_false _).mpr h
      refine ⟨fun none => ?_, State.judgeDriven_of_findings drives hfs⟩
      rw [State.judgeDriven_of_drive drives, ← hfs, none]; rfl
    · rw [State.closureFinding_of_contended notRedefined contended]
      refine ⟨judgeContended_of_missing, fun heard => ⟨fun before p after split off earlier => ?_, ?_⟩⟩
      · exact judgeContended_of_open heard (find?_of_first split off earlier)
      · rintro wired w rfl
        have noWireOff := find?_of_absent wired
        exact ⟨fun before p after split off earlier =>
            judgeContended_of_contention heard noWireOff (find?_of_first split off earlier),
          fun agree => judgeContended_of_agreement heard noWireOff (find?_of_absent agree)⟩
  case contest =>
    rintro w code slot role cls quietLink state lost wireOff position p rfl
    refine ⟨rfl, fun won => if_pos won, fun first other low differs above => ?_⟩
    rw [← lossPosition_eq code w first low differs above]
    exact if_neg other
  case reading =>
    rintro w slot role cls quietLink code state raw errors wireOff p rfl
    exact ⟨rfl, rfl⟩

end Sys2Proof.Machine

/-! The requests on a link, and PROBE READ (R65, R84, R89, R91 to R93, R125): what each answers, the bytes that the
reads hand out, and what LINK CLEAR, LINK WITHDRAW and LINK RESTORE do to the link, the open steps and the Spot
Queue. -/

namespace Sys2Proof.Machine

/-! ## Requests on a link (R89, R178) -/

section
variable {command : Byte} {link : Half} {effect : Nat → State → Reply} {s : State}

/-- A request on a defined link has its effect on that link. -/
theorem takeRequest_onLink_of_defined (h : s.serves = true) (hd : s.linkDefined link.toNat = true) :
    takeRequest command (halfBytes link) (requestCrc command (halfBytes link)) (onLink link effect) s
      = (effect link.toNat s).finish := by
  rw [takeRequest_serves _ _ _ h, onLink, if_pos hd]

/-- An undefined id is refused with RANGE. -/
theorem takeRequest_onLink_of_undefined (h : s.serves = true)
    (hd : s.linkDefined link.toNat = false) :
    takeRequest command (halfBytes link) (requestCrc command (halfBytes link)) (onLink link effect) s
      = s.answered ⟨.range, []⟩ := by
  rw [takeRequest_serves _ _ _ h, onLink, if_neg (by simp [hd]), refuse_finish]

end

theorem exec_linkRead (link : Half) (crc : Byte) (s : State) :
    exec (.linkRead link crc) s = .next (takeRequest 0x30 (halfBytes link) crc
      (onLink link fun id s => readOut (s.linkBytes id) s) s) := by
  rfl

theorem exec_linkClear (link : Half) (crc : Byte) (s : State) :
    exec (.linkClear link crc) s = .next (takeRequest 0x31 (halfBytes link) crc
      (onLink link fun id s => reply .done (clearLink id s)) s) := by
  rfl

theorem exec_linkWithdraw (link : Half) (crc : Byte) (s : State) :
    exec (.linkWithdraw link crc) s = .next (takeRequest 0x32 (halfBytes link) crc
      (onLink link fun id s => reply .done (withdrawLink id s)) s) := by
  rfl

theorem exec_linkRestore (link : Half) (crc : Byte) (s : State) :
    exec (.linkRestore link crc) s = .next (takeRequest 0x33 (halfBytes link) crc
      (onLink link fun id s => reply .done (setWithdrawn id false s)) s) := by
  rfl

/-! ## The answer bytes of LINK READ and PROBE READ (R187) -/

@[simp] theorem halfBytes_length (h : Half) : (halfBytes h).length = 2 := (rfl)
@[simp] theorem wordBytes_length (w : Word) : (wordBytes w).length = 4 := (rfl)
@[simp] theorem natHalf_length (n : Nat) : (natHalf n).length = 2 := (rfl)
@[simp] theorem natWord_length (n : Nat) : (natWord n).length = 4 := (rfl)
@[simp] theorem natThree_length (n : Nat) : (natThree n).length = 3 := (rfl)
@[simp] theorem valueBytes_length (v : Option Int) : (valueBytes v).length = 4 := (rfl)

@[simp] theorem Source.encode_length (x : Source) : x.encode.length = 2 := by cases x <;> rfl

@[simp] theorem FirstFailure.encode_length (f : Option FirstFailure) :
    (FirstFailure.encode f).length = 15 := by
  cases f <;> simp [FirstFailure.encode]

@[simp] theorem LastObservation.encode_length (o : Option LastObservation) :
    (LastObservation.encode o).length = 10 := by
  cases o <;> simp [LastObservation.encode]

@[simp] theorem partnerBytes_length (p : Option Nat) : (partnerBytes p).length = 2 := by
  cases p <;> rfl

@[simp] theorem LinkDef.encode_length (d : LinkDef) : d.encode.length = 27 := by
  simp [LinkDef.encode]

@[simp] theorem LinkRecord.encode_length (r : LinkRecord) : r.encode.length = 55 := by
  simp [LinkRecord.encode]

@[simp] theorem State.activeBytes_link_length (s : State) (id : Nat) :
    (s.activeBytes (.link id)).length = 31 := by
  simp [State.activeBytes, Plan.read]

theorem State.linkBytes_length (s : State) (id : Nat) : (s.linkBytes id).length = 87 := by
  simp [State.linkBytes]

@[simp] theorem Assignment.encode_length (a : Option Assignment) :
    (Assignment.encode a).length = 2 := by
  cases a <;> rfl

@[simp] theorem markBytes_length (w : Option Word) : (markBytes w).length = 5 := by
  cases w <;> rfl

@[simp] theorem Coeff.encode_length (c : Coeff) (st : CalState) : (c.encode st).length = 5 := (rfl)

@[simp] theorem CaptureResult.candidateBytes_length (x : Selection) (r : Option CaptureResult) :
    (CaptureResult.candidateBytes x r).length = 3 := by
  unfold CaptureResult.candidateBytes; split <;> rfl

@[simp] theorem Session.captureBytes_length (x : Session) (n : Nat) :
    (x.captureBytes n).length = 4 := by
  unfold Session.captureBytes; split <;> simp

theorem State.probeBytes_length (s : State) (n : Nat) : (s.probeBytes n).length = 37 := by
  simp [State.probeBytes]

/-- The byte that follows a list of bytes stands at the list's length. -/
theorem byteAt_append_cons {front rest : List Byte} {b : Byte} {i : Nat} (h : front.length = i) :
    byteAt (front ++ b :: rest) i = b := by
  subst h; simp [byteAt]

/-- The live state of a link opens with its verdict and stands behind 31 bytes of its definition. -/
theorem State.linkBytes_verdict (s : State) (id : Nat) :
    byteAt (s.linkBytes id) 31 = (s.link id).verdict.toByte := by
  rw [State.linkBytes, List.append_assoc]
  exact byteAt_append_cons (s.activeBytes_link_length id)

theorem State.linkBytes_blocked (s : State) (id : Nat) :
    byteAt (s.linkBytes id) 86 = boolByte (s.blocked id) :=
  byteAt_append_cons (by simp)

theorem State.probeBytes_state (s : State) (n : Nat) :
    byteAt (s.probeBytes n) 0 = (s.probe n).state.toByte := (rfl)

theorem exec_probeRead (slot crc : Byte) (s : State) :
    exec (.probeRead slot crc) s = .next (takeRequest 0x34 [slot] crc (probeRead slot) s) := by
  rfl

theorem probeRead_of_slot {slot : Byte} (s : State) (h : 1 ≤ slot.toNat) (h' : slot.toNat ≤ 18) :
    probeRead slot s = readOut (s.probeBytes slot.toNat) s := by
  simp [probeRead, isSlot, h, h']

theorem probeRead_of_no_slot {slot : Byte} (s : State) (h : slot.toNat = 0 ∨ 18 < slot.toNat) :
    probeRead slot s = refuse .range s := by
  have outside : isSlot slot.toNat = false := by simp [isSlot]; omega
  simp [probeRead, outside]

/-- Settles O8: the two reads hand out the encoded state, whose lengths and places follow from those of its
parts. -/
theorem linkAndProbeReadsReturnTheState : Obligations.LinkAndProbeReadsReturnTheState := by
  unfold Obligations.LinkAndProbeReadsReturnTheState
  refine ⟨fun link s hs => ⟨fun hd => ⟨?linkRead, s.linkBytes_length _, s.linkBytes_verdict _,
    s.linkBytes_blocked _⟩, fun hd => ?linkRange⟩,
    fun slot s hs => ⟨fun h h' => ⟨?probeRead, s.probeBytes_length _, s.probeBytes_state _⟩,
      fun h => ?probeRange⟩⟩
  case linkRead => rw [exec_linkRead, takeRequest_onLink_of_defined hs hd, readOut_finish]
  case linkRange => rw [exec_linkRead, takeRequest_onLink_of_undefined hs hd]
  case probeRead =>
    rw [exec_probeRead, takeRequest_serves _ _ _ hs, probeRead_of_slot s h h', readOut_finish]
  case probeRange =>
    rw [exec_probeRead, takeRequest_serves _ _ _ hs, probeRead_of_no_slot s h, refuse_finish]

/-! ## LINK CLEAR (R93, R115) -/

theorem freshen_of_untested {id : Nat} {s : State} (r : LinkRecord)
    (h : (s.link id).verdict = .untested) : freshen id r s = s.setLink id r := by
  simp [freshen, h]

/-- A verdict that changes is handed to the router as it stood before the change (R115). -/
theorem freshen_of_tested {id : Nat} {s : State} (r : LinkRecord)
    (h : (s.link id).verdict ≠ .untested) :
    (freshen id r s).router
        = (hand (bareVerdictRecord s id (s.link id).verdict .untested) s).router
      ∧ (freshen id r s).port
        = (hand (bareVerdictRecord s id (s.link id).verdict .untested) s).port := by
  have handed : freshen id r s
      = hand (bareVerdictRecord s id (s.link id).verdict .untested) (s.setLink id r) := if_neg h
  rw [handed]
  exact ⟨hand_router_congr _ rfl rfl, hand_port_congr _ rfl rfl rfl⟩

/-- Settles O26: the record is `clearLink_link`'s, and the router and the port are those of the VERDICT record
handed before the change. -/
theorem linkClearRestoresStartingValues : Obligations.LinkClearRestoresStartingValues := by
  unfold Obligations.LinkClearRestoresStartingValues
  refine fun link s hs => ⟨fun hd => ?defined, fun hd => ?undefined⟩
  case undefined => rw [exec_linkClear, takeRequest_onLink_of_undefined hs hd]
  case defined =>
    have cleared := fun id => clearLink_link link.toNat id s (State.lt_of_linkDefined hd)
    refine ⟨(clearLink link.toNat s).answered ⟨.done, []⟩, ?_, ?record, ?others, fun same => ?kept,
      fun changed => ?handed, by simp⟩
    · rw [exec_linkClear, takeRequest_onLink_of_defined hs hd, reply_finish]
    case record => rw [State.answered_link, cleared, if_pos rfl]
    case others =>
      intro id other
      rw [State.answered_link, cleared, if_neg other.symm]
    case kept =>
      rw [clearLink, freshen_of_untested _ same]
      exact ⟨rfl, rfl⟩
    case handed =>
      obtain ⟨router, port⟩ := freshen_of_tested
        { LinkRecord.fresh (s.link link.toNat).definedIn with
          withdrawn := (s.link link.toNat).withdrawn } changed
      exact ⟨_, rfl, router, congrArg (fun p => { p with answer := some ⟨.done, []⟩ }) port⟩

/-! ## LINK WITHDRAW and LINK RESTORE (R84, R92, R125) -/

theorem withdrawOpen_openAt (id : Nat) (s : State) (k : Fin 8) :
    (withdrawOpen id s).openAt k = (s.openAt k).map (OpenStep.withdraw id) := by
  simp [withdrawOpen, State.openAt, Tab.get]

theorem withdrawOpen_turn (id : Nat) (s : State) (k : Fin 8) :
    (withdrawOpen id s).turn k = s.turn k := (rfl)

theorem setWithdrawn_link {id : Nat} (s : State) (b : Bool) (h : id < 512) (i : Nat) :
    (setWithdrawn id b s).link i
      = if i = id then { s.link id with withdrawn := b } else s.link i := by
  rw [setWithdrawn, State.link_setLink]
  by_cases same : i = id
  · subst same; simp [h]
  · simp [same, Ne.symm same]

/-- A link without a request leaves the Spot Queue alone. -/
theorem withdrawSpot_of_none {id : Nat} {s : State} (h : s.spotFor id = none) :
    withdrawSpot id s = s := by
  simp [withdrawSpot, h]

/-- A waiting request leaves the queue and raises SPOT (R122, R125). -/
theorem withdrawSpot_of_waiting {id : Nat} {s : State} {r : SpotRequest}
    (h : s.spotFor id = some r) (waits : r.inFlight = none) :
    (withdrawSpot id s).spot = s.spot.filter (fun q => q.link != id)
      ∧ (withdrawSpot id s).port.isSet .spot = true := by
  have leaves : withdrawSpot id s
      = spotDone r .withdrawn false (s.withSpot (withoutLink id s.spot)) := by
    simp [withdrawSpot, h, waits]
  rw [leaves]
  exact ⟨by simp [withoutLink], raise_isSet .spot _⟩

/-- A request in flight stays and takes its end pending (R125). -/
theorem withdrawSpot_of_inFlight {id : Nat} {s : State} {r : SpotRequest}
    (h : s.spotFor id = some r) (flies : r.inFlight ≠ none) :
    withdrawSpot id s = s.withSpot (markEnd id .withdrawn s.spot) := by
  simp [withdrawSpot, h, Option.isSome_iff_ne_none.mpr flies]

theorem withdrawLink_of_withdrawn {id : Nat} {s : State} (h : (s.link id).withdrawn = true) :
    withdrawLink id s = s := if_pos h

/-- The state in which the withdrawal reaches the Spot Queue: the flag and the open steps are set. -/
theorem withdrawLink_of_not_withdrawn {id : Nat} {s : State} (h : (s.link id).withdrawn = false) :
    withdrawLink id s = withdrawSpot id (withdrawOpen id (setWithdrawn id true s)) := by
  simp [withdrawLink, h]

/-- A withdrawal sets the flag of its link alone (R92). -/
theorem withdrawLink_link {id : Nat} {s : State} (h : (s.link id).withdrawn = false)
    (hid : id < 512) (i : Nat) :
    (withdrawLink id s).link i
      = if i = id then { s.link id with withdrawn := true } else s.link i := by
  rw [withdrawLink_of_not_withdrawn h, State.link_of_links (s := setWithdrawn id true s) (by
    simp [withdrawOpen])]
  exact setWithdrawn_link s true hid i

/-- The engine takes the withdrawal, and the Spot Queue leaves it so (R84). -/
theorem withdrawLink_engine {id : Nat} {s : State} (h : (s.link id).withdrawn = false) :
    (withdrawLink id s).engine = (withdrawOpen id s).engine := by
  rw [withdrawLink_of_not_withdrawn h]
  obtain ⟨-, -, -, -, engine, -⟩ := withdrawSpot_frame id (withdrawOpen id (setWithdrawn id true s))
  exact engine

/-- What a withdrawal does to the Spot Queue, the router and the flags (R125). -/
theorem withdrawLink_spot {id : Nat} {s : State} (h : (s.link id).withdrawn = false) :
    (s.spotFor id = none → (withdrawLink id s).spot = s.spot
        ∧ (withdrawLink id s).router = s.router ∧ (withdrawLink id s).port = s.port)
      ∧ (∀ r, s.spotFor id = some r → r.inFlight = none →
        (withdrawLink id s).spot = s.spot.filter (fun q => q.link != id)
          ∧ (withdrawLink id s).port.isSet .spot = true)
      ∧ (∀ r, s.spotFor id = some r → r.inFlight ≠ none →
        (withdrawLink id s).spot = markEnd id .withdrawn s.spot
          ∧ (withdrawLink id s).router = s.router ∧ (withdrawLink id s).port = s.port) := by
  rw [withdrawLink_of_not_withdrawn h]
  have same : (withdrawOpen id (setWithdrawn id true s)).spotFor id = s.spotFor id := rfl
  rw [← same]
  refine ⟨fun absent => ?_, fun r found waits => withdrawSpot_of_waiting found waits,
    fun r found flies => ?_⟩
  · rw [withdrawSpot_of_none absent]; exact ⟨rfl, rfl, rfl⟩
  · rw [withdrawSpot_of_inFlight found flies]; exact ⟨rfl, rfl, rfl⟩

/-- Settles O27: the flag, the open steps and the Spot Queue each have their own lemma, and a second withdrawal
finds the flag set. -/
theorem linkWithdrawAndRestoreMoveTheFlag : Obligations.LinkWithdrawAndRestoreMoveTheFlag := by
  unfold Obligations.LinkWithdrawAndRestoreMoveTheFlag
  refine fun link s hs => ⟨fun hd hw => ?withdraw, fun hd hw => ?again, fun hd => ?restore,
    fun hd => ⟨?_, ?_⟩⟩
  case withdraw =>
    have hid := State.lt_of_linkDefined hd
    have engine := withdrawLink_engine hw
    obtain ⟨noRequest, waiting, inFlight⟩ := withdrawLink_spot hw
    refine ⟨(withdrawLink link.toNat s).answered ⟨.done, []⟩, ?_, ?flag, ?others, fun k => ?openStep,
      fun k => ?turn, rfl, fun absent => ?_, fun r found waits => ?_,
      fun r found flies => ?_, by simp⟩
    · rw [exec_linkWithdraw, takeRequest_onLink_of_defined hs hd, reply_finish]
    case flag => rw [State.answered_link, withdrawLink_link hw hid, if_pos rfl]
    case others =>
      intro id other
      rw [State.answered_link, withdrawLink_link hw hid, if_neg other]
    case openStep =>
      rw [State.answered_openAt, State.openAt_of_table (congrArg _ engine), withdrawOpen_openAt]
      rfl
    case turn =>
      rw [State.answered_turn, State.turn_of_turns (congrArg _ engine), withdrawOpen_turn]
    · obtain ⟨spot, router, port⟩ := noRequest absent
      exact ⟨spot, router, (congrArg StationPort.flags port :)⟩
    · exact waiting r found waits
    · obtain ⟨spot, router, port⟩ := inFlight r found flies
      exact ⟨spot, router, (congrArg StationPort.flags port :)⟩
  case again =>
    rw [exec_linkWithdraw, takeRequest_onLink_of_defined hs hd, withdrawLink_of_withdrawn hw,
      reply_finish]
  case restore =>
    rw [exec_linkRestore, takeRequest_onLink_of_defined hs hd, reply_finish, setWithdrawn]
  · rw [exec_linkWithdraw, takeRequest_onLink_of_undefined hs hd]
  · rw [exec_linkRestore, takeRequest_onLink_of_undefined hs hd]

end Sys2Proof.Machine

/-! One reading through its class (R96 to R102), the quiet check on its link (R106), and the link record after a
closure (R110 to R113). -/

namespace Sys2Proof.Machine

/-! ## The bands of a reading (R96 to R100) -/

section
variable {low high margin v : Int}

theorem levelOutcome_of_under (h : v < low - margin) : levelOutcome low high margin v = .under :=
  if_pos h

theorem levelOutcome_of_lowMargin (h : low - margin ≤ v) (h' : v < low) :
    levelOutcome low high margin v = .lowMargin := by
  rw [levelOutcome, if_neg (by omega), if_pos h']

theorem levelOutcome_of_highMargin (hm : 0 ≤ margin) (hl : low ≤ high) (h : high < v)
    (h' : v ≤ high + margin) : levelOutcome low high margin v = .highMargin := by
  rw [levelOutcome, if_neg (by omega), if_neg (by omega), if_neg (by omega), if_pos h']

theorem levelOutcome_of_over (hm : 0 ≤ margin) (hl : low ≤ high) (h : high + margin < v) :
    levelOutcome low high margin v = .over := by
  rw [levelOutcome, if_neg (by omega), if_neg (by omega), if_neg (by omega), if_neg (by omega)]

theorem levelOutcome_of_inRange (hm : 0 ≤ margin) (h : low ≤ v) (h' : v ≤ high) :
    levelOutcome low high margin v = .inRange := by
  rw [levelOutcome, if_neg (by omega), if_neg (by omega), if_pos h']

/-- Without a margin the two margin bands are empty (R98). -/
theorem levelOutcome_of_no_margin :
    levelOutcome low high 0 v ≠ .lowMargin ∧ levelOutcome low high 0 v ≠ .highMargin := by
  unfold levelOutcome
  by_cases under : v < low
  · simp [under]
  · by_cases inside : v ≤ high <;> simp [under, inside]

end

theorem clampTo_eq_max_min {bottom top : Int} (h : bottom ≤ top) (v : Int) :
    clampTo bottom top v = max bottom (min top v) := by
  unfold clampTo; (repeat' split) <;> omega

theorem Format.bottom_le_top (f : Format) : f.bottom ≤ f.top := by cases f <;> decide

/-- The corrected value, held in the domain of its format (R96, R97). -/
theorem ClassDef.corrected_eq (c : ClassDef) (e : ProbeEntry) (raw : Half) :
    c.corrected e raw = max c.format.bottom (min c.format.top (Int.tdiv
      ((c.format.value raw - (e.coeff c.range).offset) * (e.coeff c.range).gain) 32768)) :=
  clampTo_eq_max_min c.format.bottom_le_top _

section
variable {c : ClassDef} (e : ProbeEntry) (expected raw errors : Half) (wireOff : Bool)

theorem judgeReading_of_level_wireOff (hd : c.defined = true) (hm : c.measure = .level) :
    judgeReading c e expected raw errors true = some ⟨.openSeen, none, none⟩ := by
  simp [judgeReading, hd, hm]

/-- A LEVEL reading falls in the band of its corrected value (R98). -/
theorem judgeReading_of_level (hd : c.defined = true) (hm : c.measure = .level) :
    judgeReading c e expected raw errors false
      = some ⟨levelOutcome c.lowLimit c.highLimit c.margin.toNat (c.corrected e raw),
          some (c.corrected e raw), none⟩ := by
  simp [judgeReading, hd, hm]

theorem judgeReading_of_errors (hd : c.defined = true) (hm : c.measure = .errors) :
    judgeReading c e expected raw errors wireOff
      = some ⟨if wireOff = true then .openSeen
          else errorsOutcome c.lowLimit c.highLimit errors.toNat, some errors.toNat, none⟩ := by
  simp [judgeReading, hd, hm]

theorem judgeReading_of_code (hd : c.defined = true) (hm : c.measure = .code) :
    judgeReading c e expected raw errors wireOff
      = some ⟨if wireOff = true then .openSeen else codeOutcome c.mask raw expected,
          some raw.toNat, none⟩ := by
  simp [judgeReading, hd, hm]

/-- A class that is undefined, or that listens for silence, judges no EXPECT report (R102). -/
theorem judgeReading_of_unjudged (h : c.defined = false ∨ c.measure = .silence) :
    judgeReading c e expected raw errors wireOff = none := by
  rcases h with undefined | silence
  · simp [judgeReading, undefined]
  · simp [judgeReading, silence]

theorem judgeQuiet_of_silence (hd : c.defined = true) (hm : c.measure = .silence) :
    judgeQuiet c e raw false
      = some (quietOutcome c.lowLimit c.highLimit (c.corrected e raw), c.corrected e raw) := by
  simp [judgeQuiet, hd, hm]

/-- Only a defined SILENCE class judges a quiet report, and not with the wire off (R100, R102). -/
theorem judgeQuiet_of_unjudged (h : c.defined = false ∨ c.measure ≠ .silence ∨ wireOff = true) :
    judgeQuiet c e raw wireOff = none := by
  rcases h with undefined | other | off
  · simp [judgeQuiet, undefined]
  · unfold judgeQuiet
    split
    · rfl
    · cases hm : c.measure with
      | silence => exact absurd hm other
      | level => rfl
      | errors => rfl
      | code => rfl
  · simp [judgeQuiet, off]

end

/-- The limits of an ERRORS class are counts (R95). -/
theorem ClassDef.limit_of_errors {c : ClassDef} (h : c.measure = .errors) (x : Half) :
    c.limit x = (x.toNat : Int) := by
  simp [ClassDef.limit, h]

/-! ## A quiet check on its link (R106) -/

theorem LinkRecord.fillFailure_eq (r : LinkRecord) (f : FirstFailure) :
    r.fillFailure f = { r with firstFailure := some (r.firstFailure.getD f) } := by
  cases h : r.firstFailure with
  | none => simp [LinkRecord.fillFailure, h]
  | some held => rw [LinkRecord.fillFailure, if_neg (by simp [h]), Option.getD_some, ← h]

section
variable (r : LinkRecord) (a : Int) (testLink : Nat) (source : Source) (sweep : Word) (time : Nat)

theorem LinkRecord.checked_of_not_heard {outcome : TestOutcome} (h : outcome ≠ .heard) :
    r.checked outcome a testLink source sweep time
      = { r with quietChecks := satInc 16777215 r.quietChecks } := if_neg h

theorem LinkRecord.checked_of_heard :
    r.checked .heard a testLink source sweep time = { r with
      quietChecks := satInc 16777215 r.quietChecks
      heard := satInc 16777215 r.heard
      firstFailure := some (r.firstFailure.getD ⟨sweep, time, source, .heard, some a, none⟩)
      verdict := if r.verdict.latched = true then r.verdict else .bridged
      partner := if r.verdict.latched = true then r.partner else some testLink } := by
  simp only [LinkRecord.checked, if_true, LinkRecord.fillFailure_eq, linkTop]
  split <;> rfl

end

/-- Settles O56: each measure has its lemma, and the bands, the correction and the quiet check theirs. -/
theorem levelReadingFallsInItsBand : Obligations.LevelReadingFallsInItsBand := by
  unfold Obligations.LevelReadingFallsInItsBand
  refine ⟨?level, ?correction, fun c e expected raw errors wireOff =>
    ⟨judgeReading_of_unjudged e expected raw errors wireOff, fun hd hm => ?errors, fun hd hm => ?code,
      judgeQuiet_of_unjudged e raw wireOff, judgeQuiet_of_silence e raw⟩, ?checked⟩
  case level =>
    rintro c e expected raw errors v low high margin hd hm rfl rfl rfl hmargin hl
    have notNegative : 0 ≤ margin := by omega
    rw [judgeReading_of_level e expected raw errors hd hm, ← hmargin]
    have band : ∀ {outcome : TestOutcome},
        levelOutcome c.lowLimit c.highLimit margin (c.corrected e raw) = outcome →
        some (Finding.mk (levelOutcome c.lowLimit c.highLimit margin (c.corrected e raw))
          (some (c.corrected e raw)) none) = some ⟨outcome, some (c.corrected e raw), none⟩ :=
      fun h => by rw [h]
    refine ⟨⟨_, judgeReading_of_level_wireOff e expected raw errors hd hm, rfl⟩,
      fun h => band (levelOutcome_of_under h), fun h h' => band (levelOutcome_of_lowMargin h h'),
      fun h h' => band (levelOutcome_of_inRange notNegative h h'),
      fun h h' => band (levelOutcome_of_highMargin notNegative hl h h'),
      fun h => band (levelOutcome_of_over notNegative hl h), ?_⟩
    rintro rfl f judged
    rw [← Option.some.inj judged]
    exact levelOutcome_of_no_margin
  case correction =>
    intro c e raw v k bottom top hk hv
    have coefficients : e.coeff c.range = k := by rw [hk]; cases c.range <;> rfl
    rw [ClassDef.corrected_eq, coefficients]
    rcases hv with ⟨hf, rfl, rfl, rfl⟩ | ⟨hf, rfl, rfl, rfl⟩ | ⟨hf, rfl, rfl, rfl⟩
    all_goals rw [hf]; rfl
  case errors =>
    rw [judgeReading_of_errors e expected raw errors wireOff hd hm, errorsOutcome,
      ClassDef.lowLimit, ClassDef.highLimit, ClassDef.limit_of_errors hm, ClassDef.limit_of_errors hm]
    simp only [Int.ofNat_le]
  case code => exact judgeReading_of_code e expected raw errors wireOff hd hm
  case checked =>
    refine fun r outcome a testLink source sweep time =>
      ⟨LinkRecord.checked_of_not_heard r a testLink source sweep time, ?_⟩
    rw [LinkRecord.checked_of_heard]
    cases r.firstFailure <;> rfl

/-! ## The groups of the outcomes (R101) -/

theorem TestOutcome.group_eq_pass (o : TestOutcome) : o.group = .pass ↔ o = .inRange := by
  cases o <;> decide

theorem TestOutcome.group_eq_margin (o : TestOutcome) :
    o.group = .margin ↔ o = .lowMargin ∨ o = .highMargin := by
  cases o <;> decide

theorem TestOutcome.group_eq_fail (o : TestOutcome) :
    o.group = .fail ↔ o = .under ∨ o = .over ∨ o = .mismatch ∨ o = .contention := by
  cases o <;> decide

theorem TestOutcome.group_eq_openGroup (o : TestOutcome) : o.group = .openGroup ↔ o = .openSeen := by
  cases o <;> decide

theorem TestOutcome.group_eq_void (o : TestOutcome) :
    o.group = .void ↔ o = .voidTalker ∨ o = .voidMissing ∨ o = .voidRedefined := by
  cases o <;> decide

/-! ## The table of the verdict (R112, R113) -/

section
variable {v : Verdict} {standing streak threshold quota : Nat}

theorem verdictAfter_of_latched (g : OutcomeGroup) (h : v.latched = true) :
    verdictAfter g v standing streak threshold quota = v := if_pos h

theorem verdictAfter_openGroup (h : v.latched = false) :
    verdictAfter .openGroup v standing streak threshold quota = .opened := by
  simp [verdictAfter, h]

theorem verdictAfter_margin (h : v.latched = false) :
    verdictAfter .margin v standing streak threshold quota = .marginal := by
  simp [verdictAfter, h]

theorem verdictAfter_fail_of_reached (h : v.latched = false) (reached : threshold ≤ standing) :
    verdictAfter .fail v standing streak threshold quota = .failed := by
  simp [verdictAfter, h, reached]

theorem verdictAfter_fail_of_below (below : standing < threshold)
    (h : v = .untested ∨ v = .passed) :
    verdictAfter .fail v standing streak threshold quota = .testing := by
  rcases h with rfl | rfl <;> simp [verdictAfter, Verdict.latched, below]

theorem verdictAfter_fail_of_below_kept (below : standing < threshold)
    (h : v = .testing ∨ v = .marginal) :
    verdictAfter .fail v standing streak threshold quota = v := by
  rcases h with rfl | rfl <;> simp [verdictAfter, Verdict.latched, below]

theorem verdictAfter_pass_of_reached (h : v.latched = false) (reached : quota ≤ streak) :
    verdictAfter .pass v standing streak threshold quota = .passed := by
  simp [verdictAfter, h, reached]

theorem verdictAfter_pass_of_untested (below : streak < quota) :
    verdictAfter .pass .untested standing streak threshold quota = .testing := by
  simp [verdictAfter, Verdict.latched, below]

theorem verdictAfter_pass_of_below_kept (below : streak < quota)
    (h : v = .testing ∨ v = .marginal ∨ v = .passed) :
    verdictAfter .pass v standing streak threshold quota = v := by
  rcases h with rfl | rfl | rfl <;> simp [verdictAfter, Verdict.latched, below]

end

/-! ## The link record after a closure (R110, R111) -/

section
variable (r : LinkRecord) (cls : ClassDef) {f : Finding} (source : Source) (sweep : Word) (time : Nat)

theorem LinkRecord.judged_of_void (h : f.outcome.group = .void) :
    r.judged cls f source sweep time
      = { r with void := satInc 16777215 r.void, lastObservation := some ⟨sweep, f.outcome, none⟩ } :=
  if_pos h

/-- The first failure that a record holds after an outcome: the one held, or the first that is not IN (R111). -/
def LinkRecord.failureAfter (f : Finding) : Option FirstFailure :=
  if f.outcome = .inRange then r.firstFailure
  else some (r.firstFailure.getD ⟨sweep, time, source, f.outcome, f.value, f.suspect⟩)

/-- An outcome that is not void counts an attempt, and moves the record by its group alone. -/
theorem LinkRecord.judged_of_counted (h : f.outcome.group ≠ .void) :
    r.judged cls f source sweep time = { r with
      attempts := satInc 16777215 r.attempts
      inRange := if f.outcome.group = .pass then satInc 16777215 r.inRange else r.inRange
      margin := if f.outcome.group = .margin then satInc 16777215 r.margin else r.margin
      fail := if f.outcome.group = .fail ∨ f.outcome.group = .openGroup then
        satInc 16777215 r.fail else r.fail
      standing := standingAfter f.outcome.group r.standing
      streak := streakAfter f.outcome.group r.streak
      verdict := verdictAfter f.outcome.group r.verdict (standingAfter f.outcome.group r.standing)
        (streakAfter f.outcome.group r.streak) cls.failThreshold.toNat cls.passQuota.toNat
      lastObservation := some ⟨sweep, f.outcome, f.value⟩
      firstFailure := r.failureAfter source sweep time f } := by
  simp only [LinkRecord.judged, if_neg h, LinkRecord.fillFailure_eq, LinkRecord.failureAfter, linkTop]
  split <;> rfl

theorem LinkRecord.failureAfter_of_kept (h : f.outcome = .inRange ∨ r.firstFailure ≠ none) :
    r.failureAfter source sweep time f = r.firstFailure := by
  unfold LinkRecord.failureAfter
  split
  · rfl
  · next other =>
    obtain ⟨held, hr⟩ := Option.ne_none_iff_exists'.mp (h.resolve_left other)
    simp [hr]

theorem LinkRecord.failureAfter_of_filled (h : f.outcome ≠ .inRange) (hr : r.firstFailure = none) :
    r.failureAfter source sweep time f
      = some ⟨sweep, time, source, f.outcome, f.value, f.suspect⟩ := by
  simp [LinkRecord.failureAfter, h, hr]

theorem LinkRecord.judged_verdict_of_latched (h : r.verdict.latched = true) :
    (r.judged cls f source sweep time).verdict = r.verdict := by
  by_cases void : f.outcome.group = .void
  · rw [LinkRecord.judged_of_void r cls source sweep time void]
  · rw [LinkRecord.judged_of_counted r cls source sweep time void]
    exact verdictAfter_of_latched _ h

/-- A counted outcome of group `g` moves the standing count, the streak and the verdict by the row of `g`. -/
theorem LinkRecord.judged_moves_by_group {g : OutcomeGroup} (hg : f.outcome.group = g) (hv : g ≠ .void) :
    (r.judged cls f source sweep time).standing = standingAfter g r.standing
      ∧ (r.judged cls f source sweep time).streak = streakAfter g r.streak
      ∧ (r.judged cls f source sweep time).verdict
        = verdictAfter g r.verdict (standingAfter g r.standing) (streakAfter g r.streak)
            cls.failThreshold.toNat cls.passQuota.toNat := by
  subst hg
  rw [LinkRecord.judged_of_counted r cls source sweep time hv]
  exact ⟨rfl, rfl, rfl⟩

end

/-- Settles O57: the record of a counted outcome is `judged_of_counted`'s, and its verdict the row of the table
for the outcome's group. -/
theorem verdictMovesWithTheGroup : Obligations.VerdictMovesWithTheGroup := by
  unfold Obligations.VerdictMovesWithTheGroup
  rintro r cls f source sweep time after rfl
  refine ⟨fun hg => ?openGroup, fun hg => ?fail, fun hg => ?margin, fun hg => ?pass,
    r.judged_of_void cls source sweep time, r.judged_verdict_of_latched cls source sweep time,
    fun counted => ?counted, f.outcome.group_eq_pass, f.outcome.group_eq_margin,
    f.outcome.group_eq_fail, f.outcome.group_eq_openGroup, f.outcome.group_eq_void⟩
  case openGroup =>
    obtain ⟨standing, streak, verdict⟩ :=
      r.judged_moves_by_group cls source sweep time hg (by decide)
    rw [standing, streak, verdict]
    exact ⟨rfl, rfl, verdictAfter_openGroup⟩
  case fail =>
    obtain ⟨standing, streak, verdict⟩ :=
      r.judged_moves_by_group cls source sweep time hg (by decide)
    rw [standing, streak, verdict]
    exact ⟨rfl, rfl, verdictAfter_fail_of_reached, verdictAfter_fail_of_below,
      verdictAfter_fail_of_below_kept⟩
  case margin =>
    obtain ⟨standing, streak, verdict⟩ :=
      r.judged_moves_by_group cls source sweep time hg (by decide)
    rw [standing, streak, verdict]
    exact ⟨rfl, rfl, verdictAfter_margin⟩
  case pass =>
    obtain ⟨standing, streak, verdict⟩ :=
      r.judged_moves_by_group cls source sweep time hg (by decide)
    rw [standing, streak, verdict]
    refine ⟨rfl, rfl, verdictAfter_pass_of_reached, fun below untested => ?_,
      verdictAfter_pass_of_below_kept⟩
    rw [untested]
    exact verdictAfter_pass_of_untested below
  case counted =>
    rw [r.judged_of_counted cls source sweep time counted]
    exact ⟨rfl, rfl, rfl, rfl, rfl, r.failureAfter_of_kept source sweep time,
      r.failureAfter_of_filled source sweep time, rfl, rfl, rfl, rfl, rfl, rfl, rfl⟩

end Sys2Proof.Machine

/-! The Spot Queue's requests (R46, R64, R117, R118, R122 to R124): the arrival checks that SPOT REQUEST and SPOTASK
share, the SPOTANS, and the end of a request that SPOT CANCEL and SPOTDROP share. -/

namespace Sys2Proof.Machine

/-! ## The request that names a link (R117) -/

theorem State.spotFor_isSome (s : State) (id : Nat) :
    (s.spotFor id).isSome = true ↔ ∃ r ∈ s.spot, r.link = id := by
  simp [State.spotFor]

theorem State.link_of_spotFor {s : State} {id : Nat} {r : SpotRequest} (h : s.spotFor id = some r) :
    r.link = id := by
  simpa using List.find?_some h

/-! ## The arrival checks (R118) -/

/-- The conditions that answer RANGE: an undefined link, a repeat count outside 1 to 16, or a requesting probe that
is no endpoint of the link. -/
def State.spotOutOfRange (s : State) (requester : Option Nat) (id repeats : Nat) : Prop :=
  s.linkDefined id = false ∨ repeats = 0 ∨ 16 < repeats
    ∨ ∃ n, requester = some n ∧ n ∉ (s.active.link id).endpoints

section
variable (s : State) (requester : Option Nat) (id repeats : Nat)

/-- The station has no slot to check. -/
theorem State.spotOutOfRange_station :
    s.spotOutOfRange none id repeats ↔ s.linkDefined id = false ∨ repeats = 0 ∨ 16 < repeats := by
  simp [State.spotOutOfRange]

theorem State.spotOutOfRange_probe (n : Nat) :
    s.spotOutOfRange (some n) id repeats
      ↔ s.linkDefined id = false ∨ repeats = 0 ∨ 16 < repeats ∨ n ∉ (s.active.link id).endpoints := by
  simp [State.spotOutOfRange]

variable {s requester id repeats}

theorem State.arrival_of_outOfRange (h : s.spotOutOfRange requester id repeats) :
    s.arrival requester id repeats = .range := by
  unfold State.arrival
  rcases h with undefined | zero | above | ⟨n, rfl, other⟩
  · simp [undefined]
  · simp [zero]
  · simp [Nat.not_le.mpr above]
  · simp [other]

/-- Past the RANGE checks an arrival is answered by the link's flag, then by the queue. -/
theorem State.arrival_of_inRange (h : ¬ s.spotOutOfRange requester id repeats) :
    s.arrival requester id repeats
      = if (s.link id).withdrawn = true then .state
        else if (s.spotFor id).isSome = true then .duplicate
        else if s.spot.length < 8 then .accepted else .full := by
  simp only [State.spotOutOfRange, not_or, not_exists, not_and, Classical.not_not, Bool.not_eq_false] at h
  obtain ⟨defined, notZero, notOver, endpoint⟩ := h
  have counts : (s.linkDefined id && decide (1 ≤ repeats) && decide (repeats ≤ 16)) = true := by
    simp [defined, Nat.one_le_iff_ne_zero.mpr notZero, Nat.not_lt.mp notOver]
  unfold State.arrival
  rw [counts]
  cases requester with
  | none => rfl
  | some n =>
    simp only [List.contains_iff_mem.mpr (endpoint n rfl)]
    rfl

theorem State.arrival_eq_range :
    s.arrival requester id repeats = .range ↔ s.spotOutOfRange requester id repeats := by
  refine ⟨fun range => Classical.byContradiction fun inRange => ?_, State.arrival_of_outOfRange⟩
  rw [State.arrival_of_inRange inRange] at range
  revert range
  (repeat' split) <;> simp

end

/-! ## The arrival of a request (R118) -/

section
variable {s : State} {requester : Option Nat} {id repeats : Nat} (marker : Byte)

theorem arrive_of_accepted (h : s.arrival requester id repeats = .accepted) :
    arrive requester id repeats marker s
      = s.withSpot (s.spot ++ [⟨requester, id, repeats, marker, ⟨0, 0, 0, 0⟩, none, none⟩]) := by
  unfold arrive
  split
  · rfl
  · next other => exact absurd h other

/-- An arrival that is not accepted changes nothing. -/
theorem arrive_of_refused (h : s.arrival requester id repeats ≠ .accepted) :
    arrive requester id repeats marker s = s := by
  unfold arrive
  split
  · next accepted => exact absurd accepted h
  · rfl

end

/-! ## SPOT REQUEST (R118) -/

section
variable {s : State} {link : Half} {repeats : Byte} (marker : Byte) (hs : s.serves = true)
include hs

theorem exec_spotRequest :
    exec (.spotRequest link repeats marker (requestCrc 0x48 (halfBytes link ++ [repeats, marker]))) s
      = .next ((arrive none link.toNat repeats.toNat marker s).answered
          ⟨(s.arrival none link.toNat repeats.toNat).status, []⟩) := by
  have taken := takeRequest_serves 0x48 (halfBytes link ++ [repeats, marker])
    (spotRequest link repeats marker) hs
  rw [spotRequest, reply_finish] at taken
  exact congrArg Host.Outcome.next taken

theorem exec_spotRequest_of_refused {a : Arrival}
    (h : s.arrival none link.toNat repeats.toNat = a) (refused : a ≠ .accepted) :
    exec (.spotRequest link repeats marker (requestCrc 0x48 (halfBytes link ++ [repeats, marker]))) s
      = .next (s.answered ⟨a.status, []⟩) := by
  rw [exec_spotRequest marker hs, arrive_of_refused marker (h ▸ refused), h]

end

/-- Settles O28: the arrival is `arrival_of_inRange`'s or RANGE, and an arrival that is not accepted changes
nothing. -/
theorem spotRequestJoinsTheQueue : Obligations.SpotRequestJoinsTheQueue := by
  unfold Obligations.SpotRequestJoinsTheQueue
  intro link repeats marker s hs
  have inRange : s.linkDefined link.toNat = true → 1 ≤ repeats.toNat → repeats.toNat ≤ 16 →
      ¬ s.spotOutOfRange none link.toNat repeats.toNat := by
    intro defined low high out
    rcases (s.spotOutOfRange_station _ _).mp out with undefined | zero | above
    · rw [defined] at undefined; contradiction
    · omega
    · omega
  refine ⟨fun defined low high active => ⟨fun absent room => ?accepted, fun present => ?duplicate,
    fun absent full => ?full⟩, fun defined low high withdrawn => ?state, fun out => ?range⟩
  case range =>
    exact exec_spotRequest_of_refused marker hs
      (State.arrival_of_outOfRange ((s.spotOutOfRange_station _ _).mpr out)) (by decide)
  all_goals have arrival := State.arrival_of_inRange (inRange defined low high)
  case state =>
    rw [if_pos withdrawn] at arrival
    exact exec_spotRequest_of_refused marker hs arrival (by decide)
  all_goals rw [if_neg (by simp [active])] at arrival
  case duplicate =>
    rw [if_pos ((s.spotFor_isSome _).mpr present)] at arrival
    exact exec_spotRequest_of_refused marker hs arrival (by decide)
  all_goals rw [if_neg (by simpa [s.spotFor_isSome] using absent)] at arrival
  case accepted =>
    rw [if_pos room] at arrival
    rw [exec_spotRequest marker hs, arrive_of_accepted marker arrival, arrival]
    rfl
  case full =>
    rw [if_neg (Nat.not_lt.mpr full)] at arrival
    exact exec_spotRequest_of_refused marker hs arrival (by decide)

/-! ## The messages of a probe that asks (R46) -/

theorem ProbeState.asks_iff (p : ProbeState) : p.asks = true ↔ p = .syncing ∨ p = .inStep := by
  cases p <;> decide

section
variable {port : Port} {effect : State → State} {s : State} (hl : s.port.resetLow = false)
include hl

theorem receive_asks_admitted
    (h : (s.probe (slotOf port)).state = .syncing ∨ (s.probe (slotOf port)).state = .inStep) :
    receive (slotOf port) true ProbeState.asks effect s = effect (hearProbe (slotOf port) s) :=
  receive_admitted _ _ _ hl ((ProbeState.asks_iff _).mpr h)

theorem receive_asks_stray (hy : (s.probe (slotOf port)).state ≠ .syncing)
    (hi : (s.probe (slotOf port)).state ≠ .inStep) :
    receive (slotOf port) true ProbeState.asks effect s
      = stray (slotOf port) (hearProbe (slotOf port) s) :=
  receive_stray _ _ _ hl (by simp [← Bool.not_eq_true, ProbeState.asks_iff, hy, hi])

end

theorem exec_spotAsk (port : Port) (link : Half) (repeats marker : Byte) (s : State) :
    exec (.spotAsk port link repeats marker) s = .next (receive (slotOf port) true ProbeState.asks
      (takeSpotAsk (slotOf port) link repeats marker) s) := by
  rfl

theorem exec_spotDrop (port : Port) (link : Half) (s : State) :
    exec (.spotDrop port link) s = .next (receive (slotOf port) true ProbeState.asks
      (takeSpotDrop (slotOf port) link) s) := by
  rfl

/-! ## The SPOTANS (R64, R176) -/

theorem Arrival.toByte_eq_accepted (a : Arrival) : a.toByte = 0 ↔ a = .accepted := by
  cases a <;> decide

theorem Arrival.toByte_eq_range (a : Arrival) : a.toByte = 1 ↔ a = .range := by cases a <;> decide

theorem Arrival.toByte_eq_state (a : Arrival) : a.toByte = 2 ↔ a = .state := by cases a <;> decide

theorem Arrival.toByte_eq_duplicate (a : Arrival) : a.toByte = 3 ↔ a = .duplicate := by
  cases a <;> decide

theorem Arrival.toByte_eq_full (a : Arrival) : a.toByte = 4 ↔ a = .full := by cases a <;> decide

section
variable {s : State} (n : Nat) (link : Half) (answer : Byte)

theorem sendSpotAns_of_started (h : s.starting = false) :
    sendSpotAns n link answer s = send n (.spotAns link answer) s := by
  simp [sendSpotAns, h]

theorem sendSpotAns_of_starting (h : s.starting = true) :
    sendSpotAns n link answer s
      = s.withStore { s.store with held := s.store.held ++ [.spotAns n link answer] } := if_pos h

variable (s)

/-- A SPOTANS reaches the port of its own slot at most. -/
theorem sendSpotAns_registry :
    (sendSpotAns n link answer s).registry.probes = s.registry.probes
      ∧ (sendSpotAns n link answer s).registry.session = s.registry.session
      ∧ (sendSpotAns n link answer s).registry.calWrite = s.registry.calWrite
      ∧ ∀ m, m ≠ n → (sendSpotAns n link answer s).portState m = s.portState m := by
  cases h : s.starting with
  | true =>
    rw [sendSpotAns_of_starting n link answer h]
    exact ⟨rfl, rfl, rfl, fun _ _ => rfl⟩
  | false =>
    rw [sendSpotAns_of_started n link answer h]
    refine ⟨rfl, rfl, rfl, fun m other => ?_⟩
    rw [send_portState, if_neg fun same => other same.1.symm]

end

/-! ## SPOTASK (R64, R118) -/

theorem hearProbe_portState_self {n : Nat} (s : State) (h1 : 1 ≤ n) (h18 : n ≤ 18) :
    (hearProbe n s).portState n = { s.portState n with lastFrame := some .probe } := by
  rw [hearProbe_portState, if_pos ⟨rfl, h1, h18⟩]

theorem hearProbe_portState_of_ne {n m : Nat} (s : State) (h : m ≠ n) :
    (hearProbe n s).portState m = s.portState m := by
  rw [hearProbe_portState, if_neg fun same => h same.1.symm]

/-- The part that has heard a probe answers an arrival as it did before. -/
theorem hearProbe_arrival (n : Nat) (s : State) : (hearProbe n s).arrival = s.arrival := (rfl)

section
variable (n : Nat) (link : Half) (repeats marker : Byte) (s : State)

theorem takeSpotAsk_spot :
    (takeSpotAsk n link repeats marker s).spot
      = if (s.arrival (some n) link.toNat repeats.toNat).toByte = 0 then
          s.spot ++ [⟨some n, link.toNat, repeats.toNat, marker, ⟨0, 0, 0, 0⟩, none, none⟩]
        else s.spot := by
  obtain ⟨-, -, -, -, -, -, spot, -⟩ := sendSpotAns_frame n link
    (s.arrival (some n) link.toNat repeats.toNat).toByte
    (arrive (some n) link.toNat repeats.toNat marker s)
  rw [takeSpotAsk, spot]
  split
  · next h => rw [arrive_of_accepted marker ((Arrival.toByte_eq_accepted _).mp h)]; rfl
  · next h => rw [arrive_of_refused marker (mt (Arrival.toByte_eq_accepted _).mpr h)]

/-- What SPOTASK makes of the store and the ports: a SPOTANS is handed to the slot's own port, or is held back. -/
theorem takeSpotAsk_answers {answer : Byte} (h1 : 1 ≤ n) (h18 : n ≤ 18)
    (ha : answer = (s.arrival (some n) link.toNat repeats.toNat).toByte) :
    (s.starting = false → (takeSpotAsk n link repeats marker s).store = s.store
        ∧ (takeSpotAsk n link repeats marker s).portState n
          = (s.portState n).hand (.spotAns link answer))
      ∧ (s.starting = true → (takeSpotAsk n link repeats marker s).store
            = { s.store with held := s.store.held ++ [.spotAns n link answer] }
        ∧ (takeSpotAsk n link repeats marker s).portState n = s.portState n) := by
  obtain ⟨-, -, -, -, -, registry, -, -, -, store, -⟩ :=
    arrive_frame (some n) link.toNat repeats.toNat marker s
  have starting : (arrive (some n) link.toNat repeats.toNat marker s).starting = s.starting := by
    rw [State.starting, store]; rfl
  have port := State.portState_of_registry registry n
  rw [takeSpotAsk, ← ha]
  refine ⟨fun started => ?_, fun held => ?_⟩
  · rw [sendSpotAns_of_started n link answer (starting.trans started), send_portState, port,
      if_pos ⟨rfl, h1, h18⟩]
    exact ⟨store, rfl⟩
  · rw [sendSpotAns_of_starting n link answer (starting.trans held), State.withStore_portState,
      port, ← store]
    exact ⟨rfl, rfl⟩

/-- SPOTASK leaves the Probe Table, the session and the other ports alone. -/
theorem takeSpotAsk_registry :
    (takeSpotAsk n link repeats marker s).registry.probes = s.registry.probes
      ∧ (takeSpotAsk n link repeats marker s).registry.session = s.registry.session
      ∧ (takeSpotAsk n link repeats marker s).registry.calWrite = s.registry.calWrite
      ∧ ∀ m, m ≠ n → (takeSpotAsk n link repeats marker s).portState m = s.portState m := by
  obtain ⟨-, -, -, -, -, registry, -⟩ := arrive_frame (some n) link.toNat repeats.toNat marker s
  obtain ⟨probes, session, calWrite, ports⟩ := sendSpotAns_registry
    (arrive (some n) link.toNat repeats.toNat marker s) n link
    (s.arrival (some n) link.toNat repeats.toNat).toByte
  rw [registry] at probes session calWrite
  exact ⟨probes, session, calWrite,
    fun m other => (ports m other).trans (State.portState_of_registry registry m)⟩

end

/-- Past RANGE, each answer of the arrival checks holds in exactly its case (R118). -/
theorem State.arrival_answers {s : State} {requester : Option Nat} {id repeats : Nat} {answer : Byte}
    (ha : answer = (s.arrival requester id repeats).toByte) (h : answer ≠ 1) :
    (answer = 2 ↔ (s.link id).withdrawn = true)
      ∧ (answer = 3 ↔ (s.link id).withdrawn = false ∧ ∃ r ∈ s.spot, r.link = id)
      ∧ (answer = 4 ↔ (s.link id).withdrawn = false ∧ (∀ r ∈ s.spot, r.link ≠ id)
          ∧ 8 ≤ s.spot.length)
      ∧ (answer = 0 ↔ (s.link id).withdrawn = false ∧ (∀ r ∈ s.spot, r.link ≠ id)
          ∧ s.spot.length < 8) := by
  subst ha
  rw [Ne, Arrival.toByte_eq_range, State.arrival_eq_range] at h
  rw [Arrival.toByte_eq_state, Arrival.toByte_eq_duplicate, Arrival.toByte_eq_full,
    Arrival.toByte_eq_accepted, State.arrival_of_inRange h]
  have absent : (∀ r ∈ s.spot, r.link ≠ id) ↔ ¬ (s.spotFor id).isSome = true := by
    simp [s.spotFor_isSome]
  rw [absent, ← s.spotFor_isSome]
  by_cases withdrawn : (s.link id).withdrawn = true
  · simp [withdrawn]
  by_cases present : (s.spotFor id).isSome = true
  · simp [withdrawn, present]
  by_cases room : s.spot.length < 8
  · simp [withdrawn, present, room]
  · simp [withdrawn, present, room, Nat.not_lt.mp room]

/-- Settles O29: the part that has heard the probe takes the SPOTASK, whose answer is that of the arrival checks. -/
theorem spotAskIsAnsweredBySpotAns : Obligations.SpotAskIsAnsweredBySpotAns := by
  unfold Obligations.SpotAskIsAnsweredBySpotAns
  refine fun port link repeats marker s hl => ⟨fun asks => ?admitted, fun hy hi => ?stray⟩
  case stray => rw [exec_spotAsk, receive_asks_stray hl hy hi]
  case admitted =>
    obtain ⟨h1, h18⟩ := slotOf_bounds port
    obtain ⟨started, held⟩ := takeSpotAsk_answers (slotOf port) link repeats marker
      (hearProbe (slotOf port) s) h1 h18 rfl
    obtain ⟨probes, session, calWrite, ports⟩ :=
      takeSpotAsk_registry (slotOf port) link repeats marker (hearProbe (slotOf port) s)
    rw [hearProbe_portState_self s h1 h18] at started held
    refine ⟨takeSpotAsk (slotOf port) link repeats marker (hearProbe (slotOf port) s), _, ?taken, rfl,
      ?range, State.arrival_answers rfl, takeSpotAsk_spot _ link repeats marker (hearProbe _ s),
      started, held, fun m other => (ports m other).trans (hearProbe_portState_of_ne s other),
      probes, session, calWrite, by simp⟩
    case taken => rw [exec_spotAsk, receive_asks_admitted hl asks]
    case range =>
      rw [Arrival.toByte_eq_range, State.arrival_eq_range, State.spotOutOfRange_probe]

end Sys2Proof.Machine

/-! The end of a spot request before its repeats are used up: SPOT CANCEL and SPOTDROP (R122 to R124). -/

namespace Sys2Proof.Machine

/-! ## The cancel of a request (R122, R123) -/

section
variable {r : SpotRequest} {s : State}

theorem cancelSpot_of_inFlight (flies : r.inFlight ≠ none) (unended : r.endPending = none) :
    cancelSpot r s = s.withSpot (markEnd r.link .cancelled s.spot) := by
  simp [cancelSpot, Option.isSome_iff_ne_none.mpr flies, unended]

/-- An end pending is not replaced. -/
theorem cancelSpot_of_ended (flies : r.inFlight ≠ none) (ended : r.endPending ≠ none) :
    cancelSpot r s = s := by
  simp [cancelSpot, Option.isSome_iff_ne_none.mpr flies, Option.isSome_iff_ne_none.mpr ended]

/-- A waiting request leaves with its SPOT_DONE record, which a state `t` of the same sweep, queues, plan and port
hands as `s` does. -/
theorem cancelSpot_of_waiting {t : State} (waits : r.inFlight = none) (timer : t.timer = s.timer)
    (router : t.router = s.router) (plans : t.plans = s.plans) (port : t.port = s.port) :
    (cancelSpot r t).spot = t.spot.filter (fun q => q.link != r.link)
      ∧ (cancelSpot r t).router = (hand (spotDoneRecord s r .cancelled false) s).router
      ∧ (cancelSpot r t).port
        = (hand (spotDoneRecord s r .cancelled false) s).port.raise .spot := by
  have record : spotDoneRecord (t.withSpot (withoutLink r.link t.spot)) r .cancelled false
      = spotDoneRecord s r .cancelled false := by
    simp [spotDoneRecord, State.newRecord, timer]
  have leaves : cancelSpot r t = raise .spot (hand (spotDoneRecord s r .cancelled false)
      (t.withSpot (withoutLink r.link t.spot))) := by
    rw [← record]; simp [cancelSpot, waits, spotDone]
  rw [leaves]
  exact ⟨by simp [withoutLink], hand_router_congr _ router plans,
    congrArg (StationPort.raise · .spot) (hand_port_congr _ router plans port)⟩

end

/-! ## SPOT CANCEL (R123) -/

section
variable {link : Half} {s : State}

theorem exec_spotCancel (hs : s.serves = true) :
    exec (.spotCancel link (requestCrc 0x49 (halfBytes link))) s = .next (spotCancel link s).finish :=
  congrArg Host.Outcome.next (takeRequest_serves 0x49 (halfBytes link) (spotCancel link) hs)

theorem spotCancel_of_out_of_range (h : 511 < link.toNat) : spotCancel link s = refuse .range s :=
  if_pos h

theorem spotCancel_of_none (h : link.toNat ≤ 511) (absent : s.spotFor link.toNat = none) :
    spotCancel link s = refuse .empty s := by
  simp [spotCancel, Nat.not_lt.mpr h, absent]

theorem spotCancel_of_waiting {r : SpotRequest} (h : link.toNat ≤ 511)
    (found : s.spotFor link.toNat = some r) (waits : r.inFlight = none) :
    spotCancel link s = reply .done (cancelSpot r s) := by
  simp [spotCancel, Nat.not_lt.mpr h, found, waits]

theorem spotCancel_of_inFlight {r : SpotRequest} (h : link.toNat ≤ 511)
    (found : s.spotFor link.toNat = some r) (flies : r.inFlight ≠ none) :
    spotCancel link s = reply .accepted (cancelSpot r s) := by
  simp [spotCancel, Nat.not_lt.mpr h, found, Option.isSome_iff_ne_none.mpr flies]

end

/-! ## SPOTDROP (R124) -/

section
variable {n : Nat} {link : Half} {s : State}

theorem takeSpotDrop_of_own {r : SpotRequest} (found : s.spotFor link.toNat = some r)
    (own : r.requester = some n) : takeSpotDrop n link s = cancelSpot r s := by
  simp [takeSpotDrop, found, own]

/-- A probe does not end the request of another, or of the station. -/
theorem takeSpotDrop_of_other (h : ∀ r, s.spotFor link.toNat = some r → r.requester ≠ some n) :
    takeSpotDrop n link s = s := by
  unfold takeSpotDrop
  split
  · next r found => rw [if_neg (h r found)]
  · rfl

end

/-- The part that has heard a probe holds the requests it held before. -/
theorem hearProbe_spotFor (n : Nat) (s : State) : (hearProbe n s).spotFor = s.spotFor := (rfl)

theorem exec_spotDrop_of_own {port : Port} {link : Half} {s : State} {r : SpotRequest}
    (hl : s.port.resetLow = false)
    (asks : (s.probe (slotOf port)).state = .syncing ∨ (s.probe (slotOf port)).state = .inStep)
    (found : s.spotFor link.toNat = some r) (own : r.requester = some (slotOf port)) :
    exec (.spotDrop port link) s = .next (cancelSpot r (hearProbe (slotOf port) s)) := by
  rw [exec_spotDrop, receive_asks_admitted hl asks,
    takeSpotDrop_of_own (by rwa [hearProbe_spotFor]) own]

/-- Settles O30: both requests end by `cancelSpot`, whose three cases are the request's own; the others leave the
queue alone. -/
theorem spotCancelEndsARequest : Obligations.SpotCancelEndsARequest := by
  unfold Obligations.SpotCancelEndsARequest
  refine ⟨fun link s hs inRange => ⟨fun r found waits => ?cancelWaiting,
      fun r found flies unended => ?cancelInFlight, fun r found flies ended => ?cancelEnded,
      fun absent => ?cancelNone⟩,
    fun link s hs above => ?cancelRange,
    fun port link s hl asks => ⟨fun r found own waits => ?dropWaiting,
      fun r found own flies unended => ?dropInFlight, fun r found own flies ended => ?dropEnded,
      fun other => ?dropOther⟩,
    fun port link s hl hy hi => ?dropStray⟩
  case cancelWaiting =>
    obtain ⟨spot, router, port⟩ := cancelSpot_of_waiting (r := r) (t := s) waits rfl rfl rfl rfl
    rw [← State.link_of_spotFor found]
    refine ⟨(cancelSpot r s).answered ⟨.done, []⟩, hand (spotDoneRecord s r .cancelled false) s, ?_,
      rfl, spot, router, congrArg (fun p => { p with answer := some ⟨.done, []⟩ }) port, by simp⟩
    rw [exec_spotCancel hs, spotCancel_of_waiting inRange found waits, reply_finish]
  case cancelInFlight =>
    rw [exec_spotCancel hs, spotCancel_of_inFlight inRange found flies,
      cancelSpot_of_inFlight flies unended, State.link_of_spotFor found, reply_finish]
    rfl
  case cancelEnded =>
    rw [exec_spotCancel hs, spotCancel_of_inFlight inRange found flies,
      cancelSpot_of_ended flies ended, reply_finish]
  case cancelNone => rw [exec_spotCancel hs, spotCancel_of_none inRange absent, refuse_finish]
  case cancelRange => rw [exec_spotCancel hs, spotCancel_of_out_of_range above, refuse_finish]
  case dropWaiting =>
    have handed := exec_spotDrop_of_own hl asks found own
    obtain ⟨spot, router, stationPort⟩ := cancelSpot_of_waiting (r := r) (s := s)
      (t := hearProbe (slotOf port) s) waits rfl rfl rfl rfl
    rw [← State.link_of_spotFor found]
    exact ⟨cancelSpot r (hearProbe (slotOf port) s),
      hand (spotDoneRecord s r .cancelled false) s, handed, rfl, spot, router, stationPort, by simp⟩
  case dropInFlight =>
    rw [exec_spotDrop_of_own hl asks found own, cancelSpot_of_inFlight flies unended,
      State.link_of_spotFor found]
    rfl
  case dropEnded =>
    rw [exec_spotDrop_of_own hl asks found own, cancelSpot_of_ended flies ended]
  case dropOther =>
    rw [exec_spotDrop, receive_asks_admitted hl asks, takeSpotDrop_of_other (by rwa [hearProbe_spotFor])]
  case dropStray => rw [exec_spotDrop, receive_asks_stray hl hy hi]

end Sys2Proof.Machine

/-! The calibration session (R130 to R138): when its requests are taken, how a capture begins, fills and ends, and
how candidates and defaults come into use. -/

namespace Sys2Proof.Machine

/-! ## When the session takes a request (R131, R132, R138) -/

section
variable {s : State}

theorem State.calibrates_of_stopped (stopped : s.timer.run = .stopped)
    (rests : s.registry.session.state = .idle ∨ s.registry.session.state = .held) :
    s.calibrates = true := by
  simp [State.calibrates, stopped, rests]

theorem State.not_calibrates (h : s.timer.run ≠ .stopped ∨ s.registry.session.state = .capturing
    ∨ s.registry.session.state = .writing) : s.calibrates = false := by
  rcases h with runs | captures | writes
  · simp [State.calibrates, runs]
  · simp [State.calibrates, captures]
  · simp [State.calibrates, writes]

end

/-! ## Slot sets (12) -/

section
variable {set : BitVec 24}

theorem mem_slotsOf {n : Nat} :
    n ∈ slotsOf set ↔ (1 ≤ n ∧ n ≤ 18) ∧ set.getLsbD (n - 1) = true := by
  rw [slotsOf, List.mem_filter, mem_allSlots]

theorem slotsOf_nodup (set : BitVec 24) : (slotsOf set).Nodup := allSlots_nodup.filter _

theorem slotsOf_ne_nil (h : ∃ n, 1 ≤ n ∧ n ≤ 18 ∧ set.getLsbD (n - 1) = true) : slotsOf set ≠ [] := by
  obtain ⟨n, low, high, chosen⟩ := h
  exact List.ne_nil_of_mem (mem_slotsOf.mpr ⟨⟨low, high⟩, chosen⟩)

theorem slotsOf_eq_nil (h : ∀ n, 1 ≤ n → n ≤ 18 → set.getLsbD (n - 1) = false) : slotsOf set = [] := by
  refine List.eq_nil_iff_forall_not_mem.mpr fun n mem => ?_
  obtain ⟨⟨low, high⟩, chosen⟩ := mem_slotsOf.mp mem
  rw [h n low high] at chosen
  contradiction

end

/-! ## CAL SELECT (R131) -/

section
variable {slots : BitVec 24} {kind range quick : Byte} {s : State}

theorem selectionOf_of_codes {k : CalKind} {r : ProbeRange} {q : Bool}
    (hk : CalKind.ofCode kind = some k) (hr : ProbeRange.ofCode range = some r)
    (hq : boolOfCode quick = some q) (chosen : slotsOf slots ≠ []) :
    selectionOf slots kind range quick = some ⟨slotsOf slots, k, r, q⟩ := by
  simp [selectionOf, hk, hr, hq, chosen]

theorem selectionOf_eq_none (h : CalKind.ofCode kind = none ∨ ProbeRange.ofCode range = none
    ∨ boolOfCode quick = none ∨ slotsOf slots = []) : selectionOf slots kind range quick = none := by
  rcases h with noKind | noRange | noQuick | noSlot
  · simp [selectionOf, noKind]
  · simp [selectionOf, noRange]
  · simp [selectionOf, noQuick]
  · simp [selectionOf, noSlot]

theorem calSelect_of_busySession (h : s.calibrates = false) :
    calSelect slots kind range quick s = refuse .state s := by
  simp [calSelect, h]

theorem calSelect_of_selection (h : s.calibrates = true) {x : Selection}
    (hx : selectionOf slots kind range quick = some x) :
    calSelect slots kind range quick s = reply .done (s.withSession (Session.selected x)) := by
  simp [calSelect, h, hx]

theorem calSelect_of_noSelection (h : s.calibrates = true)
    (hx : selectionOf slots kind range quick = none) :
    calSelect slots kind range quick s = refuse .range s := by
  simp [calSelect, h, hx]

theorem exec_calSelect (hs : s.serves = true) :
    exec (.calSelect slots kind range quick
        (requestCrc 0x50 (threeBytes slots ++ [kind, range, quick]))) s
      = .next (calSelect slots kind range quick s).finish :=
  congrArg Host.Outcome.next (takeRequest_serves 0x50 (threeBytes slots ++ [kind, range, quick])
    (calSelect slots kind range quick) hs)

end

/-- Settles O31: the parameters spell a selection exactly when every code is in range and the slot set is not
empty. -/
theorem calSelectMakesASelection : Obligations.CalSelectMakesASelection := by
  unfold Obligations.CalSelectMakesASelection
  intro slots kind range quick s hs
  rw [exec_calSelect hs]
  refine ⟨fun stopped rests => ⟨fun k r q hk hr hq chosen => ?selected, fun unspelt => ?range⟩,
    fun busy => ?state⟩
  case selected =>
    have spelt := selectionOf_of_codes hk hr hq (slotsOf_ne_nil chosen)
    refine ⟨slotsOf slots, rfl, ?_⟩
    rw [calSelect_of_selection (State.calibrates_of_stopped stopped rests) spelt, reply_finish]
    rfl
  case range =>
    have noSelection := selectionOf_eq_none
      (unspelt.imp_right (Or.imp_right (Or.imp_right slotsOf_eq_nil)))
    rw [calSelect_of_noSelection (State.calibrates_of_stopped stopped rests) noSelection, refuse_finish]
  case state => rw [calSelect_of_busySession (State.not_calibrates busy), refuse_finish]

/-! ## The end of a capture (R134) -/

theorem exists_mem_map_iff {α β : Type} {f : α → β} {P : β → Prop} {l : List α} :
    (∃ b ∈ l.map f, P b) ↔ ∃ a ∈ l, P (f a) := by
  constructor
  · rintro ⟨b, mem, holds⟩
    obtain ⟨a, source, rfl⟩ := List.mem_map.mp mem
    exact ⟨a, source, holds⟩
  · rintro ⟨a, mem, holds⟩
    exact ⟨f a, List.mem_map_of_mem mem, holds⟩

theorem Session.waiting_iff {x : Session} :
    x.waiting = true ↔ ∃ c ∈ x.captures, c.outstanding = true := by
  simp [Session.waiting]

theorem Session.not_waiting_iff {x : Session} :
    x.waiting = false ↔ ∀ c ∈ x.captures, c.outstanding = false := by
  simp [Session.waiting]

section
variable {s : State}

theorem endCapture_of_waiting (h : s.registry.session.waiting = true) : endCapture s = s := if_pos h

theorem endCapture_of_ended (h : s.registry.session.waiting = false) :
    endCapture s
      = raise .cal (s.withSession { s.registry.session with state := .held, deadline := none }) :=
  if_neg (ne_true_of_eq_false h)

end

/-! ## CAL CAPTURE (R132) -/

/-- What the start of a capture makes of the entry of a probe in state `p`. -/
def CaptureEntry.asked (c : CaptureEntry) (p : ProbeState) : CaptureEntry :=
  if p = .syncing then { c with outstanding := true } else c.finish (.failed .notSyncing)

@[simp] theorem CaptureEntry.asked_slot (c : CaptureEntry) (p : ProbeState) :
    (c.asked p).slot = c.slot := by
  unfold CaptureEntry.asked; split <;> rfl

theorem CaptureEntry.asked_fresh (n : Nat) (p : ProbeState) :
    (CaptureEntry.fresh n).asked p
      = if p = .syncing then ⟨n, true, none⟩ else ⟨n, false, some (.failed .notSyncing)⟩ := (rfl)

theorem CaptureEntry.asked_fresh_outstanding (n : Nat) (p : ProbeState) :
    ((CaptureEntry.fresh n).asked p).outstanding = true ↔ p = .syncing := by
  rw [CaptureEntry.asked_fresh]; split <;> simp [*]

section
variable (x : Selection) (n : Nat) (s : State)

theorem captureSlot_session :
    (captureSlot x n s).registry.session = { s.registry.session with
      captures := mapCapture n (·.asked (s.probe n).state) s.registry.session.captures } := by
  unfold captureSlot CaptureEntry.asked
  split <;> rfl

@[simp] theorem captureSlot_probes : (captureSlot x n s).registry.probes = s.registry.probes := by
  unfold captureSlot
  split <;> rfl

@[simp] theorem captureSlot_probe (m : Nat) : (captureSlot x n s).probe m = s.probe m := by
  rw [State.probe, captureSlot_probes, State.probe]

theorem captureSlot_portState (m : Nat) :
    (captureSlot x n s).portState m
      = if (n = m ∧ 1 ≤ m ∧ m ≤ 18) ∧ (s.probe n).state = .syncing then
          (s.portState m).hand (.calMeas (x.kind == .gain) x.range)
        else s.portState m := by
  unfold captureSlot
  dsimp only
  split
  · next syncing => rw [send_portState]; simp [syncing]
  · next other => simp [other]

end

section
variable (x : Selection)

/-- The slots of a list are asked one after another, each entry once. -/
theorem foldl_captureSlot_session (l : List Nat) (nodup : l.Nodup) (s : State) :
    (l.foldl (fun t n => captureSlot x n t) s).registry.session = { s.registry.session with
      captures := s.registry.session.captures.map fun c =>
        if c.slot ∈ l then c.asked (s.probe c.slot).state else c } := by
  induction l generalizing s with
  | nil => simp
  | cons n l ih =>
    obtain ⟨fresh, nodup⟩ := List.nodup_cons.mp nodup
    have entry (c : CaptureEntry) :
        (fun d : CaptureEntry => if d.slot ∈ l then d.asked (s.probe d.slot).state else d)
            (if c.slot = n then c.asked (s.probe n).state else c)
          = if c.slot ∈ n :: l then c.asked (s.probe c.slot).state else c := by
      by_cases same : c.slot = n
      · simp [same, fresh]
      · simp [same]
    rw [List.foldl_cons, ih nodup, captureSlot_session]
    simp only [captureSlot_probe, mapCapture, List.map_map]
    simp only [Function.comp_def, entry]

theorem foldl_captureSlot_portState (l : List Nat) (nodup : l.Nodup)
    (slots : ∀ n ∈ l, 1 ≤ n ∧ n ≤ 18) (s : State) (m : Nat) :
    (l.foldl (fun t n => captureSlot x n t) s).portState m
      = if m ∈ l ∧ (s.probe m).state = .syncing then
          (s.portState m).hand (.calMeas (x.kind == .gain) x.range)
        else s.portState m := by
  rw [foldl_local (fun t n => captureSlot x n t) State.portState
    (fun n p => if (s.probe n).state = .syncing then p.hand (.calMeas (x.kind == .gain) x.range) else p)
    (fun t => ∀ k, t.probe k = s.probe k) (fun t n same k => by rw [captureSlot_probe, same])
    l nodup (fun t n mem same => ?own) (fun t n k _ other => ?others) s (fun _ => rfl) m]
  case own => rw [captureSlot_portState, same]; simp [slots n mem]
  case others => rw [captureSlot_portState, if_neg fun h => other h.1.1]
  by_cases mem : m ∈ l
  · simp only [mem, if_true, true_and]
  · simp only [mem, if_false, false_and]

end

section
variable {x : Selection} {s : State}

theorem beginCapture_session (selected : s.registry.session.selection = some x)
    (nodup : x.slots.Nodup) :
    (beginCapture x s).registry.session
      = ⟨.capturing, some x, x.slots.map fun n => (CaptureEntry.fresh n).asked (s.probe n).state,
          some (s.clock + 50000)⟩ := by
  rw [beginCapture, foldl_captureSlot_session x _ nodup]
  simp only [State.withSession_registry, State.withSession_probe, selected, List.map_map]
  have entries : ∀ n ∈ x.slots, (CaptureEntry.fresh n).slot ∈ x.slots := fun _ mem => mem
  congr 1
  exact List.map_congr_left fun n mem => if_pos (entries n mem)

theorem beginCapture_waiting (selected : s.registry.session.selection = some x)
    (nodup : x.slots.Nodup) :
    (beginCapture x s).registry.session.waiting = true
      ↔ ∃ n ∈ x.slots, (s.probe n).state = .syncing := by
  rw [Session.waiting_iff, beginCapture_session selected nodup]
  simp only [exists_mem_map_iff, CaptureEntry.asked_fresh_outstanding]

theorem beginCapture_probes (x : Selection) (s : State) :
    (beginCapture x s).registry.probes = s.registry.probes :=
  foldl_frame (·.registry.probes) _ (fun t n => captureSlot_probes x n t) _ _

theorem beginCapture_portState (nodup : x.slots.Nodup) (slots : ∀ n ∈ x.slots, 1 ≤ n ∧ n ≤ 18)
    (n : Nat) :
    (beginCapture x s).portState n
      = if n ∈ x.slots ∧ (s.probe n).state = .syncing then
          (s.portState n).hand (.calMeas (x.kind == .gain) x.range)
        else s.portState n :=
  foldl_captureSlot_portState x _ nodup slots _ n

theorem exec_calCapture (hs : s.serves = true) :
    exec (.calCapture (requestCrc 0x51 [])) s = .next (calCapture s).finish :=
  congrArg Host.Outcome.next (takeRequest_serves 0x51 [] calCapture hs)

theorem calCapture_of_waiting (h : s.calibrates = true)
    (selected : s.registry.session.selection = some x)
    (waits : (beginCapture x s).registry.session.waiting = true) :
    calCapture s = reply .accepted (beginCapture x s) := by
  simp [calCapture, h, selected, waits]

theorem calCapture_of_ended (h : s.calibrates = true)
    (selected : s.registry.session.selection = some x)
    (ended : (beginCapture x s).registry.session.waiting = false) :
    calCapture s = reply .done (endCapture (beginCapture x s)) := by
  simp [calCapture, h, selected, ended]

theorem calCapture_refused (h : s.calibrates = false ∨ s.registry.session.selection = none) :
    calCapture s = refuse .state s := by
  rcases h with busy | unselected
  · simp [calCapture, busy]
  · simp [calCapture, unselected]

end

/-- Settles O32: a capture begins alike in both cases, and ends in the same event when no entry waits. -/
theorem calCaptureSendsCalmeas : Obligations.CalCaptureSendsCalmeas := by
  unfold Obligations.CalCaptureSendsCalmeas
  intro s hs
  rw [exec_calCapture hs]
  refine ⟨fun x stopped rests selected nodup slots => ?taken, fun h => ?state⟩
  case state =>
    have refused : s.calibrates = false ∨ s.registry.session.selection = none := by
      rcases h with runs | captures | writes | unselected
      · exact .inl (State.not_calibrates (.inl runs))
      · exact .inl (State.not_calibrates (.inr (.inl captures)))
      · exact .inl (State.not_calibrates (.inr (.inr writes)))
      · exact .inr unselected
    rw [calCapture_refused refused, refuse_finish]
  case taken =>
    have calibrates := State.calibrates_of_stopped stopped rests
    have session := beginCapture_session selected nodup
    simp only [CaptureEntry.asked_fresh] at session
    have sent := beginCapture_portState (s := s) nodup slots
    have probes := beginCapture_probes x s
    have waiting := beginCapture_waiting selected nodup
    by_cases syncing : ∃ n ∈ x.slots, (s.probe n).state = .syncing
    · have asked : ¬ ∀ n ∈ x.slots, (s.probe n).state ≠ .syncing := by simpa using syncing
      refine ⟨(beginCapture x s).answered ⟨.accepted, []⟩, ?_, by simp [session], by simp [session],
        by simp [session], fun unasked => absurd unasked asked, sent, probes, by simp⟩
      rw [calCapture_of_waiting calibrates selected (waiting.mpr syncing), reply_finish]
    · have ended := Bool.eq_false_iff.mpr (mt waiting.mp syncing)
      refine ⟨(endCapture (beginCapture x s)).answered ⟨.done, []⟩, ?_, ?_⟩
      · rw [calCapture_of_ended calibrates selected ended, reply_finish]
      rw [endCapture_of_ended ended]
      exact ⟨by simp [session], by simp [session], fun asked => absurd asked syncing, by simp, sent, probes,
        by simp⟩

/-! ## CALREAD (R133) -/

theorem Session.awaits_iff {x : Session} {n : Nat} :
    x.awaits n = true
      ↔ x.state = .capturing ∧ ∃ c ∈ x.captures, c.slot = n ∧ c.outstanding = true := by
  simp [Session.awaits]

theorem ProbeState.calibrates_iff (p : ProbeState) : p.calibrates = true ↔ p = .syncing := by
  cases p <;> decide

/-- An entry is outstanding behind the end of slot `n`'s when it is another slot's and was before. -/
theorem CaptureEntry.finish_outstanding (n : Nat) (r : CaptureResult) (c : CaptureEntry) :
    (if c.slot = n then c.finish r else c).outstanding = true
      ↔ c.slot ≠ n ∧ c.outstanding = true := by
  by_cases own : c.slot = n
  · simp [own, CaptureEntry.finish]
  · simp [own]

section
variable (s : State) (n : Nat) (r : CaptureResult)

/-- The entry of slot `n` has its result, and it is not yet seen whether the capture ends. -/
def State.fillCapture : State :=
  s.withSession { s.registry.session with
    captures := mapCapture n (CaptureEntry.finish r) s.registry.session.captures }

theorem finishCapture_eq_endCapture : finishCapture n r s = endCapture (s.fillCapture n r) := (rfl)

theorem State.fillCapture_waiting :
    (s.fillCapture n r).registry.session.waiting = true
      ↔ ∃ c ∈ s.registry.session.captures, c.slot ≠ n ∧ c.outstanding = true := by
  rw [Session.waiting_iff]
  simp only [State.fillCapture, State.withSession_registry, mapCapture, exists_mem_map_iff,
    CaptureEntry.finish_outstanding]

end

section
variable {n : Nat} {raw : Half} {s : State}

theorem takeCalRead_of_awaited {x : Selection} (selected : s.registry.session.selection = some x)
    (syncing : (s.probe n).state = .syncing) (awaited : s.registry.session.awaits n = true) :
    takeCalRead n raw s
      = finishCapture n (candidate x.kind raw.toInt ((s.probe n).coeff x.range).offset) s := by
  simp [takeCalRead, selected, syncing, awaited]

theorem takeCalRead_of_unawaited (h : s.registry.session.awaits n = false) :
    takeCalRead n raw s = stray n s := by
  unfold takeCalRead
  split
  · exact if_neg (by simp [h])
  · rfl

end

theorem exec_calRead (port : Port) (raw : Half) (s : State) :
    exec (.calRead port raw) s = .next (receive (slotOf port) true ProbeState.calibrates
      (takeCalRead (slotOf port) raw) s) := by
  rfl

/-- A CALREAD that is not from a SYNCING probe, or that no entry awaits, is stray (R46, R133). -/
theorem exec_calRead_stray {port : Port} (raw : Half) {s : State} (hl : s.port.resetLow = false)
    (h : (s.probe (slotOf port)).state ≠ .syncing
      ∨ s.registry.session.awaits (slotOf port) = false) :
    exec (.calRead port raw) s = .next (stray (slotOf port) (hearProbe (slotOf port) s)) := by
  rw [exec_calRead]
  by_cases syncing : (s.probe (slotOf port)).state = .syncing
  · rw [receive_admitted _ _ _ hl ((ProbeState.calibrates_iff _).mpr syncing),
      takeCalRead_of_unawaited (s := hearProbe (slotOf port) s) (h.resolve_left (not_not_intro syncing))]
  · rw [receive_stray _ _ _ hl (Bool.eq_false_iff.mpr (mt (ProbeState.calibrates_iff _).mp syncing))]

theorem exec_calRead_awaited {port : Port} (raw : Half) {x : Selection} {s : State}
    (hl : s.port.resetLow = false) (syncing : (s.probe (slotOf port)).state = .syncing)
    (selected : s.registry.session.selection = some x)
    (awaited : s.registry.session.awaits (slotOf port) = true) :
    exec (.calRead port raw) s = .next (endCapture ((hearProbe (slotOf port) s).fillCapture (slotOf port)
      (candidate x.kind raw.toInt ((s.probe (slotOf port)).coeff x.range).offset))) := by
  rw [exec_calRead, receive_admitted _ _ _ hl ((ProbeState.calibrates_iff _).mpr syncing),
    takeCalRead_of_awaited (s := hearProbe (slotOf port) s) selected syncing awaited,
    finishCapture_eq_endCapture, hearProbe_probe]

/-! ## The candidates (R133) -/

section
variable {r f : Int}

theorem candidate_offset_of_bounds (low : -4096 ≤ r) (high : r ≤ 4096) :
    candidate .offset r f = .candidate r := if_pos ⟨low, high⟩

theorem candidate_offset_of_out_of_bounds (h : r < -4096 ∨ 4096 < r) :
    candidate .offset r f = .failed .outOfBounds := if_neg (by omega)

end

/-- The quotient's distance from the nearest whole number, doubled: at most 1 above it, less than 1 below. -/
theorem roundDiv_bounds (a : Nat) {b : Nat} (hb : 0 < b) :
    2 * (roundDiv a b * b) ≤ 2 * a + b ∧ 2 * a < 2 * (roundDiv a b * b) + b := by
  have split := Nat.div_add_mod (2 * a + b) (2 * b)
  have rest := Nat.mod_lt (2 * a + b) (Nat.mul_pos Nat.two_pos hb)
  have product : 2 * b * ((2 * a + b) / (2 * b)) = 2 * (roundDiv a b * b) := by
    rw [roundDiv, Nat.mul_assoc, Nat.mul_comm b]
  omega

/-- A GAIN candidate is the numerator nearest to the quotient of the full reference, within its bounds. -/
theorem candidate_gain_bounds {r f v : Int} (h : candidate .gain r f = .candidate v) :
    16384 ≤ v ∧ v ≤ 49152 ∧ 0 < r - f ∧ 2 * (v * (r - f)) ≤ 2 * 786432000 + (r - f)
      ∧ 2 * 786432000 - (r - f) < 2 * (v * (r - f)) := by
  simp only [candidate] at h
  split at h
  case isFalse => contradiction
  case isTrue valid =>
    obtain ⟨positive, low, high⟩ := valid
    obtain rfl := CaptureResult.candidate.inj h
    obtain ⟨above, below⟩ := roundDiv_bounds (32768 * 24000) (Int.pos_iff_toNat_pos.mp positive)
    have difference : ((r - f).toNat : Int) = r - f := Int.toNat_of_nonneg (Int.le_of_lt positive)
    generalize roundDiv (32768 * 24000) (r - f).toNat = g at *
    have product : ((g * (r - f).toNat : Nat) : Int) = g * (r - f) := by
      rw [Int.natCast_mul, difference]
    rw [← product]
    omega

/-! ## The capture deadline (R134) -/

section
variable {d : Nat} {s : State}

theorem State.captureDue_iff (hl : s.port.resetLow = false)
    (captures : s.registry.session.state = .capturing)
    (deadline : s.registry.session.deadline = some d) : s.captureDue = true ↔ d ≤ s.clock := by
  simp [State.captureDue, hl, captures, deadline]

theorem exec_captureDeadline (s : State) :
    exec .captureDeadline s = .next (if s.captureDue then captureDeadlineEvent s else s) := by
  rfl

theorem captureDeadlineEvent_eq (s : State) :
    captureDeadlineEvent s
      = (s.withSession { s.registry.session with
          state := .held, deadline := none,
          captures := s.registry.session.captures.map (fun c =>
            if c.outstanding = true then ⟨c.slot, false, some (.failed .noAnswer)⟩ else c)
          }).withPort (s.port.raise .cal) := by
  refine endCapture_of_ended (Session.not_waiting_iff.mpr fun c mem => ?_)
  obtain ⟨before, -, rfl⟩ := List.mem_map.mp mem
  split
  · rfl
  · next other => exact Bool.eq_false_iff.mpr other

end

/-- Settles O33: the session after an awaited CALREAD waits exactly when an entry of another slot is outstanding. -/
theorem calreadAndDeadlineFillTheCapture : Obligations.CalreadAndDeadlineFillTheCapture := by
  unfold Obligations.CalreadAndDeadlineFillTheCapture
  refine ⟨fun port raw x s hl syncing captures selected entry => ?awaited,
    fun port raw s hl h => exec_calRead_stray raw hl h,
    fun r f low high => candidate_offset_of_bounds low high,
    fun r f h => candidate_offset_of_out_of_bounds h, fun r f v h => candidate_gain_bounds h,
    fun d s hl captures deadline => ⟨fun reached => ?reached, fun early => ?early⟩⟩
  case awaited =>
    have waiting := State.fillCapture_waiting (hearProbe (slotOf port) s) (slotOf port)
      (candidate x.kind raw.toInt ((s.probe (slotOf port)).coeff x.range).offset)
    refine ⟨_, exec_calRead_awaited raw hl syncing selected
      (Session.awaits_iff.mpr ⟨captures, entry⟩), ?_⟩
    by_cases others : ∃ c ∈ s.registry.session.captures, c.slot ≠ slotOf port ∧ c.outstanding = true
    · rw [endCapture_of_waiting (waiting.mpr others)]
      have outstanding : ¬ ∀ c ∈ s.registry.session.captures,
          c.slot ≠ slotOf port → c.outstanding = false := by
        simpa using others
      exact ⟨rfl, selected, fun _ => ⟨captures, rfl, rfl⟩, fun last => absurd last outstanding,
        rfl, rfl, rfl, rfl, rfl, rfl, rfl, rfl⟩
    · rw [endCapture_of_ended (Bool.eq_false_iff.mpr (mt waiting.mp others))]
      exact ⟨rfl, selected, fun outstanding => absurd outstanding others, fun _ => ⟨rfl, rfl, rfl⟩,
        rfl, rfl, rfl, rfl, rfl, rfl, rfl, rfl⟩
  all_goals rw [exec_captureDeadline]
  case reached =>
    rw [if_pos ((State.captureDue_iff hl captures deadline).mpr reached), captureDeadlineEvent_eq]
  case early =>
    rw [if_neg (mt (State.captureDue_iff hl captures deadline).mp (Nat.not_le.mpr early))]

/-! ## Coefficients in use (R136, R138) -/

/-- The state with another Probe Table. -/
def State.withProbeTable (s : State) (p : Vector ProbeEntry 18) : State :=
  s.withRegistry { s.registry with probes := p }

/-- Steps that change the Probe Table alone change the Probe Table alone. -/
theorem foldl_probeTable {α : Type} (f : State → α → State)
    (h : ∀ t a, ∃ p, f t a = t.withProbeTable p) (l : List α) (s : State) :
    ∃ p, l.foldl f s = s.withProbeTable p := by
  refine foldl_keeps (fun t => ∃ p, t = s.withProbeTable p) f ?_ l s ⟨s.registry.probes, rfl⟩
  rintro t a ⟨p, rfl⟩
  obtain ⟨q, changed⟩ := h (s.withProbeTable p) a
  exact ⟨q, changed⟩

@[simp] theorem beginCalWrite_probe (w : CalWrite) (s : State) (n : Nat) :
    (beginCalWrite w s).probe n = s.probe n := (rfl)

/-! ## CAL ACCEPT (R136) -/

theorem mem_candidateSlots {n : Nat} {cs : List CaptureEntry} :
    n ∈ candidateSlots cs ↔ ∃ c ∈ cs, c.slot = n ∧ ∃ v, c.result = some (.candidate v) := by
  rw [candidateSlots, List.mem_filterMap]
  refine exists_congr fun c => and_congr_right fun _ => ?_
  rcases c with ⟨slot, outstanding, _ | v | reason⟩ <;> simp

section
variable {x : Selection} {c : CaptureEntry} {cs : List CaptureEntry} {n : Nat} {v : Int}

theorem putCandidate_probeTable (x : Selection) (c : CaptureEntry) (s : State) :
    ∃ p, putCandidate x c s = s.withProbeTable p := by
  unfold putCandidate
  split
  · exact ⟨_, rfl⟩
  · exact ⟨s.registry.probes, rfl⟩

theorem putCandidate_probe_of_candidate (result : c.result = some (.candidate v)) (low : 1 ≤ c.slot)
    (high : c.slot ≤ 18) (s : State) :
    (putCandidate x c s).probe c.slot
      = (s.probe c.slot).mapCoeff x.affected (fun k => k.put x.kind v) := by
  simp only [putCandidate, result]
  exact State.probe_mapProbe_same s c.slot _ low high

theorem putCandidate_probe_of_other (h : ∀ v, c.result = some (.candidate v) → c.slot ≠ n) (s : State) :
    (putCandidate x c s).probe n = s.probe n := by
  unfold putCandidate
  split
  · next v result => rw [State.probe_mapProbe, if_neg fun same => h v result same.1]
  · rfl

theorem foldl_putCandidate_probe_of_notMem (h : n ∉ candidateSlots cs) (s : State) :
    (cs.foldl (fun t c => putCandidate x c t) s).probe n = s.probe n := by
  refine List.foldlRecOn (motive := fun t : State => t.probe n = s.probe n) cs _ rfl
    fun t same c mem => ?_
  rw [putCandidate_probe_of_other (fun v result own => h ?_), same]
  exact mem_candidateSlots.mpr ⟨c, mem, own, v, result⟩

/-- Of entries of distinct slots, each candidate is put into use once. -/
theorem foldl_putCandidate_probe_of_mem (nodup : (cs.map CaptureEntry.slot).Nodup) (mem : c ∈ cs)
    (result : c.result = some (.candidate v)) (low : 1 ≤ c.slot) (high : c.slot ≤ 18) (s : State) :
    (cs.foldl (fun t c => putCandidate x c t) s).probe c.slot
      = (s.probe c.slot).mapCoeff x.affected (fun k => k.put x.kind v) := by
  obtain ⟨before, behind, rfl⟩ := List.append_of_mem mem
  have alone : ∀ d ∈ before ++ behind, d.slot ≠ c.slot := by
    rw [List.map_append, List.map_cons] at nodup
    obtain ⟨-, last, apart⟩ := List.nodup_append.mp nodup
    obtain ⟨unlike, -⟩ := List.nodup_cons.mp last
    intro d other
    rcases List.mem_append.mp other with earlier | later
    · exact apart _ (List.mem_map_of_mem earlier) _ List.mem_cons_self
    · exact fun same => unlike (same ▸ List.mem_map_of_mem later)
  have unset (ds : List CaptureEntry) (part : ds ⊆ before ++ behind) : c.slot ∉ candidateSlots ds := by
    intro set
    obtain ⟨d, other, same, -⟩ := mem_candidateSlots.mp set
    exact alone d (part other) same
  rw [List.foldl_append, List.foldl_cons,
    foldl_putCandidate_probe_of_notMem (unset behind (List.subset_append_right _ _)),
    putCandidate_probe_of_candidate result low high,
    foldl_putCandidate_probe_of_notMem (unset before (List.subset_append_left _ _))]

end

section
variable {x : Selection} {s : State}

theorem exec_calAccept (hs : s.serves = true) :
    exec (.calAccept (requestCrc 0x52 [])) s = .next (calAccept s).finish :=
  congrArg Host.Outcome.next (takeRequest_serves 0x52 [] calAccept hs)

theorem calAccept_of_not_held (h : s.registry.session.state ≠ .held) :
    calAccept s = refuse .state s := by
  unfold calAccept
  split
  · next held _ => exact absurd held h
  · rfl

/-- In HELD the answer turns on the candidates, then on the store. -/
theorem calAccept_of_held (held : s.registry.session.state = .held)
    (selected : s.registry.session.selection = some x) :
    calAccept s = if candidateSlots s.registry.session.captures = [] then refuse .invalid s
      else if s.store.state ≠ .idle then refuse .busy s
      else reply .accepted (acceptCandidates x s) := by
  simp [calAccept, held, selected, State.storeIdle]

end

/-- Settles O34: the candidates change the Probe Table alone, each at its own slot, before the write begins. -/
theorem calAcceptPutsCandidatesIntoUse : Obligations.CalAcceptPutsCandidatesIntoUse := by
  unfold Obligations.CalAcceptPutsCandidatesIntoUse
  intro s hs
  rw [exec_calAccept hs]
  refine ⟨fun x held selected => ?held, fun h => by rw [calAccept_of_not_held h, refuse_finish]⟩
  rw [calAccept_of_held held selected]
  refine ⟨fun found idle nodup => ?accepted, fun unfound => by rw [if_pos unfound, refuse_finish],
    fun found busy => by rw [if_neg found, if_pos busy, refuse_finish]⟩
  obtain ⟨p, table⟩ := foldl_probeTable (fun t c => putCandidate x c t)
    (fun t c => putCandidate_probeTable x c t) s.registry.session.captures s
  refine ⟨(beginCalWrite ⟨candidateSlots s.registry.session.captures, x.affected, .calibrated⟩
      (s.withProbeTable p)).answered ⟨.accepted, []⟩, ?_, fun c mem v result low high => ?_,
    fun n other => ?_, rfl, rfl, rfl, rfl, rfl, rfl, rfl, rfl, rfl, rfl, rfl⟩
  · rw [if_neg found, if_neg (not_not_intro idle), reply_finish, acceptCandidates, table]
  · rw [State.answered_probe, beginCalWrite_probe, ← table]
    exact foldl_putCandidate_probe_of_mem nodup mem result low high s
  · rw [State.answered_probe, beginCalWrite_probe, ← table]
    exact foldl_putCandidate_probe_of_notMem other s

/-! ## CAL REVERT (R138) -/

theorem ProbeEntry.mapCoeff_default (e : ProbeEntry) (r : RangeChoice) :
    e.mapCoeff r (fun _ => Coeff.default)
      = { e with
          coeffLow := if r = .high then e.coeffLow else ⟨0, 32768⟩
          coeffHigh := if r = .low then e.coeffHigh else ⟨0, 32768⟩ } := by
  cases r <;> rfl

/-- The chosen coefficients of every slot of a list are the defaults. -/
theorem foldl_revert_probe (r : RangeChoice) (l : List Nat) (nodup : l.Nodup)
    (slots : ∀ n ∈ l, 1 ≤ n ∧ n ≤ 18) (s : State) (n : Nat) :
    (l.foldl (fun t n => t.mapProbe n fun e => e.mapCoeff r fun _ => Coeff.default) s).probe n
      = if n ∈ l then (s.probe n).mapCoeff r (fun _ => Coeff.default) else s.probe n :=
  foldl_local (fun t n => t.mapProbe n fun e => e.mapCoeff r fun _ => Coeff.default) State.probe
    (fun _ e => e.mapCoeff r fun _ => Coeff.default) (fun _ => True) (fun _ _ _ => trivial) l nodup
    (fun t n mem _ => State.probe_mapProbe_same t n _ (slots n mem).1 (slots n mem).2)
    (fun t n k _ other => by rw [State.probe_mapProbe, if_neg fun same => other same.1]) s trivial n

section
variable {slots : BitVec 24} {ranges : Byte} {s : State}

theorem revertOf_of_code {r : RangeChoice} (hr : RangeChoice.ofCode ranges = some r)
    (chosen : slotsOf slots ≠ []) : revertOf slots ranges = some ⟨slotsOf slots, r, .default⟩ := by
  simp [revertOf, hr, chosen]

theorem revertOf_eq_none (h : RangeChoice.ofCode ranges = none ∨ slotsOf slots = []) :
    revertOf slots ranges = none := by
  rcases h with noRange | noSlot
  · simp [revertOf, noRange]
  · unfold revertOf
    split
    · exact if_pos noSlot
    · rfl

theorem exec_calRevert (hs : s.serves = true) :
    exec (.calRevert slots ranges (requestCrc 0x53 (threeBytes slots ++ [ranges]))) s
      = .next (calRevert slots ranges s).finish :=
  congrArg Host.Outcome.next (takeRequest_serves 0x53 (threeBytes slots ++ [ranges])
    (calRevert slots ranges) hs)

theorem calRevert_of_busySession (h : s.calibrates = false) :
    calRevert slots ranges s = refuse .state s := by
  simp [calRevert, h]

theorem calRevert_of_unspelt (h : s.calibrates = true) (unspelt : revertOf slots ranges = none) :
    calRevert slots ranges s = refuse .range s := by
  simp [calRevert, h, unspelt]

/-- What is spelt is answered by the store's state. -/
theorem calRevert_of_spelt (h : s.calibrates = true) {w : CalWrite}
    (spelt : revertOf slots ranges = some w) :
    calRevert slots ranges s = if s.store.state ≠ .idle then refuse .busy s
      else reply .accepted (revertCoefficients w s) := by
  simp [calRevert, h, spelt, State.storeIdle]

end

/-- Settles O35: the defaults change the Probe Table alone, at the slots of the set, before the write begins. -/
theorem calRevertRestoresDefaults : Obligations.CalRevertRestoresDefaults := by
  unfold Obligations.CalRevertRestoresDefaults
  intro slots ranges s hs
  rw [exec_calRevert hs]
  refine ⟨fun stopped rests => ⟨fun r hr chosen => ?spelt, fun unspelt => ?range⟩, fun busy => ?state⟩
  case state => rw [calRevert_of_busySession (State.not_calibrates busy), refuse_finish]
  all_goals have calibrates := State.calibrates_of_stopped stopped rests
  case range =>
    rw [calRevert_of_unspelt calibrates (revertOf_eq_none (unspelt.imp_right slotsOf_eq_nil)),
      refuse_finish]
  case spelt =>
    rw [calRevert_of_spelt calibrates (revertOf_of_code hr (slotsOf_ne_nil chosen))]
    refine ⟨fun idle => ?accepted, fun busy => by rw [if_pos busy, refuse_finish]⟩
    obtain ⟨p, table⟩ := foldl_probeTable
      (fun t n => t.mapProbe n fun e => e.mapCoeff r fun _ => Coeff.default)
      (fun _ _ => ⟨_, rfl⟩) (slotsOf slots) s
    refine ⟨(beginCalWrite ⟨slotsOf slots, r, .default⟩ (s.withProbeTable p)).answered ⟨.accepted, []⟩,
      ?_, fun n low high => ?_, rfl, rfl, rfl, rfl, rfl, rfl, rfl, rfl, rfl, rfl, rfl⟩
    · rw [if_neg (not_not_intro idle), reply_finish, revertCoefficients, table]
    · have reverted := foldl_revert_probe r (slotsOf slots) (slotsOf_nodup slots)
        (fun n mem => (mem_slotsOf.mp mem).1) s n
      rw [State.answered_probe, beginCalWrite_probe, ← table, reverted, ProbeEntry.mapCoeff_default]
      simp only [mem_slotsOf, low, high, and_self, true_and]

end Sys2Proof.Machine

/-! The result queues: what QUEUE STATUS, QUEUE POP, QUEUE FLUSH and SPOT LIST answer and change (R129, R150 to
R152), and what the router does with a record it is handed (R143 to R149). -/

namespace Sys2Proof.Machine

/-! ## Requests on a queue (R150 to R152) -/

theorem QueueId.ofByte_zero : QueueId.ofByte 0 = some .q0 := (rfl)

theorem QueueId.ofByte_one : QueueId.ofByte 1 = some .q1 := (rfl)

theorem QueueId.ofByte_of_one_lt {b : Byte} (h : 1 < b.toNat) : QueueId.ofByte b = none := by
  unfold QueueId.ofByte
  split
  · omega
  · omega
  · rfl

section
variable {command queue : Byte} {effect : QueueId → State → Reply} {s : State}

/-- A request on a queue of the part has its effect on that queue. -/
theorem takeRequest_onQueue_of_some {id : QueueId} (h : s.serves = true)
    (named : QueueId.ofByte queue = some id) :
    takeRequest command [queue] (requestCrc command [queue]) (onQueue queue effect) s
      = (effect id s).finish := by
  rw [takeRequest_serves _ _ _ h, onQueue, named]

/-- A number that names no queue is refused with RANGE. -/
theorem takeRequest_onQueue_of_none (h : s.serves = true) (unnamed : QueueId.ofByte queue = none) :
    takeRequest command [queue] (requestCrc command [queue]) (onQueue queue effect) s
      = s.answered ⟨.range, []⟩ := by
  rw [takeRequest_serves _ _ _ h, onQueue, unnamed, refuse_finish]

end

theorem exec_queuePop (queue crc : Byte) (s : State) :
    exec (.queuePop queue crc) s = .next (takeRequest 0x40 [queue] crc (onQueue queue popQueue) s) := by
  rfl

theorem exec_queueStatus (queue crc : Byte) (s : State) :
    exec (.queueStatus queue crc) s = .next (takeRequest 0x41 [queue] crc
      (onQueue queue fun id s => readOut (s.queueBytes id) s) s) := by
  rfl

theorem exec_queueFlush (queue crc : Byte) (s : State) :
    exec (.queueFlush queue crc) s
      = .next (takeRequest 0x42 [queue] crc (onQueue queue flushQueue) s) := by
  rfl

theorem exec_spotList (crc : Byte) (s : State) :
    exec (.spotList crc) s = .next (takeRequest 0x4A [] crc
      (fun s => readOut (spotListBytes s.spot) s) s) := by
  rfl

/-! ## QUEUE STATUS and SPOT LIST (R129, R152) -/

/-- Settles O9: both requests hand out encoded state, `queueBytes` and `spotListBytes`. -/
theorem queueStatusAndSpotListRead : Obligations.QueueStatusAndSpotListRead := by
  unfold Obligations.QueueStatusAndSpotListRead
  refine fun queue s hs => ⟨fun id named => ?status, fun unnamed => ?range, ?list⟩
  case status =>
    rw [exec_queueStatus, takeRequest_onQueue_of_some hs named, readOut_finish, State.queueBytes]
  case range => rw [exec_queueStatus, takeRequest_onQueue_of_none hs unnamed]
  case list => rw [exec_spotList, takeRequest_serves _ _ _ hs, readOut_finish, spotListBytes]

/-! ## QUEUE POP (R150, R189) -/

@[simp] theorem ResultRecord.encode_length (r : ResultRecord) : r.encode.length = 16 := by
  simp [ResultRecord.encode]

section
variable {id : QueueId} {s : State}

theorem popQueue_of_cons {r : ResultRecord} {rest : List ResultRecord}
    (h : (s.router.queue id).records = r :: rest) :
    popQueue id s
      = ⟨s.withRouter (s.router.setQueue id { s.router.queue id with records := rest }),
        ⟨.done, r.encode⟩⟩ := by
  rw [popQueue, h]; rfl

theorem popQueue_of_empty (h : (s.router.queue id).records = []) :
    popQueue id s = refuse .empty s := by
  rw [popQueue, h]

end

/-- Settles O11: a queue named by its number is popped by `popQueue`, along the two forms of its list. -/
theorem queuePopReturnsTheOldestRecord : Obligations.QueuePopReturnsTheOldestRecord := by
  unfold Obligations.QueuePopReturnsTheOldestRecord
  refine fun queue s hs => ⟨fun id r rest named records => ⟨?oldest, r.encode_length⟩,
    fun id named records => ?empty, fun outside => ?range⟩
  case oldest =>
    rw [exec_queuePop, takeRequest_onQueue_of_some hs named, popQueue_of_cons records, Reply.finish_mk]
  case empty =>
    rw [exec_queuePop, takeRequest_onQueue_of_some hs named, popQueue_of_empty records, refuse_finish]
  case range =>
    rw [exec_queuePop, takeRequest_onQueue_of_none hs (QueueId.ofByte_of_one_lt outside)]

/-! ## QUEUE FLUSH (R151) -/

theorem flushQueue_finish (id : QueueId) (s : State) :
    (flushQueue id s).finish
      = (s.withRouter (s.router.setQueue id ⟨[], 0, false⟩)).answered ⟨.done, []⟩ := (rfl)

/-- Settles O12: a queue named by its number is set to the empty queue. -/
theorem queueFlushEmptiesTheQueue : Obligations.QueueFlushEmptiesTheQueue := by
  unfold Obligations.QueueFlushEmptiesTheQueue
  refine fun queue s hs => ⟨fun zero => ?q0, fun one => ?q1, fun outside => ?range⟩
  case q0 =>
    subst zero
    rw [exec_queueFlush, takeRequest_onQueue_of_some hs QueueId.ofByte_zero, flushQueue_finish,
      ResultRouter.setQueue]
  case q1 =>
    subst one
    rw [exec_queueFlush, takeRequest_onQueue_of_some hs QueueId.ofByte_one, flushQueue_finish,
      ResultRouter.setQueue]
  case range =>
    rw [exec_queueFlush, takeRequest_onQueue_of_none hs (QueueId.ofByte_of_one_lt outside)]

/-! ## A record offered to a queue (R147, R148) -/

section
variable {q : ResultQueue}

theorem ResultQueue.offer_of_room (mode : QueueMode) (r : ResultRecord) (room : q.records.length < 64) :
    q.offer mode r = ({ q with records := q.records ++ [r] }, false) := if_pos room

/-- BLOCKING at a full queue loses the offered record. -/
theorem ResultQueue.offer_blocking_of_full (r : ResultRecord) (full : q.records.length = 64) :
    q.offer .blocking r = (q.lose r, true) :=
  if_neg (Nat.not_lt.mpr (Nat.le_of_eq full.symm))

/-- OVERWRITE at a full queue loses the oldest record and places the offered one. -/
theorem ResultQueue.offer_overwrite_of_full (r : ResultRecord) {oldest : ResultRecord}
    {rest : List ResultRecord} (full : q.records.length = 64) (records : q.records = oldest :: rest) :
    q.offer .overwrite r = (({ q with records := rest }.lose oldest).place r, true) := by
  refine (if_neg (Nat.not_lt.mpr (Nat.le_of_eq full.symm))).trans ?_
  rw [records]

end

/-! ## The route of a record (R145) -/

section
variable {p : Plan} {r : ResultRecord}

theorem routeOf_of_match {i : Nat} (h : firstMatch p r = some i) : routeOf p r = (p.filter i).action := by
  rw [routeOf, h]

theorem routeOf_of_unmatched (h : firstMatch p r = none) : routeOf p r = p.params.unmatched.action := by
  rw [routeOf, h]

end

/-! ## Flags raised on a condition (R180) -/

/-- The port with a flag raised when a condition holds. -/
def StationPort.raiseIf (c : Bool) (f : Flag) (p : StationPort) : StationPort :=
  if c then p.raise f else p

theorem raiseIf_eq_withPort (c : Bool) (f : Flag) (s : State) :
    raiseIf c f s = s.withPort (s.port.raiseIf c f) := by
  cases c <;> rfl

theorem StationPort.isSet_raiseIf (c : Bool) (f g : Flag) (p : StationPort) :
    (p.raiseIf c g).isSet f = (p.isSet f || (c && f == g)) := by
  cases c
  · simp [StationPort.raiseIf]
  · simp [StationPort.raiseIf, StationPort.isSet_raise]

/-- Raising a flag moves the flags of the port alone. -/
theorem StationPort.raiseIf_eq (c : Bool) (f : Flag) (p : StationPort) :
    p.raiseIf c f = { p with flags := (p.raiseIf c f).flags } := by
  cases c <;> rfl

/-! ## A record handed to the router (R146, R148, R149) -/

/-- The action leads a record into the queue `id`, with or without urgency (R146). -/
def FilterAction.LeadsTo (a : FilterAction) (id : QueueId) (urgent : Bool) : Prop :=
  (a = .toQ0 ∧ id = .q0 ∧ urgent = false) ∨ (a = .toQ1 ∧ id = .q1 ∧ urgent = false)
    ∨ (a = .urgentQ0 ∧ id = .q0 ∧ urgent = true) ∨ (a = .urgentQ1 ∧ id = .q1 ∧ urgent = true)

/-- The record as it enters a queue: with its filter index, and urgent under an urgent action (R145, R146). -/
def ResultRecord.marked (r : ResultRecord) (p : Plan) (urgent : Bool) : ResultRecord :=
  { r with filter := firstMatch p r, urgent := urgent || r.urgent }

/-- The flags that an offer of a routed record raises: its urgency, a loss, and the watermark reached by a
placement; `after` is what the offer makes of the queue `id` (R146, R148, R149). -/
def StationPort.afterOffer (p : StationPort) (id : QueueId) (watermark : Nat) (urgent : Bool)
    (after : ResultQueue × Bool) : StationPort :=
  ((p.raiseIf urgent .verdictUrgent).raiseIf after.2 .qLost).raiseIf
    (!after.2 && after.1.records.length == watermark) id.levelFlag

theorem StationPort.afterOffer_isSet (p : StationPort) (id : QueueId) (watermark : Nat) (urgent : Bool)
    (after : ResultQueue × Bool) (f : Flag) :
    (p.afterOffer id watermark urgent after).isSet f
      = (p.isSet f || (urgent && f == .verdictUrgent) || (after.2 && f == .qLost)
        || (!after.2 && f == id.levelFlag && after.1.records.length == watermark)) := by
  simp only [StationPort.afterOffer, StationPort.isSet_raiseIf, Bool.and_right_comm]

theorem StationPort.afterOffer_eq (p : StationPort) (id : QueueId) (watermark : Nat) (urgent : Bool)
    (after : ResultQueue × Bool) :
    p.afterOffer id watermark urgent after
      = { p with flags := (p.afterOffer id watermark urgent after).flags } := by
  rw [StationPort.afterOffer, StationPort.raiseIf_eq, StationPort.raiseIf_eq after.2,
    StationPort.raiseIf_eq urgent]

/-- An offer, with or without urgency raised before, changes the queue and the port's flags. -/
theorem offer_raiseIf (id : QueueId) (urgent : Bool) (r : ResultRecord) (s : State) :
    offer id r (raiseIf urgent .verdictUrgent s)
      = (s.withRouter (s.router.setQueue id ((s.router.queue id).offer (s.params.mode id) r).1)).withPort
        (s.port.afterOffer id (s.params.watermark id) urgent
          ((s.router.queue id).offer (s.params.mode id) r)) := by
  rw [offer, raiseIf_eq_withPort urgent, raiseIf_eq_withPort, raiseIf_eq_withPort]
  rfl

section
variable {r : ResultRecord} {s : State}

theorem hand_of_discard (h : routeOf s.active r = .discard) : hand r s = s := by
  rw [hand, h]

/-- A routed record is offered to its queue, its urgency raised before. -/
theorem hand_eq_offer {id : QueueId} {urgent : Bool} (h : (routeOf s.active r).LeadsTo id urgent) :
    hand r s = offer id (r.marked s.active urgent) (raiseIf urgent .verdictUrgent s) := by
  rcases h with ⟨route, rfl, rfl⟩ | ⟨route, rfl, rfl⟩ | ⟨route, rfl, rfl⟩ | ⟨route, rfl, rfl⟩
  all_goals rw [hand, route]; rfl

end

/-- Settles O13: an offer is made by `ResultQueue.offer`'s three cases, an element matches by
`FilterElement.isMatch_iff`, and a record handed is discarded or offered to the queue its route leads to. -/
theorem fullQueueLosesOneRecord : Obligations.FullQueueLosesOneRecord := by
  unfold Obligations.FullQueueLosesOneRecord
  refine ⟨fun q mode r => ⟨ResultQueue.offer_of_room mode r, fun full =>
      ⟨ResultQueue.offer_blocking_of_full r full,
        fun _ _ records => ResultQueue.offer_overwrite_of_full r full records⟩⟩,
    FilterElement.isMatch_iff,
    fun p r => ⟨firstMatch_eq_some p r, fun _ => routeOf_of_match, fun unmatched => ?unmatched⟩,
    fun r s => ⟨hand_of_discard, fun id urgent route => ?routed⟩⟩
  case unmatched => rw [routeOf_of_unmatched unmatched]; rfl
  case routed =>
    have handed := (hand_eq_offer route).trans (offer_raiseIf id urgent (r.marked s.active urgent) s)
    have port := congrArg State.port handed
    refine ⟨_, rfl, ?state, fun f => ?flags, ?frame⟩
    case state => rw [port]; exact handed
    case flags => rw [port]; exact StationPort.afterOffer_isSet ..
    case frame => rw [port]; exact StationPort.afterOffer_eq ..

end Sys2Proof.Machine

/-! Editing and applying the plan: what the requests on the shadow and on the active plan answer and change
(R157 to R165), and how a written part of a plan reads back (R188). -/

namespace Sys2Proof.Machine

/-! ## SHADOW READ and ACTIVE READ (R158) -/

section
variable {target : Byte} {index : Half} {s : State}

theorem exec_shadowRead (target : Byte) (index : Half) (hs : s.serves = true) :
    exec (.shadowRead target index (requestCrc 0x11 (target :: halfBytes index))) s
      = .next (shadowRead target index s).finish :=
  congrArg Host.Outcome.next (takeRequest_serves 0x11 _ (shadowRead target index) hs)

theorem exec_activeRead (target : Byte) (index : Half) (hs : s.serves = true) :
    exec (.activeRead target index (requestCrc 0x12 (target :: halfBytes index))) s
      = .next (activeRead target index s).finish :=
  congrArg Host.Outcome.next (takeRequest_serves 0x12 _ (activeRead target index) hs)

theorem shadowRead_of_loading (h : s.loading = true) : shadowRead target index s = refuse .busy s :=
  if_pos h

theorem shadowRead_of_some {x : Target} (h : s.loading = false)
    (named : Target.ofCode target index = some x) :
    shadowRead target index s = readOut (s.plans.shadow.read x) s := by
  rw [shadowRead, h, named]; rfl

theorem shadowRead_of_none (h : s.loading = false) (unnamed : Target.ofCode target index = none) :
    shadowRead target index s = refuse .range s := by
  rw [shadowRead, h, unnamed]; rfl

theorem activeRead_of_some {x : Target} (named : Target.ofCode target index = some x) :
    activeRead target index s = readOut (s.activeBytes x) s := by
  rw [activeRead, named]

theorem activeRead_of_none (unnamed : Target.ofCode target index = none) :
    activeRead target index s = refuse .range s := by
  rw [activeRead, unnamed]

end

/-- Settles O10: each read follows the part that the target names, SHADOW READ behind its check for a LOAD. -/
theorem planReadsReturnOnePart : Obligations.PlanReadsReturnOnePart := by
  unfold Obligations.PlanReadsReturnOnePart
  refine fun target index s hs => ⟨fun x named => ⟨?active, fun free => ?shadow⟩, fun loading => ?busy,
    fun unnamed => ⟨?activeRange, fun free => ?shadowRange⟩⟩
  case active => rw [exec_activeRead _ _ hs, activeRead_of_some named, readOut_finish]
  case shadow => rw [exec_shadowRead _ _ hs, shadowRead_of_some free named, readOut_finish]
  case busy => rw [exec_shadowRead _ _ hs, shadowRead_of_loading loading, refuse_finish]
  case activeRange => rw [exec_activeRead _ _ hs, activeRead_of_none unnamed, refuse_finish]
  case shadowRange => rw [exec_shadowRead _ _ hs, shadowRead_of_none free unnamed, refuse_finish]

/-! ## SHADOW WRITE (R157) -/

section
variable {target : Byte} {index : Half} {s : State}

theorem exec_shadowWrite (target : Byte) (index : Half) (content : Vector Byte 48) (hs : s.serves = true) :
    exec (.shadowWrite target index content
        (requestCrc 0x10 (target :: halfBytes index ++ content.toList))) s
      = .next (shadowWrite target index content.toList s).finish :=
  congrArg Host.Outcome.next (takeRequest_serves 0x10 _ (shadowWrite target index content.toList) hs)

variable {content : List Byte}

theorem shadowWrite_of_loading (h : s.loading = true) :
    shadowWrite target index content s = refuse .busy s :=
  if_pos h

theorem shadowWrite_of_held (h : s.loading = false) (held : s.plans.applyPending = true) :
    shadowWrite target index content s = refuse .held s := by
  rw [shadowWrite, h, held]; rfl

theorem shadowWrite_of_some {p : Plan} (h : s.loading = false) (released : s.plans.applyPending = false)
    (written : s.shadowWritten target index content = some p) :
    shadowWrite target index content s = reply .done (s.withPlans { s.plans with shadow := p }) := by
  rw [shadowWrite, h, released, written]; rfl

theorem shadowWrite_of_none (h : s.loading = false) (released : s.plans.applyPending = false)
    (unwritten : s.shadowWritten target index content = none) :
    shadowWrite target index content s = refuse .range s := by
  rw [shadowWrite, h, released, unwritten]; rfl

theorem State.shadowWritten_of_target {x : Target} (named : Target.ofCode target index = some x) :
    s.shadowWritten target index content = s.plans.shadow.write x content := by
  rw [State.shadowWritten, named]

end

/-- Settles O14: the request is followed through its checks in the order of R157. -/
theorem shadowWriteReplacesOnePart : Obligations.ShadowWriteReplacesOnePart := by
  unfold Obligations.ShadowWriteReplacesOnePart
  refine fun target index content s hs => ⟨fun x p free released named written => ?done,
    fun loading => ?busy, fun free held => ?held, fun free released unwritten => ?range⟩
  case done =>
    have written' := (State.shadowWritten_of_target named).trans written
    rw [exec_shadowWrite _ _ _ hs, shadowWrite_of_some free released written', reply_finish]
  case busy => rw [exec_shadowWrite _ _ _ hs, shadowWrite_of_loading loading, refuse_finish]
  case held => rw [exec_shadowWrite _ _ _ hs, shadowWrite_of_held free held, refuse_finish]
  case range => rw [exec_shadowWrite _ _ _ hs, shadowWrite_of_none free released unwritten, refuse_finish]

/-! ## A written part read back (R157, R158, R188)

The codes of an enumerated field name one value each, so that its byte is the one it was decoded from. -/

section
variable {b : Byte}

theorem TimingKind.toByte_of_ofCode {x : TimingKind} (h : TimingKind.ofCode b = some x) : x.toByte = b := by
  unfold TimingKind.ofCode at h
  split at h <;> cases h <;> exact BitVec.eq_of_toNat_eq (Eq.symm ‹_›)

theorem Form.toByte_of_ofCode {x : Form} (h : Form.ofCode b = some x) : x.toByte = b := by
  unfold Form.ofCode at h
  split at h <;> cases h <;> exact BitVec.eq_of_toNat_eq (Eq.symm ‹_›)

theorem Stimulus.toByte_of_ofCode {x : Stimulus} (h : Stimulus.ofCode b = some x) : x.toByte = b := by
  unfold Stimulus.ofCode at h
  split at h <;> cases h <;> exact BitVec.eq_of_toNat_eq (Eq.symm ‹_›)

theorem RepeatRule.toByte_of_ofCode {x : RepeatRule} (h : RepeatRule.ofCode b = some x) : x.toByte = b := by
  unfold RepeatRule.ofCode at h
  split at h <;> cases h <;> exact BitVec.eq_of_toNat_eq (Eq.symm ‹_›)

theorem LinkKind.toByte_of_ofCode {x : LinkKind} (h : LinkKind.ofCode b = some x) : x.toByte = b := by
  unfold LinkKind.ofCode at h
  split at h <;> cases h <;> exact BitVec.eq_of_toNat_eq (Eq.symm ‹_›)

theorem Measure.toByte_of_ofCode {x : Measure} (h : Measure.ofCode b = some x) : x.toByte = b := by
  unfold Measure.ofCode at h
  split at h <;> cases h <;> exact BitVec.eq_of_toNat_eq (Eq.symm ‹_›)

theorem Format.toByte_of_ofCode {x : Format} (h : Format.ofCode b = some x) : x.toByte = b := by
  unfold Format.ofCode at h
  split at h <;> cases h <;> exact BitVec.eq_of_toNat_eq (Eq.symm ‹_›)

theorem ProbeRange.toByte_of_ofCode {x : ProbeRange} (h : ProbeRange.ofCode b = some x) : x.toByte = b := by
  unfold ProbeRange.ofCode at h
  split at h <;> cases h <;> exact BitVec.eq_of_toNat_eq (Eq.symm ‹_›)

theorem FilterType.toByte_of_ofCode {x : FilterType} (h : FilterType.ofCode b = some x) : x.toByte = b := by
  unfold FilterType.ofCode at h
  split at h <;> cases h <;> exact BitVec.eq_of_toNat_eq (Eq.symm ‹_›)

theorem FilterAction.toByte_of_ofCode {x : FilterAction} (h : FilterAction.ofCode b = some x) : x.toByte = b := by
  unfold FilterAction.ofCode at h
  split at h <;> cases h <;> exact BitVec.eq_of_toNat_eq (Eq.symm ‹_›)

theorem ParkMode.toByte_of_ofCode {x : ParkMode} (h : ParkMode.ofCode b = some x) : x.toByte = b := by
  unfold ParkMode.ofCode at h
  split at h <;> cases h <;> exact BitVec.eq_of_toNat_eq (Eq.symm ‹_›)

theorem Route.toByte_of_ofCode {x : Route} (h : Route.ofCode b = some x) : x.toByte = b := by
  unfold Route.ofCode at h
  split at h <;> cases h <;> exact BitVec.eq_of_toNat_eq (Eq.symm ‹_›)

theorem QueueMode.toByte_of_ofCode {x : QueueMode} (h : QueueMode.ofCode b = some x) : x.toByte = b := by
  unfold QueueMode.ofCode at h
  split at h <;> cases h <;> exact BitVec.eq_of_toNat_eq (Eq.symm ‹_›)

/-- A byte coded 0 or 1 is the byte its value was decoded from. -/
theorem boolByte_of_boolOfCode {x : Bool} (h : boolOfCode b = some x) : boolByte x = b := by
  unfold boolOfCode at h
  split at h <;> cases h <;> exact BitVec.eq_of_toNat_eq (Eq.symm ‹_›)

end

theorem halfBytes_halfAt (bs : List Byte) (i : Nat) :
    halfBytes (halfAt bs i) = [byteAt bs i, byteAt bs (i + 1)] := by
  have high : (halfAt bs i).extractLsb' 8 8 = byteAt bs i := BitVec.extractLsb'_append_eq_left
  have low : (halfAt bs i).extractLsb' 0 8 = byteAt bs (i + 1) := BitVec.extractLsb'_append_eq_right
  rw [halfBytes, high, low]

/-- Cutting a byte to its low bits clears the others. -/
theorem setWidth_setWidth_eq_and (b : Byte) (n : Nat) :
    (b.setWidth n).setWidth 8 = b &&& (BitVec.allOnes n).setWidth 8 := by
  ext i hi
  simp [Bool.and_comm, hi]

theorem threeBytes_append (a b c : Byte) : threeBytes (a ++ b ++ c) = [a, b, c] := by
  have high : (a ++ b ++ c).extractLsb' 16 8 = a := by
    rw [BitVec.append_assoc]
    exact BitVec.extractLsb'_append_eq_left (a := a) (b := b ++ c)
  have mid : (a ++ b ++ c).extractLsb' 8 8 = b := by
    rw [BitVec.extractLsb'_append_eq_of_le (Nat.le_refl 8)]
    exact BitVec.extractLsb'_append_eq_right
  have low : (a ++ b ++ c).extractLsb' 0 8 = c := BitVec.extractLsb'_append_eq_right
  simp only [threeBytes, high, mid, low]

/-- Eighteen bits of three bytes leave out the high six bits of the first. -/
theorem setWidth_slotSet (a b c : Byte) :
    ((a ++ b ++ c).setWidth (2 + 8 + 8)).setWidth (8 + 8 + 8) = (a &&& 0x03) ++ b ++ c := by
  have low : (a.setWidth 2).setWidth 8 = a &&& 0x03 := setWidth_setWidth_eq_and a 2
  simp only [BitVec.setWidth_append_of_eq, BitVec.setWidth_eq, low]

theorem threeBytes_slotSetAt (bs : List Byte) (i : Nat) :
    threeBytes ((slotSetAt bs i).setWidth 24)
      = [byteAt bs i &&& 0x03, byteAt bs (i + 1), byteAt bs (i + 2)] :=
  (congrArg threeBytes (setWidth_slotSet ..)).trans (threeBytes_append ..)

/-- The bytes at the `n` places from `k` on. -/
theorem map_byteAt_range' {bs : List Byte} {k n : Nat} (h : k + n ≤ bs.length) :
    (List.range' k n).map (byteAt bs) = (bs.drop k).take n := by
  apply List.ext_getElem
  · simp; omega
  · intro i hi _
    have inside : k + i < bs.length := by simp at hi; omega
    simp [byteAt, inside]

section
variable {bs : List Byte}

theorem StepEntry.encode_of_decode {e : StepEntry} (h : StepEntry.decode bs = some e) :
    e.encode = (List.range' 0 48).map (byteAt bs) := by
  simp only [StepEntry.decode, Option.bind_eq_bind, Option.bind_eq_some_iff, Option.pure_def,
    Option.some.injEq] at h
  obtain ⟨kind, hkind, form, hform, stimulus, hstimulus, rule, hrule, log, hlog, rfl⟩ := h
  simp [StepEntry.encode, TimingKind.toByte_of_ofCode hkind, Form.toByte_of_ofCode hform,
    Stimulus.toByte_of_ofCode hstimulus, RepeatRule.toByte_of_ofCode hrule, boolByte_of_boolOfCode hlog,
    halfBytes_halfAt, contenderAt, quietAt, List.range'_succ]

theorem LinkDef.encode_of_decode {d : LinkDef} (h : LinkDef.decode bs = some d) :
    d.encode = (List.range' 0 27).map (byteAt bs) := by
  simp only [LinkDef.decode, Option.bind_eq_bind, Option.bind_eq_some_iff, Option.pure_def,
    Option.some.injEq] at h
  obtain ⟨defined, hdefined, kind, hkind, rfl⟩ := h
  simp [LinkDef.encode, boolByte_of_boolOfCode hdefined, LinkKind.toByte_of_ofCode hkind,
    halfBytes_halfAt, List.range'_succ]

theorem ClassDef.encode_of_decode {c : ClassDef} (h : ClassDef.decode bs = some c) :
    c.encode = (List.range' 0 14).map (byteAt bs) := by
  simp only [ClassDef.decode, Option.bind_eq_bind, Option.bind_eq_some_iff, Option.pure_def,
    Option.some.injEq] at h
  obtain ⟨defined, hdefined, measure, hmeasure, format, hformat, range, hrange, rfl⟩ := h
  simp [ClassDef.encode, boolByte_of_boolOfCode hdefined, Measure.toByte_of_ofCode hmeasure,
    Format.toByte_of_ofCode hformat, ProbeRange.toByte_of_ofCode hrange, halfBytes_halfAt,
    List.range'_succ]

theorem FilterElement.encode_of_decode {f : FilterElement} (h : FilterElement.decode bs = some f) :
    f.encode = (List.range' 0 7).map (byteAt bs) ++ [byteAt bs 7 &&& 0x3F, byteAt bs 8] := by
  simp only [FilterElement.decode, Option.bind_eq_bind, Option.bind_eq_some_iff, Option.pure_def,
    Option.some.injEq] at h
  obtain ⟨type, htype, action, haction, rfl⟩ := h
  have kinds : ((byteAt bs 7).setWidth 6).setWidth 8 = byteAt bs 7 &&& 0x3F :=
    setWidth_setWidth_eq_and (byteAt bs 7) 6
  simp [FilterElement.encode, FilterType.toByte_of_ofCode htype, FilterAction.toByte_of_ofCode haction,
    halfBytes_halfAt, kinds, List.range'_succ]

theorem Params.encode_of_decode {q : Params} (h : Params.decode bs = some q) :
    q.encode = (List.range' 0 13).map (byteAt bs) ++ [byteAt bs 13 &&& 0x03]
      ++ (List.range' 14 7).map (byteAt bs) := by
  simp only [Params.decode, Option.bind_eq_bind, Option.bind_eq_some_iff, Option.pure_def,
    Option.some.injEq] at h
  obtain ⟨parkMode, hpark, unmatched, hunmatched, q0Mode, hq0, q1Mode, hq1, rfl⟩ := h
  simp [Params.encode, ParkMode.toByte_of_ofCode hpark, Route.toByte_of_ofCode hunmatched,
    QueueMode.toByte_of_ofCode hq0, QueueMode.toByte_of_ofCode hq1, halfBytes_halfAt,
    threeBytes_slotSetAt, List.range'_succ]

end

section
variable {p p' : Plan} {bs : List Byte} {i : Nat}

theorem Plan.write_params (h : p.write .params bs = some p') :
    ∃ q, Params.decode bs = some q ∧ p' = { p with params := q } := by
  obtain ⟨q, decoded, rfl⟩ := Option.map_eq_some_iff.1 h
  exact ⟨q, decoded, rfl⟩

theorem Plan.write_step (h : p.write (.step i) bs = some p') :
    ∃ e, StepEntry.decode bs = some e ∧ p' = { p with steps := Tab.put p.steps i e } := by
  obtain ⟨e, decoded, rfl⟩ := Option.map_eq_some_iff.1 h
  exact ⟨e, decoded, rfl⟩

theorem Plan.write_link (h : p.write (.link i) bs = some p') :
    ∃ d, LinkDef.decode bs = some d ∧ p' = { p with links := Tab.put p.links i d } := by
  obtain ⟨d, decoded, rfl⟩ := Option.map_eq_some_iff.1 h
  exact ⟨d, decoded, rfl⟩

theorem Plan.write_cls (h : p.write (.cls i) bs = some p') :
    ∃ c, ClassDef.decode bs = some c ∧ p' = { p with classes := Tab.put p.classes i c } := by
  obtain ⟨c, decoded, rfl⟩ := Option.map_eq_some_iff.1 h
  exact ⟨c, decoded, rfl⟩

theorem Plan.write_filter (h : p.write (.filter i) bs = some p') :
    ∃ f, FilterElement.decode bs = some f ∧ p' = { p with filters := Tab.put p.filters i f } := by
  obtain ⟨f, decoded, rfl⟩ := Option.map_eq_some_iff.1 h
  exact ⟨f, decoded, rfl⟩

/-- A write leaves every other part: another kind of part is a field it does not touch, another index of the
same kind is another entry of its table. -/
theorem Plan.read_write_other {x y : Target} (h : p.write x bs = some p') (other : y ≠ x) :
    p'.read y = p.read y := by
  cases x with
  | params =>
    obtain ⟨q, -, rfl⟩ := Plan.write_params h
    cases y with
    | params => exact absurd rfl other
    | step _ | link _ | cls _ | filter _ => rfl
  | step i =>
    obtain ⟨e, -, rfl⟩ := Plan.write_step h
    cases y with
    | step j => exact congrArg StepEntry.encode (Tab.get_put_ne _ _ _ fun same => other (same ▸ rfl))
    | params | link _ | cls _ | filter _ => rfl
  | link i =>
    obtain ⟨d, -, rfl⟩ := Plan.write_link h
    cases y with
    | link j => exact congrArg LinkDef.encode (Tab.get_put_ne _ _ _ fun same => other (same ▸ rfl))
    | params | step _ | cls _ | filter _ => rfl
  | cls i =>
    obtain ⟨c, -, rfl⟩ := Plan.write_cls h
    cases y with
    | cls j => exact congrArg ClassDef.encode (Tab.get_put_ne _ _ _ fun same => other (same ▸ rfl))
    | params | step _ | link _ | filter _ => rfl
  | filter i =>
    obtain ⟨f, -, rfl⟩ := Plan.write_filter h
    cases y with
    | filter j => exact congrArg FilterElement.encode (Tab.get_put_ne _ _ _ fun same => other (same ▸ rfl))
    | params | step _ | link _ | cls _ => rfl

theorem Plan.read_write_step (h : p.write (.step i) bs = some p') (hi : i < 512) :
    p'.read (.step i) = (List.range' 0 48).map (byteAt bs) := by
  obtain ⟨e, decoded, rfl⟩ := Plan.write_step h
  exact (congrArg StepEntry.encode (Tab.get_put_same _ p.steps i e hi)).trans
    (StepEntry.encode_of_decode decoded)

theorem Plan.read_write_link (h : p.write (.link i) bs = some p') (hi : i < 512) :
    p'.read (.link i) = (List.range' 0 27).map (byteAt bs) := by
  obtain ⟨d, decoded, rfl⟩ := Plan.write_link h
  exact (congrArg LinkDef.encode (Tab.get_put_same _ p.links i d hi)).trans
    (LinkDef.encode_of_decode decoded)

theorem Plan.read_write_cls (h : p.write (.cls i) bs = some p') (hi : i < 32) :
    p'.read (.cls i) = (List.range' 0 14).map (byteAt bs) := by
  obtain ⟨c, decoded, rfl⟩ := Plan.write_cls h
  exact (congrArg ClassDef.encode (Tab.get_put_same _ p.classes i c hi)).trans
    (ClassDef.encode_of_decode decoded)

theorem Plan.read_write_filter (h : p.write (.filter i) bs = some p') (hi : i < 32) :
    p'.read (.filter i)
      = (List.range' 0 7).map (byteAt bs) ++ [byteAt bs 7 &&& 0x3F, byteAt bs 8] := by
  obtain ⟨f, decoded, rfl⟩ := Plan.write_filter h
  exact (congrArg FilterElement.encode (Tab.get_put_same _ p.filters i f hi)).trans
    (FilterElement.encode_of_decode decoded)

theorem Plan.read_write_params (h : p.write .params bs = some p') :
    p'.read .params = (List.range' 0 13).map (byteAt bs) ++ [byteAt bs 13 &&& 0x03]
      ++ (List.range' 14 7).map (byteAt bs) := by
  obtain ⟨q, decoded, rfl⟩ := Plan.write_params h
  exact Params.encode_of_decode decoded

end

/-- Settles O15: each part's layout writes out again the bytes it was decoded from, place by place, and these
are the content's. -/
theorem writtenPartReadsBack : Obligations.WrittenPartReadsBack := by
  unfold Obligations.WrittenPartReadsBack
  intro p p' x bs size written
  have first {n : Nat} (hn : n ≤ 48) : (List.range' 0 n).map (byteAt bs) = bs.take n :=
    map_byteAt_range' (by omega)
  refine ⟨?step, ?link, ?cls, ?filter, ?params, fun y => Plan.read_write_other written⟩
  case step =>
    rintro i hi rfl
    rw [Plan.read_write_step written hi, first (by decide), List.take_of_length_le (Nat.le_of_eq size)]
  case link => rintro i hi rfl; rw [Plan.read_write_link written hi, first (by decide)]
  case cls => rintro i hi rfl; rw [Plan.read_write_cls written hi, first (by decide)]
  case filter => rintro i hi rfl; rw [Plan.read_write_filter written hi, first (by decide)]
  case params =>
    rintro rfl
    rw [Plan.read_write_params written, first (by decide), map_byteAt_range' (by omega)]

/-! ## SHADOW CLEAR and the empty plan (R20, R159, R177) -/

/-- A request other than STATUS READ and CAPABILITY READ is refused while the store is STARTING (R179). -/
theorem takeRequest_of_starting (command : Byte) (params : List Byte) (effect : State → Reply) {s : State}
    (hs : s.listens = true) (starting : s.starting = true) :
    takeRequest command params (requestCrc command params) effect s = s.answered ⟨.busy, []⟩ := by
  rw [takeRequest, takeAlways_checks _ _ _ hs, if_pos starting, refuse_finish]

section
variable {s : State}

theorem exec_shadowClear (hs : s.serves = true) :
    exec (.shadowClear (requestCrc 0x13 [])) s = .next (shadowClear s).finish :=
  congrArg Host.Outcome.next (takeRequest_serves 0x13 [] shadowClear hs)

theorem exec_shadowClear_of_starting (hs : s.listens = true) (starting : s.starting = true) :
    exec (.shadowClear (requestCrc 0x13 [])) s = .next (s.answered ⟨.busy, []⟩) :=
  congrArg Host.Outcome.next (takeRequest_of_starting 0x13 [] shadowClear hs starting)

theorem shadowClear_of_loading (h : s.loading = true) : shadowClear s = refuse .busy s :=
  if_pos h

theorem shadowClear_of_held (h : s.loading = false) (held : s.plans.applyPending = true) :
    shadowClear s = refuse .held s := by
  rw [shadowClear, h, held]; rfl

theorem shadowClear_of_released (h : s.loading = false) (released : s.plans.applyPending = false) :
    shadowClear s = reply .done (s.withPlans { s.plans with shadow := Plan.empty }) := by
  rw [shadowClear, h, released]; rfl

end

theorem Plan.empty_step (i : Nat) : Plan.empty.step i = StepEntry.cleared := Tab.get_replicate_same _ i

theorem Plan.empty_link (id : Nat) : Plan.empty.link id = LinkDef.undefined := Tab.get_replicate_same _ id

theorem Plan.empty_cls (i : Nat) : Plan.empty.cls i = ClassDef.undefined := Tab.get_replicate_same _ i

theorem Plan.empty_filter (i : Nat) : Plan.empty.filter i = FilterElement.off := Tab.get_replicate_same _ i

/-- Only a step or a defined link names a slot, so a plan with plan slots has one (R20). -/
theorem Plan.names_of_mem_planSlots {p : Plan} {n : Nat} (h : n ∈ p.planSlots) :
    0 < p.count ∨ ∃ id, (p.link id).defined = true := by
  have named : n ∈ p.namedSlots := by simpa using (List.mem_filter.1 h).2
  rcases List.mem_append.1 named with byStep | byLink
  · obtain ⟨e, test, -⟩ := List.mem_flatMap.1 byStep
    have step : e ∈ p.stepList := (List.mem_filter.1 test).1
    exact .inl (Nat.pos_of_ne_zero fun zero => by simp [Plan.stepList, zero] at step)
  · obtain ⟨d, link, -⟩ := List.mem_flatMap.1 byLink
    obtain ⟨entry, defined⟩ := List.mem_filter.1 link
    obtain ⟨id, hid, rfl⟩ := List.mem_iff_getElem.1 entry
    have inside : id < 512 := by simpa using hid
    have same : p.link id = p.links.toList[id] := by simp [Plan.link, Tab.get, inside]
    exact .inr ⟨id, same ▸ defined⟩

theorem Plan.empty_planSlots : Plan.empty.planSlots = [] := by
  refine List.eq_nil_iff_forall_not_mem.2 fun n named => ?_
  rcases Plan.names_of_mem_planSlots named with steps | ⟨id, defined⟩
  · exact absurd steps (by decide)
  · rw [Plan.empty_link] at defined
    exact absurd defined (by decide)

theorem Plan.quorumInRange_iff (p : Plan) :
    p.quorumInRange = true ↔ 1 ≤ p.params.quorum.toNat ∧ p.params.quorum.toNat ≤ p.planSlots.length := by
  simp [Plan.quorumInRange, between]

/-- Validation's last check (R162). -/
theorem Plan.quorumInRange_of_valid {p : Plan} {generation : Nat} (h : p.validate generation = none) :
    p.quorumInRange = true := by
  unfold Plan.validate at h
  split at h
  · cases h
  · simp only [Option.or_eq_none_iff] at h
    obtain ⟨-, -, -, -, quorum⟩ := h
    refine Bool.of_not_eq_false fun outside => ?_
    rw [outside] at quorum
    cases quorum

/-- A quorum in range leaves room for no plan without plan slots (R20, R162). -/
theorem Plan.planSlots_ne_nil_of_valid {p : Plan} {generation : Nat} (h : p.validate generation = none) :
    p.planSlots ≠ [] := by
  obtain ⟨low, high⟩ := p.quorumInRange_iff.1 (Plan.quorumInRange_of_valid h)
  exact List.ne_nil_of_length_pos (Nat.le_trans low high)

/-- Settles O17: the request is followed through its checks, the empty plan read through its tables of one
value, and a valid plan's slots come from its last check, the quorum's. -/
theorem shadowClearEmptiesTheShadow : Obligations.ShadowClearEmptiesTheShadow := by
  unfold Obligations.ShadowClearEmptiesTheShadow
  refine ⟨fun s hs => ⟨fun free released => ?done, fun loading => ?busy, fun free held => ?held⟩,
    fun s => exec_shadowClear_of_starting, rfl, Plan.empty_step, fun id => ?link, fun i => ?cls,
    fun i => ?filter, Plan.empty_planSlots, fun p generation valid => ?valid⟩
  case done => rw [exec_shadowClear hs, shadowClear_of_released free released, reply_finish]
  case busy => rw [exec_shadowClear hs, shadowClear_of_loading loading, refuse_finish]
  case held => rw [exec_shadowClear hs, shadowClear_of_held free held, refuse_finish]
  case link => rw [Plan.empty_link]; rfl
  case cls => rw [Plan.empty_cls]; rfl
  case filter => rw [Plan.empty_filter]; rfl
  case valid =>
    have slots := Plan.planSlots_ne_nil_of_valid valid
    obtain ⟨n, named⟩ := List.exists_mem_of_ne_nil _ slots
    obtain ⟨low, high⟩ := p.quorumInRange_iff.1 (Plan.quorumInRange_of_valid valid)
    exact ⟨slots, low, high, Plan.names_of_mem_planSlots named⟩

/-! ## LIVE EDIT (R160) -/

theorem exec_liveEdit (target : Byte) (index : Half) (content : Vector Byte 14) {s : State}
    (hs : s.serves = true) :
    exec (.liveEdit target index content
        (requestCrc 0x14 (target :: halfBytes index ++ content.toList))) s
      = .next (liveEdit target index content.toList s).finish :=
  congrArg Host.Outcome.next (takeRequest_serves 0x14 _ (liveEdit target index content.toList) hs)

section
variable {p : Plan} {i : Nat} {content : List Byte} {c : ClassDef}

theorem editClass_of_taken (decoded : ClassDef.decode content = some c) (held : (p.cls i).defined = true)
    (defined : c.defined = true) (same : c.measure = (p.cls i).measure) (fits : c.inRange = true) :
    editClass p i content = .taken { p with classes := Tab.put p.classes i c } := by
  simp [editClass, decoded, held, defined, same, fits]

theorem editClass_of_invalid (decoded : ClassDef.decode content = some c) (held : (p.cls i).defined = true)
    (defined : c.defined = true) (unfit : c.measure ≠ (p.cls i).measure ∨ c.inRange = false) :
    editClass p i content = .refused .invalid := by
  rcases unfit with other | outside
  · simp [editClass, decoded, held, defined, other]
  · simp [editClass, decoded, held, defined, outside]

/-- A class that is undefined before or after the edit, or whose code is outside its list, is RANGE. -/
theorem editClass_of_range (h : (p.cls i).defined = false
      ∨ ∀ c, ClassDef.decode content = some c → c.defined = false) :
    editClass p i content = .refused .range := by
  unfold editClass
  cases decoded : ClassDef.decode content with
  | none => rfl
  | some c =>
    have refused : (!(p.cls i).defined || !c.defined) = true := by
      rcases h with absent | undefined
      · simp [absent]
      · simp [undefined c decoded]
    exact if_pos refused

end

section
variable {p : Plan} {i : Nat} {content : List Byte} {f : FilterElement}

theorem FilterElement.inRange_iff (f : FilterElement) :
    f.inRange = true ↔ f.id1.toNat ≤ 511 ∧ f.id2.toNat ≤ 511 := by
  simp [FilterElement.inRange]

theorem editFilter_of_taken (decoded : FilterElement.decode content = some f) (fits : f.inRange = true) :
    editFilter p i content = .taken { p with filters := Tab.put p.filters i f } := by
  simp [editFilter, decoded, fits]

theorem editFilter_of_invalid (decoded : FilterElement.decode content = some f)
    (outside : f.inRange = false) : editFilter p i content = .refused .invalid := by
  simp [editFilter, decoded, outside]

theorem editFilter_of_range (undecoded : FilterElement.decode content = none) :
    editFilter p i content = .refused .range := by
  rw [editFilter, undecoded]

end

theorem Target.ofCode_eq_cls {target : Byte} {index : Half} {i : Nat}
    (h : Target.ofCode target index = some (.cls i)) : target = 3 ∧ index.toNat < 32 := by
  unfold Target.ofCode at h
  split at h <;> simp at h
  case h_4 code => exact ⟨BitVec.eq_of_toNat_eq code, h.1⟩

theorem Target.ofCode_eq_filter {target : Byte} {index : Half} {i : Nat}
    (h : Target.ofCode target index = some (.filter i)) : target = 4 ∧ index.toNat < 32 := by
  unfold Target.ofCode at h
  split at h <;> simp at h
  case h_5 code => exact ⟨BitVec.eq_of_toNat_eq code, h.1⟩

section
variable {p : Plan} {index : Half} {content : List Byte}

theorem editActive_class (h : index.toNat < 32) :
    editActive p 3 index content = editClass p index.toNat content := by
  have named : Target.ofCode 3 index = some (.cls index.toNat) := if_pos h
  rw [editActive, named]

theorem editActive_filter (h : index.toNat < 32) :
    editActive p 4 index content = editFilter p index.toNat content := by
  have named : Target.ofCode 4 index = some (.filter index.toNat) := if_pos h
  rw [editActive, named]

/-- A target byte that names no class and no filter element, or an index above 31, is RANGE (log 22). -/
theorem editActive_of_range {target : Byte} (h : (target ≠ 3 ∧ target ≠ 4) ∨ 32 ≤ index.toNat) :
    editActive p target index content = .refused .range := by
  unfold editActive
  split
  case h_1 named =>
    obtain ⟨code, hi⟩ := Target.ofCode_eq_cls named
    rcases h with ⟨other, -⟩ | beyond
    · exact absurd code other
    · exact absurd hi (Nat.not_lt.2 beyond)
  case h_2 named =>
    obtain ⟨code, hi⟩ := Target.ofCode_eq_filter named
    rcases h with ⟨-, other⟩ | beyond
    · exact absurd code other
    · exact absurd hi (Nat.not_lt.2 beyond)
  case h_3 => rfl

end

section
variable {target : Byte} {index : Half} {content : List Byte} {s : State}

theorem liveEdit_of_taken {p : Plan} (h : editActive s.active target index content = .taken p) :
    liveEdit target index content s = reply .done (s.withPlans { s.plans with active := p }) := by
  rw [liveEdit, h]

theorem liveEdit_of_refused {st : Status} (h : editActive s.active target index content = .refused st) :
    liveEdit target index content s = refuse st s := by
  rw [liveEdit, h]

end

/-- Settles O18: the target selects `editClass` or `editFilter`, whose outcome on the active plan is the
answer. -/
theorem liveEditReplacesOneEntry : Obligations.LiveEditReplacesOneEntry := by
  unfold Obligations.LiveEditReplacesOneEntry
  rintro target index content s _ hs rfl
  rw [exec_liveEdit _ _ _ hs]
  refine ⟨?cls, ?filter, ?range⟩
  case cls =>
    rintro c rfl hi decoded held defined
    refine ⟨fun same fits => ?taken, fun unfit => ?invalid⟩
    case taken =>
      rw [liveEdit_of_taken ((editActive_class hi).trans
        (editClass_of_taken decoded held defined same fits)), reply_finish]
    case invalid =>
      rw [liveEdit_of_refused ((editActive_class hi).trans
        (editClass_of_invalid decoded held defined unfit)), refuse_finish]
  case filter =>
    rintro f rfl hi decoded
    refine ⟨fun h1 h2 => ?taken, fun outside => ?invalid⟩
    case taken =>
      rw [liveEdit_of_taken ((editActive_filter hi).trans
        (editFilter_of_taken decoded (f.inRange_iff.2 ⟨h1, h2⟩))), reply_finish]
    case invalid =>
      have unfit : f.inRange = false := by
        rw [Bool.eq_false_iff, Ne, f.inRange_iff]; omega
      rw [liveEdit_of_refused ((editActive_filter hi).trans (editFilter_of_invalid decoded unfit)),
        refuse_finish]
  case range =>
    intro h
    have refused : editActive s.active target index content.toList = .refused .range := by
      by_cases outside : (target ≠ 3 ∧ target ≠ 4) ∨ 32 ≤ index.toNat
      · exact editActive_of_range outside
      · have hi : index.toNat < 32 := by omega
        rcases h with other | beyond | ⟨rfl, undefined⟩ | ⟨rfl, undecoded⟩
        · exact absurd (.inl other) outside
        · exact absurd (.inr beyond) outside
        · exact (editActive_class hi).trans (editClass_of_range undefined)
        · exact (editActive_filter hi).trans (editFilter_of_range undecoded)
    rw [liveEdit_of_refused refused, refuse_finish]

/-! ## APPLY and APPLY CANCEL (R161 to R164) -/

section
variable {s : State}

theorem exec_applyPlan (hs : s.serves = true) :
    exec (.applyPlan (requestCrc 0x15 [])) s = .next (applyShadow s).finish :=
  congrArg Host.Outcome.next (takeRequest_serves 0x15 [] applyShadow hs)

theorem exec_applyCancel (hs : s.serves = true) :
    exec (.applyCancel (requestCrc 0x16 [])) s = .next (cancelApply s).finish :=
  congrArg Host.Outcome.next (takeRequest_serves 0x16 [] cancelApply hs)

theorem applyShadow_of_loading (h : s.loading = true) : applyShadow s = refuse .busy s :=
  if_pos h

theorem applyShadow_of_held (h : s.loading = false) (held : s.plans.applyPending = true) :
    applyShadow s = refuse .held s := by
  rw [applyShadow, h, held]; rfl

theorem applyShadow_of_invalid {f : PlanFault} (h : s.loading = false)
    (released : s.plans.applyPending = false)
    (invalid : s.plans.shadow.validate s.plans.generation = some f) :
    applyShadow s = ⟨s, ⟨.invalid, f.encode⟩⟩ := by
  rw [applyShadow, h, released, invalid]; rfl

/-- A valid shadow is installed at once in STOPPED. -/
theorem applyShadow_of_stopped (h : s.loading = false) (released : s.plans.applyPending = false)
    (valid : s.plans.shadow.validate s.plans.generation = none) (stopped : s.timer.run = .stopped) :
    applyShadow s = reply .done (install s) := by
  rw [applyShadow, h, released, valid]; exact if_pos stopped

/-- A valid shadow is held outside STOPPED. -/
theorem applyShadow_of_running (h : s.loading = false) (released : s.plans.applyPending = false)
    (valid : s.plans.shadow.validate s.plans.generation = none) (runs : s.timer.run ≠ .stopped) :
    applyShadow s = reply .accepted (s.withPlans { s.plans with applyPending := true }) := by
  rw [applyShadow, h, released, valid]; exact if_neg runs

theorem cancelApply_of_pending (h : s.plans.applyPending = true) :
    cancelApply s = reply .done (s.withPlans { s.plans with applyPending := false }) :=
  if_pos h

theorem cancelApply_of_none (h : s.plans.applyPending = false) : cancelApply s = refuse .state s :=
  if_neg (Bool.eq_false_iff.1 h)

end

/-- Settles O20: both requests are followed through their checks in the order of R161 and R164. -/
theorem applyDuringARunHoldsTheShadow : Obligations.ApplyDuringARunHoldsTheShadow := by
  unfold Obligations.ApplyDuringARunHoldsTheShadow
  intro s hs
  rw [exec_applyPlan hs, exec_applyCancel hs]
  refine ⟨fun free released valid runs => ?accepted, fun f free released invalid => ?invalid,
    fun loading => ?busy, fun free held => ?held, fun pending => ?cancelled, fun released => ?state⟩
  case accepted => rw [applyShadow_of_running free released valid runs, reply_finish]
  case invalid => rw [applyShadow_of_invalid free released invalid, Reply.finish_mk, PlanFault.encode]
  case busy => rw [applyShadow_of_loading loading, refuse_finish]
  case held => rw [applyShadow_of_held free held, refuse_finish]
  case cancelled => rw [cancelApply_of_pending pending, reply_finish]
  case state => rw [cancelApply_of_none released, refuse_finish]

theorem ProbeEntry.takePolicy_state (e : ProbeEntry) (policy : Policy) :
    (e.takePolicy policy).state = e.state := by
  unfold ProbeEntry.takePolicy
  split <;> rfl

theorem State.answered_isSet (s : State) (a : Answer) (f : Flag) :
    (s.answered a).port.isSet f = s.port.isSet f := (rfl)

/-- An installation leaves every probe in its state. -/
theorem install_probe_state (s : State) (n : Nat) : ((install s).probe n).state = (s.probe n).state := by
  rw [install_probe]
  split
  · exact ProbeEntry.takePolicy_state ..
  · rfl

/-- Settles O19: the request installs the shadow, and the laws of `install` say what that makes of each
block. -/
theorem applyInStoppedInstalls : Obligations.ApplyInStoppedInstalls := by
  unfold Obligations.ApplyInStoppedInstalls
  intro s hs free released valid stopped
  obtain ⟨-, -, -, timer, engine, store⟩ := install_frame s
  refine ⟨(install s).answered ⟨.done, []⟩, ?taken, ?plans, ?answer, ?flag, ?links, ?timer, ?engine, ?store,
    ?session, ?probes⟩
  case taken =>
    rw [exec_applyPlan hs, applyShadow_of_stopped free released valid stopped, reply_finish]
  case plans => simp only [State.answered_plans, install_plans, released]
  case answer => rw [State.answered_port]
  case flag => rw [State.answered_isSet, install_isSet .apply rfl (by decide)]
  case links => intro id hid; rw [State.answered_link]; exact install_link s id hid
  case timer => rw [State.answered_timer, timer]
  case engine => rw [State.answered_engine, engine]
  case store => rw [State.answered_store, store]
  case session => rw [State.answered_registry, install_session]
  case probes => intro n; rw [State.answered_probe, install_probe_state]

end Sys2Proof.Machine

/-! The locked slots of the Plan Store (R167): every command keeps them, whatever it starts, ends or resets. -/

namespace Sys2Proof.Machine

/-! ## Reading and writing one slot -/

theorem State.storeSlot_eq_get (s : State) (n : Fin 4) : s.storeSlot n = s.store.slots.get n := by
  rw [State.storeSlot, Tab.get, Vector.getElem?_eq_getElem n.isLt]; rfl

theorem State.storeSlot_of_slots {s t : State} (h : t.store.slots = s.store.slots) (n : Fin 4) :
    t.storeSlot n = s.storeSlot n := by
  rw [State.storeSlot, h, State.storeSlot]

theorem State.storeSlot_of_put {s t : State} {n : Fin 4} {x : StoreSlot}
    (h : t.store.slots = Tab.put s.store.slots n.val x) (k : Fin 4) :
    t.storeSlot k = if n = k then x else s.storeSlot k :=
  (State.storeSlot_of_slots (s := s.setStoreSlot n x) h k).trans (s.storeSlot_setStoreSlot n k x)

/-- The slot that a LOCK cut short by a hard reset works on; of any other slot nothing is left open (R175). -/
theorem State.slotsAfterCut_of_lock {s : State} {n : Fin 4} (h : s.store.state = .busy (.lock n)) :
    s.slotsAfterCut = Tab.put s.store.slots n.val
      { s.storeSlot n with
        locked := (s.storeSlot n).locked || Config.interruptedLock s.freeCount } := by
  simp only [State.slotsAfterCut, h]

theorem State.slotsAfterCut_of_no_lock {s : State} (h : ∀ n, s.store.state ≠ .busy (.lock n)) :
    s.slotsAfterCut = s.store.slots := by
  unfold State.slotsAfterCut
  split
  · next n locking => exact absurd locking (h n)
  · rfl

/-! ## What keeps the locks -/

theorem PlanStore.sparesLocked_of_idle {x : PlanStore} (h : x.state = .idle) : x.sparesLocked := by
  simp only [PlanStore.sparesLocked, h]

/-- The operation in progress spares the same slots as long as it and the slots are the same. -/
theorem PlanStore.sparesLocked_of_same {x y : PlanStore} (slots : y.slots = x.slots)
    (state : y.state = x.state) (h : x.sparesLocked) : y.sparesLocked := by
  unfold PlanStore.sparesLocked at *
  rw [slots, state]
  exact h

/-- From `s` to `t` the locks hold on, and no locked slot changes (R167). -/
def State.KeepsLocks (s t : State) : Prop :=
  s.store.locksHold →
    t.store.locksHold ∧ ∀ n, (s.storeSlot n).locked = true → t.storeSlot n = s.storeSlot n

namespace State.KeepsLocks

variable {s t : State}

/-- Each slot stays as it is, or is one that was not locked, and is locked only if VALID. -/
theorem of_slots
    (slots : s.store.locksHold → ∀ n, t.storeSlot n = s.storeSlot n
      ∨ (s.storeSlot n).locked = false
        ∧ ((t.storeSlot n).locked = true → (t.storeSlot n).state = .valid))
    (spares : s.store.locksHold → t.store.sparesLocked) : s.KeepsLocks t := by
  refine fun hold => ⟨⟨fun n locked => ?valid, spares hold⟩, fun n locked => ?same⟩
  case valid =>
    rw [← State.storeSlot_eq_get] at locked ⊢
    rcases slots hold n with same | ⟨-, valid⟩
    · rw [same, State.storeSlot_eq_get] at locked ⊢
      exact hold.1 n locked
    · exact valid locked
  case same =>
    rcases slots hold n with same | ⟨unlocked, -⟩
    · exact same
    · rw [unlocked] at locked; contradiction

theorem of_same_slots (slots : t.store.slots = s.store.slots)
    (spares : s.store.locksHold → t.store.sparesLocked) : s.KeepsLocks t :=
  of_slots (fun _ n => .inl (State.storeSlot_of_slots slots n)) spares

theorem of_same_op (slots : t.store.slots = s.store.slots) (state : t.store.state = s.store.state) :
    s.KeepsLocks t :=
  of_same_slots slots fun ⟨_, spares⟩ => PlanStore.sparesLocked_of_same slots state spares

theorem of_store (h : t.store = s.store) : s.KeepsLocks t := of_same_op (by rw [h]) (by rw [h])

/-- One slot that was not locked is written, and is locked only if VALID. -/
theorem of_put {n : Fin 4} {x : StoreSlot} (slots : t.store.slots = Tab.put s.store.slots n.val x)
    (unlocked : s.store.locksHold → (s.storeSlot n).locked = false)
    (valid : s.store.locksHold → x.locked = true → x.state = .valid)
    (spares : s.store.locksHold → t.store.sparesLocked) : s.KeepsLocks t := by
  refine of_slots (fun hold k => ?_) spares
  rw [State.storeSlot_of_put slots]
  by_cases own : n = k
  · subst own
    rw [if_pos rfl]
    exact .inr ⟨unlocked hold, valid hold⟩
  · exact .inl (if_neg own)

theorem of_store_eq {u : State} (h : s.KeepsLocks t) (same : u.store = t.store) : s.KeepsLocks u := by
  unfold State.KeepsLocks State.storeSlot at *
  rw [same]
  exact h

theorem refl (s : State) : s.KeepsLocks s := of_store rfl

theorem of_if {c : Prop} [Decidable c] {u : State} (ht : s.KeepsLocks t) (hu : s.KeepsLocks u) :
    s.KeepsLocks (if c then t else u) := by
  split
  · exact ht
  · exact hu

end State.KeepsLocks

/-! ## The slot of the operation in progress (R170 to R172) -/

section
variable {s : State} {n : Fin 4}

theorem State.unlocked_of_save (h : s.store.state = .busy (.save n)) (hold : s.store.locksHold) :
    (s.storeSlot n).locked = false := by
  obtain ⟨-, spares⟩ := hold
  simpa only [PlanStore.sparesLocked, h, State.storeSlot_eq_get] using spares

theorem State.unlocked_of_erase (h : s.store.state = .busy (.erase n)) (hold : s.store.locksHold) :
    (s.storeSlot n).locked = false := by
  obtain ⟨-, spares⟩ := hold
  simpa only [PlanStore.sparesLocked, h, State.storeSlot_eq_get] using spares

theorem State.unlocked_valid_of_lock (h : s.store.state = .busy (.lock n)) (hold : s.store.locksHold) :
    (s.storeSlot n).locked = false ∧ (s.storeSlot n).state = .valid := by
  obtain ⟨-, spares⟩ := hold
  simpa only [PlanStore.sparesLocked, h, State.storeSlot_eq_get] using spares

theorem State.saving_iff :
    s.saving = some n ↔ s.port.resetLow = false ∧ s.store.state = .busy (.save n) := by
  unfold State.saving; split <;> simp_all

theorem State.erasing_iff :
    s.erasing = some n ↔ s.port.resetLow = false ∧ s.store.state = .busy (.erase n) := by
  unfold State.erasing; split <;> simp_all

theorem State.locking_iff :
    s.locking = some n ↔ s.port.resetLow = false ∧ s.store.state = .busy (.lock n) := by
  unfold State.locking; split <;> simp_all

theorem State.filling_iff :
    s.filling = some n ↔ s.port.resetLow = false ∧ s.store.state = .busy (.load n) := by
  unfold State.filling; split <;> simp_all

end

/-! ## The starts of operations (R170 to R174) -/

section
variable {s : State} {n : Fin 4}

/-- The slot given up at the start of a SAVE or an ERASE was not locked and is not (R171, R172). -/
theorem State.KeepsLocks.of_givenUp {t : State} (h : (s.storeSlot n).locked = false)
    (slots : t.store.slots = Tab.put s.store.slots n.val (s.storeSlot n).givenUp)
    (op : t.store.state = .busy (.save n) ∨ t.store.state = .busy (.erase n)) : s.KeepsLocks t := by
  have given : (t.storeSlot n).locked = false := by rw [State.storeSlot_of_put slots, if_pos rfl]; exact h
  refine .of_put slots (fun _ => h) (fun _ locked => ?_) fun _ => ?_
  · rw [StoreSlot.givenUp, h] at locked; contradiction
  · rw [State.storeSlot_eq_get] at given
    rcases op with op | op <;> simpa only [PlanStore.sparesLocked, op] using given

theorem startSave_keepsLocks (label : Vector Byte 8) (h : (s.storeSlot n).locked = false) :
    s.KeepsLocks (startSave label n s) := .of_givenUp h rfl (.inl rfl)

theorem startErase_keepsLocks (h : (s.storeSlot n).locked = false) : s.KeepsLocks (startErase n s) :=
  .of_givenUp h rfl (.inr rfl)

theorem lockSlot_keepsLocks (h : (s.storeSlot n).locked = false) : s.KeepsLocks (lockSlot n s).state := by
  unfold lockSlot
  split
  · exact .refl s
  · next valid =>
    refine .of_same_slots rfl fun _ => ?_
    rw [State.storeSlot_eq_get] at h valid
    exact ⟨h, Decidable.not_not.mp valid⟩

/-- A LOAD and a fixture record write change no slot. -/
theorem startStoreOp_keepsLocks {op : StoreOp} (h : (∃ n, op = .load n) ∨ op = .fixtureWrite) :
    s.KeepsLocks (startStoreOp op s) := by
  refine .of_same_slots rfl fun _ => ?_
  rcases h with ⟨n, rfl⟩ | rfl <;> exact trivial

theorem storeLoad_keepsLocks (slot : Byte) : s.KeepsLocks (storeLoad slot s).state := by
  unfold storeLoad
  split
  · exact .refl s
  · repeat' split
    · exact .refl s
    · exact .refl s
    · exact .refl s
    · exact startStoreOp_keepsLocks (.inl ⟨_, rfl⟩)

/-- A fixture record write that begins with the slots as they were. -/
theorem startFixtureWrite_keepsLocks {t : State} (w : Option CalWrite)
    (slots : t.store.slots = s.store.slots) : s.KeepsLocks (startFixtureWrite w t) :=
  .of_same_slots slots fun _ => trivial

theorem storeSetBoot_keepsLocks (slot : Byte) : s.KeepsLocks (storeSetBoot slot s).state := by
  unfold storeSetBoot
  split
  · exact .refl s
  · split
    · exact .refl s
    · exact startFixtureWrite_keepsLocks none rfl

theorem calAccept_keepsLocks (s : State) : s.KeepsLocks (calAccept s).state := by
  unfold calAccept
  split
  · next x _ _ =>
    repeat' split
    · exact .refl s
    · exact .refl s
    · obtain ⟨p, table⟩ := foldl_probeTable (fun t c => putCandidate x c t)
        (fun t c => putCandidate_probeTable x c t) s.registry.session.captures s
      refine startFixtureWrite_keepsLocks _ ?_
      rw [table]; rfl
  · exact .refl s

theorem calRevert_keepsLocks (slots : BitVec 24) (ranges : Byte) :
    s.KeepsLocks (calRevert slots ranges s).state := by
  unfold calRevert
  split
  · exact .refl s
  · split
    · exact .refl s
    · next w _ =>
      split
      · exact .refl s
      · obtain ⟨p, table⟩ := foldl_probeTable
          (fun t n => t.mapProbe n fun e => e.mapCoeff w.ranges fun _ => Coeff.default)
          (fun _ _ => ⟨_, rfl⟩) w.slots s
        refine startFixtureWrite_keepsLocks _ ?_
        rw [table]; rfl

end

/-! ## The ends of operations (R168, R171 to R173) -/

section
variable {s : State} {n : Fin 4}

/-- An end of an operation that leaves the slots. -/
theorem endStoreOp_keepsLocks {t : State} (op : StoreOp) (passed : Bool)
    (slots : t.store.slots = s.store.slots) : s.KeepsLocks (endStoreOp op passed t) :=
  .of_same_slots slots fun _ => PlanStore.sparesLocked_of_idle rfl

theorem StoreSlot.saved_locked (x : StoreSlot) (copy : Option SaveCopy) (passed : Bool) :
    (x.saved copy passed).locked = x.locked := by
  unfold StoreSlot.saved; split <;> rfl

theorem saveEnd_keepsLocks (passed : Bool) (h : s.store.state = .busy (.save n)) :
    s.KeepsLocks (saveEnd n passed s) := by
  refine .of_put (n := n) rfl (State.unlocked_of_save h) (fun hold locked => ?_)
    fun _ => PlanStore.sparesLocked_of_idle rfl
  rw [StoreSlot.saved_locked, State.unlocked_of_save h hold] at locked
  contradiction

theorem eraseEnd_keepsLocks (passed : Bool) (h : s.store.state = .busy (.erase n)) :
    s.KeepsLocks (eraseEnd n passed s) := by
  cases passed with
  | false => exact endStoreOp_keepsLocks _ _ rfl
  | true =>
    exact .of_put (n := n) (x := StoreSlot.erased) rfl (State.unlocked_of_erase h) nofun
      fun _ => PlanStore.sparesLocked_of_idle rfl

theorem lockEnd_keepsLocks (passed : Bool) (h : s.store.state = .busy (.lock n)) :
    s.KeepsLocks (lockEnd n passed s) := by
  cases passed with
  | false => exact endStoreOp_keepsLocks _ _ rfl
  | true =>
    exact .of_put (n := n) (x := { s.storeSlot n with locked := true }) rfl
      (fun hold => (State.unlocked_valid_of_lock h hold).1)
      (fun hold _ => (State.unlocked_valid_of_lock h hold).2)
      fun _ => PlanStore.sparesLocked_of_idle rfl

theorem loadEnd_keepsLocks : s.KeepsLocks (loadEnd n s) := endStoreOp_keepsLocks _ _ rfl

theorem fixtureWriteEnd_keepsLocks (passed : Bool) : s.KeepsLocks (fixtureWriteEnd passed s) := by
  have store : (fixtureWriteEnd passed s).store
      = { s.store with
          state := .idle, lastResult := some ⟨.fixtureWrite, passed⟩,
          fixture := recordAfter passed s } := by
    simp [fixtureWriteEnd, endStoreOp]
  exact .of_same_slots (by rw [store]) fun _ => PlanStore.sparesLocked_of_idle (by rw [store])

end

/-! ## Resets and start-up (R175, R176, R184, R185) -/

theorem softReset_store (s : State) :
    (softReset s).store = { s.store with latch := false, lastResult := none } := by
  simp [softReset, softResetBlocks]

theorem softReset_keepsLocks (s : State) : s.KeepsLocks (reply .done (softReset s)).state := by
  refine .of_same_op ?_ ?_ <;> rw [reply, softReset_store]

/-- A hard reset that cuts a LOCK short leaves its slot VALID, locked or not. -/
theorem hardReset_keepsLocks (resetLow csLow : Bool) (fixture : FixtureRecord) (pending : List Instr)
    (freeCount : Nat) (s : State) :
    s.KeepsLocks (State.hardReset resetLow csLow s.slotsAfterCut fixture pending freeCount) := by
  by_cases locking : ∃ n, s.store.state = .busy (.lock n)
  · obtain ⟨n, locking⟩ := locking
    exact .of_put (n := n) (State.slotsAfterCut_of_lock locking)
      (fun hold => (State.unlocked_valid_of_lock locking hold).1)
      (fun hold _ => (State.unlocked_valid_of_lock locking hold).2) fun _ => trivial
  · exact .of_same_slots (State.slotsAfterCut_of_no_lock (not_exists.mp locking)) fun _ => trivial

/-- Start-up checks every slot, and leaves every block of the store but the slots, the boot slot with its
result, the messages held and the store state (R176). -/
theorem startUpEnd_store (damaged : BitVec 4) (s : State) :
    (startUpEnd damaged s).store
      = { s.store with
          slots := checkSlots damaged s.store.slots
          boot := s.store.fixture.bootSlot
          bootResult := some
            (chooseBoot s.store.fixture.bootSlot (checkSlots damaged s.store.slots)).result
          held := [], state := .idle } := by
  have held (t : State) : (releaseHeld t).store = { t.store with held := [] } := by
    unfold releaseHeld
    exact foldl_frame State.store _ (fun t m => by simp) t.store.held _
  simp [startUpEnd, held, loadStore]

theorem startUpEnd_storeSlot (damaged : BitVec 4) (s : State) (n : Fin 4) :
    (startUpEnd damaged s).storeSlot n = (s.storeSlot n).checked (damaged.getLsbD n.val) := by
  rw [State.storeSlot_eq_get, State.storeSlot_eq_get, startUpEnd_store]
  exact Vector.getElem_ofFn n.isLt

/-- A slot that does not check is given up, unless it is locked (R167, R176). -/
theorem StoreSlot.checked_keeps (x : StoreSlot) (damaged : Bool) :
    x.checked damaged = x ∨ x.locked = false ∧ (x.checked damaged).locked = false := by
  unfold StoreSlot.checked
  split
  · next h =>
    obtain ⟨-, -, unlocked⟩ := h
    exact .inr ⟨Bool.eq_false_iff.mpr unlocked, Bool.eq_false_iff.mpr unlocked⟩
  · exact .inl rfl

theorem startUpEnd_keepsLocks (damaged : BitVec 4) (s : State) : s.KeepsLocks (startUpEnd damaged s) := by
  refine .of_slots (fun _ n => ?_) fun _ => PlanStore.sparesLocked_of_idle (by rw [startUpEnd_store])
  rw [startUpEnd_storeSlot]
  refine (StoreSlot.checked_keeps _ _).imp_right fun ⟨unlocked, still⟩ => ⟨unlocked, fun locked => ?_⟩
  rw [still] at locked; contradiction

/-! ## Messages held back during start-up (R176) -/

theorem helloSetup_keepsLocks (n : Nat) {s t : State} (h : t.store = s.store) :
    s.KeepsLocks (helloSetup n t) := by
  unfold helloSetup
  split
  · exact .of_same_op (by simp [h]) (by simp [h])
  · exact .of_store (by simp [h])

/-- Behind the SETUP, held back or sent, a HELLO leaves the store. -/
theorem takeHello_keepsLocks (n : Nat) (serial : Word) (code power : Byte) {s t : State}
    (h : t.store = s.store) : s.KeepsLocks (takeHello n serial code power t) := by
  unfold takeHello
  refine .of_store_eq (helloSetup_keepsLocks n (t := changeState n .unconfigured
    (t.mapProbe n fun e => e.registered n (t.params.policy n) serial code power)) ?_) (by simp)
  simp [h]

theorem sendSpotAns_keepsLocks (n : Nat) (link : Half) (answer : Byte) {s t : State}
    (h : t.store = s.store) : s.KeepsLocks (sendSpotAns n link answer t) := by
  unfold sendSpotAns
  split
  · exact .of_same_op (by simp [h]) (by simp [h])
  · exact .of_store (by simp [h])

/-! ## Requests that leave the store -/

@[simp] theorem refuse_state (st : Status) (s : State) : (refuse st s).state = s := (rfl)
@[simp] theorem reply_state (st : Status) (s : State) : (reply st s).state = s := (rfl)
@[simp] theorem readOut_state (bytes : List Byte) (s : State) : (readOut bytes s).state = s := (rfl)

theorem shadowWrite_store (target : Byte) (index : Half) (content : List Byte) (s : State) :
    (shadowWrite target index content s).state.store = s.store := by
  unfold shadowWrite; (repeat' split) <;> simp

theorem shadowRead_store (target : Byte) (index : Half) (s : State) :
    (shadowRead target index s).state.store = s.store := by
  unfold shadowRead; (repeat' split) <;> simp

theorem activeRead_store (target : Byte) (index : Half) (s : State) :
    (activeRead target index s).state.store = s.store := by
  unfold activeRead; split <;> simp

theorem shadowClear_store (s : State) : (shadowClear s).state.store = s.store := by
  unfold shadowClear; (repeat' split) <;> simp

theorem liveEdit_store (target : Byte) (index : Half) (content : List Byte) (s : State) :
    (liveEdit target index content s).state.store = s.store := by
  unfold liveEdit; split <;> simp

theorem applyShadow_store (s : State) : (applyShadow s).state.store = s.store := by
  unfold applyShadow; (repeat' split) <;> simp

theorem cancelApply_store (s : State) : (cancelApply s).state.store = s.store := by
  unfold cancelApply; split <;> simp

theorem runStart_store (fresh : Byte) (s : State) : (runStart fresh s).state.store = s.store := by
  unfold runStart; (repeat' split) <;> simp

theorem runPause_store (s : State) : (runPause s).state.store = s.store := by
  unfold runPause; (repeat' split) <;> simp

theorem runResume_store (s : State) : (runResume s).state.store = s.store := by
  unfold runResume; split <;> simp

theorem runStop_store (s : State) : (runStop s).state.store = s.store := by
  unfold runStop; (repeat' split) <;> simp

theorem runAbort_store (s : State) : (runAbort s).state.store = s.store := by
  unfold runAbort; split <;> simp

theorem probeRead_store (slot : Byte) (s : State) : (probeRead slot s).state.store = s.store := by
  unfold probeRead; split <;> simp

theorem popQueue_store (id : QueueId) (s : State) : (popQueue id s).state.store = s.store := by
  unfold popQueue; split <;> simp

theorem spotRequest_store (link : Half) (repeats marker : Byte) (s : State) :
    (spotRequest link repeats marker s).state.store = s.store := by
  simp [spotRequest]

theorem spotCancel_store (link : Half) (s : State) : (spotCancel link s).state.store = s.store := by
  unfold spotCancel; (repeat' split) <;> simp

theorem calSelect_store (slots : BitVec 24) (kind range quick : Byte) (s : State) :
    (calSelect slots kind range quick s).state.store = s.store := by
  unfold calSelect; (repeat' split) <;> simp

theorem calCapture_store (s : State) : (calCapture s).state.store = s.store := by
  unfold calCapture
  split
  · dsimp only; split <;> simp
  · rfl

/-! ## Every command -/

section
variable {s : State}

/-- A request answers behind its effect, or has none (R178, R179, R185). -/
theorem takeAlways_keepsLocks {command crc : Byte} {params : List Byte} {effect : State → Reply}
    (h : s.KeepsLocks (effect s).state) : s.KeepsLocks (takeAlways command params crc effect s) := by
  unfold takeAlways
  repeat' split
  · exact .refl s
  · exact .of_store rfl
  · exact h
  · exact .of_store rfl

theorem takeRequest_keepsLocks {command crc : Byte} {params : List Byte} {effect : State → Reply}
    (h : s.KeepsLocks (effect s).state) : s.KeepsLocks (takeRequest command params crc effect s) := by
  refine takeAlways_keepsLocks ?_
  split
  · exact .refl s
  · exact h

theorem onLink_keepsLocks {link : Half} {effect : Nat → State → Reply}
    (h : s.KeepsLocks (effect link.toNat s).state) : s.KeepsLocks (onLink link effect s).state := by
  unfold onLink
  split
  · exact h
  · exact .refl s

theorem onQueue_keepsLocks {queue : Byte} {effect : QueueId → State → Reply}
    (h : ∀ id, s.KeepsLocks (effect id s).state) : s.KeepsLocks (onQueue queue effect s).state := by
  unfold onQueue
  split
  · exact h _
  · exact .refl s

/-- SAVE, ERASE and LOCK reach their effect at a slot that is not locked alone (R170). -/
theorem guardedStore_keepsLocks {slot : Byte} {fits : Bool} {effect : Fin 4 → State → Reply}
    (h : ∀ n, (s.storeSlot n).locked = false → s.KeepsLocks (effect n s).state) :
    s.KeepsLocks (guardedStore slot fits effect s).state := by
  unfold guardedStore
  split
  · exact .refl s
  · next n _ =>
    repeat' split
    · exact .refl s
    · exact .refl s
    · exact .refl s
    · exact .of_same_op rfl rfl
    · next unlocked => exact h n (Bool.eq_false_iff.mpr unlocked)

/-- A message has its effect on the part that has heard the probe, is stray, or is no message (R46, R186). -/
theorem receive_keepsLocks {n : Nat} {checks : Bool} {admits : ProbeState → Bool}
    {effect : State → State} (h : s.KeepsLocks (effect (hearProbe n s))) :
    s.KeepsLocks (receive n checks admits effect s) := by
  unfold receive
  split
  · exact .refl s
  · split
    · exact .of_store (by simp)
    · dsimp only
      split
      · exact h
      · exact .of_store (by simp)

/-- The end of an operation has its effect where that operation is in progress, and else none (log 3). -/
theorem State.KeepsLocks.of_slotEnd (slot : Option (Fin 4)) (effect : Fin 4 → State) :
    (∀ n, slot = some n → s.KeepsLocks (effect n)) →
      s.KeepsLocks (match slot with | some n => effect n | none => s) := by
  intro h
  split
  · exact h _ rfl
  · exact .refl s

end

/-- The outcome of a command goes on to a state in which the locks are kept. -/
def Result.KeepsLocks (s : State) (o : Host.Outcome State Fault Refusal) : Prop :=
  ∀ t, o = .next t → s.KeepsLocks t

theorem Result.KeepsLocks.next {s t : State} (h : s.KeepsLocks t) : Result.KeepsLocks s (.next t) := by
  rintro _ ⟨⟩; exact h

open State.KeepsLocks Result.KeepsLocks in
/-- No command changes a locked slot: those that write a slot are the ends of a SAVE, an ERASE and a LOCK and
their starts, a hard reset and the end of start-up. -/
theorem exec_keepsLocks (s : State) : ∀ c, Result.KeepsLocks s (exec c s)
  | .statusRead _ => next (takeAlways_keepsLocks (refl s))
  | .capabilityRead _ => next (takeAlways_keepsLocks (refl s))
  | .shadowWrite .. => next (takeRequest_keepsLocks (of_store (shadowWrite_store ..)))
  | .shadowRead .. => next (takeRequest_keepsLocks (of_store (shadowRead_store ..)))
  | .activeRead .. => next (takeRequest_keepsLocks (of_store (activeRead_store ..)))
  | .shadowClear _ => next (takeRequest_keepsLocks (of_store (shadowClear_store s)))
  | .liveEdit .. => next (takeRequest_keepsLocks (of_store (liveEdit_store ..)))
  | .applyPlan _ => next (takeRequest_keepsLocks (of_store (applyShadow_store s)))
  | .applyCancel _ => next (takeRequest_keepsLocks (of_store (cancelApply_store s)))
  | .runStart .. => next (takeRequest_keepsLocks (of_store (runStart_store ..)))
  | .runPause _ => next (takeRequest_keepsLocks (of_store (runPause_store s)))
  | .runResume _ => next (takeRequest_keepsLocks (of_store (runResume_store s)))
  | .runStop _ => next (takeRequest_keepsLocks (of_store (runStop_store s)))
  | .runAbort _ => next (takeRequest_keepsLocks (of_store (runAbort_store s)))
  | .linkRead .. => next (takeRequest_keepsLocks (onLink_keepsLocks (refl s)))
  | .linkClear .. => next (takeRequest_keepsLocks (onLink_keepsLocks (of_store (by simp))))
  | .linkWithdraw .. => next (takeRequest_keepsLocks (onLink_keepsLocks (of_store (by simp))))
  | .linkRestore .. => next (takeRequest_keepsLocks (onLink_keepsLocks (of_store (by simp))))
  | .probeRead .. => next (takeRequest_keepsLocks (of_store (probeRead_store ..)))
  | .queuePop .. =>
    next (takeRequest_keepsLocks (onQueue_keepsLocks fun id => of_store (popQueue_store id s)))
  | .queueStatus .. => next (takeRequest_keepsLocks (onQueue_keepsLocks fun _ => refl s))
  | .queueFlush .. => next (takeRequest_keepsLocks (onQueue_keepsLocks fun _ => of_store rfl))
  | .spotRequest .. => next (takeRequest_keepsLocks (of_store (spotRequest_store ..)))
  | .spotCancel .. => next (takeRequest_keepsLocks (of_store (spotCancel_store ..)))
  | .spotList _ => next (takeRequest_keepsLocks (refl s))
  | .calSelect .. => next (takeRequest_keepsLocks (of_store (calSelect_store ..)))
  | .calCapture _ => next (takeRequest_keepsLocks (of_store (calCapture_store s)))
  | .calAccept _ => next (takeRequest_keepsLocks (calAccept_keepsLocks s))
  | .calRevert .. => next (takeRequest_keepsLocks (calRevert_keepsLocks _ _))
  | .storeWriteEnable _ => next (takeRequest_keepsLocks (of_same_op rfl rfl))
  | .storeSave _ label _ =>
    next (takeRequest_keepsLocks (guardedStore_keepsLocks fun _ => startSave_keepsLocks label))
  | .storeErase .. =>
    next (takeRequest_keepsLocks (guardedStore_keepsLocks fun _ => startErase_keepsLocks))
  | .storeLock .. =>
    next (takeRequest_keepsLocks (guardedStore_keepsLocks fun _ => lockSlot_keepsLocks))
  | .storeLoad .. => next (takeRequest_keepsLocks (storeLoad_keepsLocks _))
  | .storeSetBoot .. => next (takeRequest_keepsLocks (storeSetBoot_keepsLocks _))
  | .attnEnable .. => next (takeRequest_keepsLocks (of_store rfl))
  | .attnClear .. => next (takeRequest_keepsLocks (of_store rfl))
  | .softReset _ => next (takeRequest_keepsLocks (softReset_keepsLocks s))
  | .unknownCommand .. => next (of_if (refl s) (takeAlways_keepsLocks (refl s)))
  | .hello .. => next (receive_keepsLocks (takeHello_keepsLocks _ _ _ _ (by simp)))
  | .setupAck _ => next (receive_keepsLocks (of_store (by simp)))
  | .markAck .. => next (receive_keepsLocks (of_store (by simp)))
  | .statusReport .. => next (receive_keepsLocks (of_store (by simp)))
  | .doneReport .. => next (receive_keepsLocks (of_store (by simp)))
  | .readingReport .. => next (receive_keepsLocks (of_store (by simp)))
  | .contresReport .. => next (receive_keepsLocks (of_store (by simp)))
  | .calRead .. => next (receive_keepsLocks (of_store (by simp)))
  | .spotAsk .. => next (receive_keepsLocks (sendSpotAns_keepsLocks _ _ _ (by simp)))
  | .spotDrop .. => next (receive_keepsLocks (of_store (by simp)))
  | .frameError .. => next (of_if (refl s) (of_store (by simp)))
  | .probeFrameSend .. => next (of_if (refl s) (of_store rfl))
  | .sweepStart => next (of_if (of_store (by simp)) (refl s))
  | .timedMark _ => next (of_if (of_store (by simp)) (refl s))
  | .mergedMark _ => next (of_if (of_store (by simp)) (refl s))
  | .markEntry _ => next (of_if (of_store (by simp)) (refl s))
  | .freeEntry _ => next (of_if (of_store (by simp)) (refl s))
  | .deadline .. => next (of_store (by simp))
  | .fixtureTimeLimit => next (of_if (of_store (by simp)) (refl s))
  | .captureDeadline => next (of_if (of_store (by simp)) (refl s))
  | .saveEnd passed =>
    next (of_slotEnd _ _ fun _ h => saveEnd_keepsLocks passed (State.saving_iff.mp h).2)
  | .eraseEnd passed =>
    next (of_slotEnd _ _ fun _ h => eraseEnd_keepsLocks passed (State.erasing_iff.mp h).2)
  | .lockEnd passed =>
    next (of_slotEnd _ _ fun _ h => lockEnd_keepsLocks passed (State.locking_iff.mp h).2)
  | .loadEnd => next (of_slotEnd _ _ fun _ _ => loadEnd_keepsLocks)
  | .fixtureWriteEnd passed => next (of_if (fixtureWriteEnd_keepsLocks passed) (refl s))
  | .hardReset => next (hardReset_keepsLocks _ _ _ _ _ s)
  | .startUpBegin => next (of_if (of_store rfl) (refl s))
  | .startUpEnd damaged => next (of_if (startUpEnd_keepsLocks damaged s) (refl s))

/-- A part on which no command waits takes an event that is due, or one tick passes (log 1). -/
theorem idle_keepsLocks (s : State) : Result.KeepsLocks s (idle s) := by
  unfold idle
  split
  · exact .next (.of_store (by simp))
  · exact exec_keepsLocks s.bump _

/-- Settles O60: a step takes a command or is idle, and both keep the locks. -/
theorem lockedSlotsNeverChange : Obligations.LockedSlotsNeverChange := by
  unfold Obligations.LockedSlotsNeverChange
  intro s t hold stepped
  unfold step at stepped
  split at stepped
  · exact idle_keepsLocks s t stepped hold
  · next rest _ => exact exec_keepsLocks (s.withPending rest) _ t stepped hold

end Sys2Proof.Machine

/-! The requests on the Plan Store and the ends of its operations (R169 to R174): what each answers, starts and
writes. -/

namespace Sys2Proof.Machine

/-! ## The slot byte (R170, 12.2) -/

section
variable {slot : Byte} {n : Fin 4}

theorem storeSlotOf_of_lt (h : slot.toNat < 4) : storeSlotOf slot = some ⟨slot.toNat, h⟩ := dif_pos h

theorem storeSlotOf_of_val (h : slot.toNat = n.val) : storeSlotOf slot = some n :=
  (storeSlotOf_of_lt (h ▸ n.isLt)).trans (congrArg some (Fin.ext h))

theorem storeSlotOf_of_ge (h : 4 ≤ slot.toNat) : storeSlotOf slot = none := dif_neg (Nat.not_lt.mpr h)

end

/-! ## SAVE, ERASE and LOCK (R169 to R172) -/

section
variable {s : State}

theorem State.storeIdle_of_idle (h : s.store.state = .idle) : s.storeIdle = true := by
  simp [State.storeIdle, h]

theorem State.storeIdle_of_busy (h : s.store.state ≠ .idle) : s.storeIdle = false := by
  simp [State.storeIdle, h]

theorem exec_storeWriteEnable (hs : s.serves = true) :
    exec (.storeWriteEnable (requestCrc 0x60 [])) s = .next (reply .done (s.setLatch true)).finish :=
  congrArg Host.Outcome.next (takeRequest_serves 0x60 [] _ hs)

theorem exec_storeSave (slot : Byte) (label : Vector Byte 8) (hs : s.serves = true) :
    exec (.storeSave slot label (requestCrc 0x61 (slot :: label.toList))) s
      = .next (guardedStore slot (labelFits label)
          (fun n s => reply .accepted (startSave label n s)) s).finish :=
  congrArg Host.Outcome.next (takeRequest_serves 0x61 _ _ hs)

theorem exec_storeErase (slot : Byte) (hs : s.serves = true) :
    exec (.storeErase slot (requestCrc 0x63 [slot])) s
      = .next (guardedStore slot true (fun n s => reply .accepted (startErase n s)) s).finish :=
  congrArg Host.Outcome.next (takeRequest_serves 0x63 _ _ hs)

theorem exec_storeLock (slot : Byte) (hs : s.serves = true) :
    exec (.storeLock slot (requestCrc 0x64 [slot])) s
      = .next (guardedStore slot true lockSlot s).finish :=
  congrArg Host.Outcome.next (takeRequest_serves 0x64 _ _ hs)

/-- The latest end of an operation in ticks of the part's own clock. -/
theorem startStoreOp_of_limit {op : StoreOp} {ms ticks : Nat} (limit : op.limit = ms)
    (h : ms * 1000 = ticks) (s : State) :
    startStoreOp op s
      = s.withStore { s.store with state := .busy op, latestEnd := s.clock + ticks } := by
  rw [startStoreOp, limit, Config.ticksPerMs, h]

theorem startSave_eq (label : Vector Byte 8) (n : Fin 4) (s : State) :
    startSave label n s
      = s.withStore { s.store with
          latch := false, state := .busy (.save n), latestEnd := s.clock + 250000,
          saveCopy := some ⟨s.plans.shadow, label⟩,
          slots := Tab.put s.store.slots n.val (s.storeSlot n).givenUp } :=
  startStoreOp_of_limit (op := .save n) (ms := 250) rfl rfl _

theorem startErase_eq (n : Fin 4) (s : State) :
    startErase n s
      = s.withStore { s.store with
          latch := false, state := .busy (.erase n), latestEnd := s.clock + 120000,
          slots := Tab.put s.store.slots n.val (s.storeSlot n).givenUp } :=
  startStoreOp_of_limit (op := .erase n) (ms := 120) rfl rfl _

variable {slot : Byte} {fits : Bool} {n : Fin 4} {effect : Fin 4 → State → Reply}

theorem guardedStore_of_no_slot (h : storeSlotOf slot = none) :
    guardedStore slot fits effect s = refuse .range s := by
  rw [guardedStore, h]

theorem guardedStore_of_unfit : guardedStore slot false effect s = refuse .range s := by
  unfold guardedStore
  split <;> rfl

theorem guardedStore_of_busy (named : storeSlotOf slot = some n) (busy : s.store.state ≠ .idle) :
    guardedStore slot true effect s = refuse .busy s := by
  rw [guardedStore, named, State.storeIdle_of_busy busy]; rfl

theorem guardedStore_of_no_latch (named : storeSlotOf slot = some n) (idle : s.store.state = .idle)
    (latch : s.store.latch = false) : guardedStore slot true effect s = refuse .noLatch s := by
  rw [guardedStore, named, State.storeIdle_of_idle idle, latch]; rfl

theorem guardedStore_of_locked (named : storeSlotOf slot = some n) (idle : s.store.state = .idle)
    (latch : s.store.latch = true) (locked : (s.storeSlot n).locked = true) :
    guardedStore slot true effect s = reply .locked (s.setLatch false) := by
  rw [guardedStore, named, State.storeIdle_of_idle idle, latch]; exact if_pos locked

/-- On an IDLE store with the latch set the effect is reached at a slot that is not locked. -/
theorem guardedStore_of_unlocked (named : storeSlotOf slot = some n) (idle : s.store.state = .idle)
    (latch : s.store.latch = true) (unlocked : (s.storeSlot n).locked = false) :
    guardedStore slot true effect s = effect n s := by
  rw [guardedStore, named, State.storeIdle_of_idle idle, latch]; exact if_neg (Bool.eq_false_iff.mp unlocked)

theorem lockSlot_of_valid (h : (s.storeSlot n).state = .valid) :
    lockSlot n s = reply .accepted (s.withStore { s.store with
      latch := false, state := .busy (.lock n), latestEnd := s.clock + 10000 }) :=
  (if_neg (not_not_intro h)).trans
    (congrArg (reply .accepted)
      (startStoreOp_of_limit (op := .lock n) (ms := 10) rfl rfl (s.setLatch false)))

theorem lockSlot_of_not_valid (h : (s.storeSlot n).state ≠ .valid) : lockSlot n s = refuse .invalid s :=
  if_pos h

/-- SAVE, ERASE and LOCK pass the same checks; a SAVE's label fits. -/
theorem exec_guarded {label : Vector Byte 8} {c : Instr} (hs : s.serves = true)
    (h : c = .storeErase slot (requestCrc 0x63 [slot]) ∨ c = .storeLock slot (requestCrc 0x64 [slot])
      ∨ (c = .storeSave slot label (requestCrc 0x61 (slot :: label.toList)) ∧ labelFits label = true)) :
    ∃ effect, exec c s = .next (guardedStore slot true effect s).finish := by
  rcases h with rfl | rfl | ⟨rfl, fits⟩
  · exact ⟨_, exec_storeErase slot hs⟩
  · exact ⟨_, exec_storeLock slot hs⟩
  · exact ⟨_, fits ▸ exec_storeSave slot label hs⟩

end

/-- Settles O36: each request passes the checks of `guardedStore` in their order, and starts its operation behind
them. -/
theorem storeWritesNeedTheLatch : Obligations.StoreWritesNeedTheLatch := by
  unfold Obligations.StoreWritesNeedTheLatch
  refine fun slot label s hs => ⟨exec_storeWriteEnable hs, fun n named idle latch unlocked => ?starts,
    fun c request => ?refused, fun unfit => ?label⟩
  case starts =>
    have named := storeSlotOf_of_val named
    rw [exec_storeSave slot label hs, exec_storeErase slot hs, exec_storeLock slot hs,
      guardedStore_of_unlocked named idle latch unlocked, guardedStore_of_unlocked named idle latch unlocked]
    refine ⟨fun fits => ?save, ?erase, fun valid => ?lock, fun invalid => ?invalid⟩
    case save => rw [fits, guardedStore_of_unlocked named idle latch unlocked, startSave_eq]; rfl
    case erase => rw [startErase_eq]; rfl
    case lock => rw [lockSlot_of_valid valid]; rfl
    case invalid => rw [lockSlot_of_not_valid invalid, refuse_finish]
  case refused =>
    obtain ⟨effect, taken⟩ := exec_guarded hs request
    rw [taken]
    refine ⟨fun high => ?range, fun low busy => ?busy, fun low idle latch => ?noLatch,
      fun n named idle latch locked => ?locked⟩
    case range => rw [guardedStore_of_no_slot (storeSlotOf_of_ge high), refuse_finish]
    case busy => rw [guardedStore_of_busy (storeSlotOf_of_lt low) busy, refuse_finish]
    case noLatch =>
      rw [guardedStore_of_no_latch (storeSlotOf_of_lt low) idle latch, refuse_finish]
    case locked => rw [guardedStore_of_locked (storeSlotOf_of_val named) idle latch locked]; rfl
  case label => rw [exec_storeSave slot label hs, unfit, guardedStore_of_unfit, refuse_finish]

/-! ## LOAD and SET BOOT (R170, R173, R174) -/

section
variable {s : State} {slot : Byte} {n : Fin 4}

theorem exec_storeLoad (slot : Byte) (hs : s.serves = true) :
    exec (.storeLoad slot (requestCrc 0x62 [slot])) s = .next (storeLoad slot s).finish :=
  congrArg Host.Outcome.next (takeRequest_serves 0x62 _ _ hs)

theorem exec_storeSetBoot (slot : Byte) (hs : s.serves = true) :
    exec (.storeSetBoot slot (requestCrc 0x65 [slot])) s = .next (storeSetBoot slot s).finish :=
  congrArg Host.Outcome.next (takeRequest_serves 0x65 _ _ hs)

theorem storeLoad_of_no_slot (h : storeSlotOf slot = none) : storeLoad slot s = refuse .range s := by
  rw [storeLoad, h]

theorem storeLoad_of_busy (named : storeSlotOf slot = some n) (busy : s.store.state ≠ .idle) :
    storeLoad slot s = refuse .busy s := by
  rw [storeLoad, named, State.storeIdle_of_busy busy]; rfl

/-- On an IDLE store a LOAD turns on its slot, then on the apply. -/
theorem storeLoad_of_idle (named : storeSlotOf slot = some n) (idle : s.store.state = .idle) :
    storeLoad slot s = if (s.storeSlot n).state ≠ .valid then refuse .invalid s
      else if s.plans.applyPending then refuse .held s
      else reply .accepted (s.withStore { s.store with
        state := .busy (.load n), latestEnd := s.clock + 20000 }) := by
  rw [storeLoad, named, State.storeIdle_of_idle idle,
    ← startStoreOp_of_limit (op := .load n) (ms := 20) rfl rfl]
  rfl

/-- FFh names no boot slot. -/
theorem bootSlotOf_of_val {b : Option (Fin 4)}
    (h : slot.toNat = match b with | some n => n.val | none => 255) : bootSlotOf slot = some b := by
  cases b with
  | none => exact if_pos (BitVec.eq_of_toNat_eq h)
  | some n =>
    have named : slot ≠ 0xFF := by
      rintro rfl
      have := n.isLt
      simp at h
      omega
    rw [bootSlotOf, if_neg named, storeSlotOf_of_val h]; rfl

theorem bootSlotOf_of_ge (h : 4 ≤ slot.toNat) (none : slot.toNat ≠ 255) : bootSlotOf slot = .none := by
  have named : slot ≠ 0xFF := fun all => none (congrArg BitVec.toNat all)
  rw [bootSlotOf, if_neg named, storeSlotOf_of_ge h]; rfl

theorem storeSetBoot_of_no_slot (h : bootSlotOf slot = none) : storeSetBoot slot s = refuse .range s := by
  rw [storeSetBoot, h]

theorem storeSetBoot_of_busy {b : Option (Fin 4)} (named : bootSlotOf slot = some b)
    (busy : s.store.state ≠ .idle) : storeSetBoot slot s = refuse .busy s := by
  rw [storeSetBoot, named, State.storeIdle_of_busy busy]; rfl

theorem storeSetBoot_of_idle {b : Option (Fin 4)} (named : bootSlotOf slot = some b)
    (idle : s.store.state = .idle) :
    storeSetBoot slot s
      = reply .accepted ((s.withStore { s.store with
          boot := b, state := .busy .fixtureWrite, latestEnd := s.clock + 40000 }).withRegistry
          { s.registry with calWrite := none }) := by
  rw [storeSetBoot, named, State.storeIdle_of_idle idle]
  exact congrArg (reply .accepted) (startStoreOp_of_limit (op := .fixtureWrite) (ms := 40) rfl rfl _)

end

/-- Settles O37: both requests are followed through their checks in the order of R170. -/
theorem storeLoadAndSetBootStart : Obligations.StoreLoadAndSetBootStart := by
  unfold Obligations.StoreLoadAndSetBootStart
  intro slot s hs
  rw [exec_storeLoad slot hs, exec_storeSetBoot slot hs]
  refine ⟨fun n named => ?load, fun high => ?loadRange, fun b named => ⟨fun idle => ?boot,
    fun busy => ?bootBusy⟩, fun high some => ?bootRange⟩
  case load =>
    have named := storeSlotOf_of_val named
    refine ⟨fun idle valid free => ?loaded, fun busy => ?busy, fun idle invalid => ?invalid,
      fun idle valid held => ?held⟩
    case loaded =>
      rw [storeLoad_of_idle named idle, if_neg (not_not_intro valid), free]; rfl
    case busy => rw [storeLoad_of_busy named busy, refuse_finish]
    case invalid => rw [storeLoad_of_idle named idle, if_pos invalid, refuse_finish]
    case held => rw [storeLoad_of_idle named idle, if_neg (not_not_intro valid), if_pos held, refuse_finish]
  case loadRange => rw [storeLoad_of_no_slot (storeSlotOf_of_ge high), refuse_finish]
  case boot => rw [storeSetBoot_of_idle (bootSlotOf_of_val named) idle]; rfl
  case bootBusy => rw [storeSetBoot_of_busy (bootSlotOf_of_val named) busy, refuse_finish]
  case bootRange => rw [storeSetBoot_of_no_slot (bootSlotOf_of_ge high some), refuse_finish]

/-! ## The ends of SAVE, ERASE, LOCK and LOAD (R171 to R173) -/

section
variable {s : State} {n : Fin 4}

theorem exec_saveEnd (passed : Bool) (h : s.saving = some n) :
    exec (.saveEnd passed) s = .next (saveEnd n passed s) := by
  change execSaveEnd passed s = _
  rw [execSaveEnd, h]

theorem exec_eraseEnd (passed : Bool) (h : s.erasing = some n) :
    exec (.eraseEnd passed) s = .next (eraseEnd n passed s) := by
  change execEraseEnd passed s = _
  rw [execEraseEnd, h]

theorem exec_lockEnd (passed : Bool) (h : s.locking = some n) :
    exec (.lockEnd passed) s = .next (lockEnd n passed s) := by
  change execLockEnd passed s = _
  rw [execLockEnd, h]

theorem exec_loadEnd (h : s.filling = some n) : exec .loadEnd s = .next (loadEnd n s) := by
  change execLoadEnd s = _
  rw [execLoadEnd, h]

theorem StoreSlot.saved_false (x : StoreSlot) (copy : Option SaveCopy) : x.saved copy false = x := (rfl)

/-- A slot written as it is leaves the part as it is. -/
theorem State.setStoreSlot_self (s : State) (n : Fin 4) : s.setStoreSlot n (s.storeSlot n) = s := by
  have same : Tab.put s.store.slots n.val (s.storeSlot n) = s.store.slots := by
    rw [State.storeSlot_eq_get]
    refine Vector.ext fun i hi => ?_
    rw [Tab.put, Vector.getElem_setIfInBounds]
    split
    · next own => subst own; rfl
    · rfl
  rw [State.setStoreSlot, same]; rfl

/-- With no operation in progress no end of one has an effect (log 3). -/
theorem exec_ends_of_idle (idle : s.store.state = .idle) (passed : Bool) :
    exec (.saveEnd passed) s = .next s ∧ exec (.eraseEnd passed) s = .next s
      ∧ exec (.lockEnd passed) s = .next s ∧ exec .loadEnd s = .next s
      ∧ exec (.fixtureWriteEnd passed) s = .next s := by
  have not_busy (op : StoreOp) : s.store.state ≠ .busy op := by rw [idle]; nofun
  have performs : s.performs .fixtureWrite = false := by simp [State.performs, idle]
  have saving : s.saving = none := Option.eq_none_iff_forall_ne_some.mpr fun n h =>
    not_busy _ (State.saving_iff.mp h).2
  have erasing : s.erasing = none := Option.eq_none_iff_forall_ne_some.mpr fun n h =>
    not_busy _ (State.erasing_iff.mp h).2
  have locking : s.locking = none := Option.eq_none_iff_forall_ne_some.mpr fun n h =>
    not_busy _ (State.locking_iff.mp h).2
  have filling : s.filling = none := Option.eq_none_iff_forall_ne_some.mpr fun n h =>
    not_busy _ (State.filling_iff.mp h).2
  simp only [exec, execSaveEnd, execEraseEnd, execLockEnd, execLoadEnd, execFixtureWriteEnd, saving, erasing,
    locking, filling, performs, Bool.false_eq_true, if_false, and_self]

end

/-- Settles O38: the operation in progress selects its end, whose writes are those of the slot it names. -/
theorem storeOperationsEnd : Obligations.StoreOperationsEnd := by
  unfold Obligations.StoreOperationsEnd
  refine fun n s up => ⟨fun copy saving copied => ?saved, fun saving => ?unsaved,
    fun erasing => ?erase, fun locking => ?lock, fun p filling content => ?load,
    exec_ends_of_idle⟩
  case saved =>
    rw [exec_saveEnd true (State.saving_iff.mpr ⟨up, saving⟩), saveEnd, copied]; rfl
  case unsaved =>
    rw [exec_saveEnd false (State.saving_iff.mpr ⟨up, saving⟩), saveEnd, StoreSlot.saved_false,
      State.setStoreSlot_self]; rfl
  case erase =>
    have erasing := State.erasing_iff.mpr ⟨up, erasing⟩
    exact ⟨exec_eraseEnd true erasing, exec_eraseEnd false erasing⟩
  case lock =>
    have locking := State.locking_iff.mpr ⟨up, locking⟩
    exact ⟨exec_lockEnd true locking, exec_lockEnd false locking⟩
  case load =>
    rw [exec_loadEnd (State.filling_iff.mpr ⟨up, filling⟩), loadEnd, content]; rfl

end Sys2Proof.Machine

/-! The end of a fixture record write (R137, R168): the state of every range of every probe, the record, and the
calibration session. -/

namespace Sys2Proof.Machine

/-! ## The state of one range (R137) -/

/-- The state of a range after a write that passed or failed, at the coefficients `c` (R137). -/
def settledState (passed : Bool) (w : Option CalWrite) (n : Nat) (r : ProbeRange) (c : Coeff)
    (st : CalState) : CalState :=
  if passed then storedState w n r c st else failedState w n r st

theorem ProbeEntry.afterWrite_eq (e : ProbeEntry) (w : Option CalWrite) (n : Nat) (passed : Bool) :
    e.afterWrite w n passed
      = { e with
          calLow := settledState passed w n .low e.coeffLow e.calLow
          calHigh := settledState passed w n .high e.coeffHigh e.calHigh } := by
  cases passed <;> rfl

section
variable {w : Option CalWrite} {x : CalWrite} {n : Nat} {r : ProbeRange} {st : CalState} {c : Coeff}

/-- A range that the write affects takes its target, or is CAL_BAD. -/
theorem settledState_of_affected (passed : Bool) (c : Coeff) (st : CalState) (mem : n ∈ x.slots)
    (covered : x.ranges.covers r = true) :
    settledState passed (some x) n r c st = if passed = true then x.target else .bad := by
  simp [settledState, storedState, failedState, mem, covered]

/-- On success a CAL_BAD range that the write does not affect recovers, and on failure a CALIBRATED one is
CAL_BAD. -/
theorem settledState_of_unaffected (passed : Bool) (c : Coeff) (st : CalState)
    (h : ∀ x, w = some x → n ∉ x.slots ∨ x.ranges.covers r = false) :
    settledState passed w n r c st
      = if passed = true then
          (if st = .bad then (if c = ⟨0, 32768⟩ then .default else .calibrated) else st)
        else (if st = .calibrated then .bad else st) := by
  have unaffected (x : CalWrite) (hx : w = some x) : (x.slots.contains n && x.ranges.covers r) = false := by
    rcases h x hx with out | uncovered
    · simp [out]
    · simp [uncovered]
  rcases w with _ | x
  · cases passed <;> cases st <;> rfl
  · simp only [settledState, storedState, failedState, unaffected x rfl]
    cases passed <;> cases st <;> rfl

end

/-! ## The Probe Table and the record (R137, R168) -/

/-- Every probe's ranges are settled by the write in progress. -/
theorem settleCalStates_probe (passed : Bool) (s : State) {n : Nat} (low : 1 ≤ n) (high : n ≤ 18) :
    (settleCalStates passed s).probe n = (s.probe n).afterWrite s.registry.calWrite n passed := by
  unfold settleCalStates
  rw [foldl_mapProbe (fun n _ e => e.afterWrite s.registry.calWrite n passed) s (fun _ _ _ _ _ => rfl) n,
    if_pos ⟨low, high⟩]

theorem settleCalStates_probeTable (passed : Bool) (s : State) :
    ∃ p, settleCalStates passed s = s.withProbeTable p := by
  unfold settleCalStates
  exact foldl_probeTable (fun t n => t.mapProbe n fun e => e.afterWrite s.registry.calWrite n passed)
    (fun _ _ => ⟨_, rfl⟩) allSlots s

/-- What a completed write stores for a probe (R137). -/
theorem writtenRecord_probe (s : State) {n : Nat} (low : 1 ≤ n) (high : n ≤ 18) :
    (writtenRecord s).probe n = storedProbe s.registry.calWrite n (s.probe n) := by
  obtain ⟨i, rfl⟩ := Nat.exists_eq_add_of_le' low
  have inTable : i < 18 := high
  simp [FixtureRecord.probe, writtenRecord, Tab.getSlot, Tab.get, inTable]

/-! ## The end of the write -/

section
variable {s : State} (passed : Bool)

theorem exec_fixtureWriteEnd (up : s.port.resetLow = false) (writing : s.store.state = .busy .fixtureWrite) :
    exec (.fixtureWriteEnd passed) s = .next (fixtureWriteEnd passed s) :=
  congrArg Host.Outcome.next (if_pos (by simp [State.performs, up, writing]))

theorem fixtureWriteEnd_store (s : State) :
    (fixtureWriteEnd passed s).store
      = { s.store with
          state := .idle, lastResult := some ⟨.fixtureWrite, passed⟩,
          fixture := recordAfter passed s } := by
  simp [fixtureWriteEnd, endStoreOp]

theorem endStoreOp_registry (op : StoreOp) (s : State) :
    (endStoreOp op passed s).registry = s.registry := (rfl)

theorem releaseSession_probe (s : State) (n : Nat) : (releaseSession s).probe n = s.probe n := by
  unfold releaseSession
  split <;> rfl

theorem releaseSession_ports (s : State) : (releaseSession s).registry.ports = s.registry.ports := by
  unfold releaseSession
  split <;> rfl

theorem fixtureWriteEnd_probe (s : State) {n : Nat} (low : 1 ≤ n) (high : n ≤ 18) :
    (fixtureWriteEnd passed s).probe n = (s.probe n).afterWrite s.registry.calWrite n passed := by
  unfold fixtureWriteEnd
  rw [releaseSession_probe, State.probe_of_registry (endStoreOp_registry ..),
    settleCalStates_probe passed _ low high]
  rfl

/-- The part when the write is over and the Probe Table settled, before the session is released. -/
def State.writeOver (s : State) (p : Vector ProbeEntry 18) : State :=
  endStoreOp .fixtureWrite passed
    ((s.withStore { s.store with fixture := recordAfter passed s }).withProbeTable p)

theorem fixtureWriteEnd_eq_release (s : State) :
    ∃ p, fixtureWriteEnd passed s = releaseSession (s.writeOver passed p) := by
  obtain ⟨p, settled⟩ := settleCalStates_probeTable passed
    (s.withStore { s.store with fixture := recordAfter passed s })
  exact ⟨p, by rw [fixtureWriteEnd, settled, State.writeOver]⟩

theorem releaseSession_of_boot (h : s.registry.calWrite = none) : releaseSession s = s := by
  simp [releaseSession, h]

/-- A calibration's session is over when its write is (R137). -/
theorem releaseSession_of_calibration (h : s.registry.calWrite ≠ none) :
    releaseSession s
      = raise .cal (s.withRegistry { s.registry with
          calWrite := none
          session := if s.registry.session.state = .writing then ⟨.idle, none, [], none⟩
            else s.registry.session }) := by
  rw [releaseSession, if_neg (mt Option.isNone_iff_eq_none.mp h)]
  rfl

end

/-- Settles O39: the record and the Probe Table take the settled states, and the registry's write is released. -/
theorem fixtureWriteEnds : Obligations.FixtureWriteEnds := by
  unfold Obligations.FixtureWriteEnds
  intro passed s up writing
  have store := fixtureWriteEnd_store passed s
  have fixture : (fixtureWriteEnd passed s).store.fixture = recordAfter passed s := by rw [store]
  have probe {n : Nat} (low : 1 ≤ n) (high : n ≤ 18) :
      (fixtureWriteEnd passed s).probe n
        = { s.probe n with
            calLow := settledState passed s.registry.calWrite n .low (s.probe n).coeffLow (s.probe n).calLow
            calHigh :=
              settledState passed s.registry.calWrite n .high (s.probe n).coeffHigh (s.probe n).calHigh } := by
    rw [fixtureWriteEnd_probe passed s low high, ProbeEntry.afterWrite_eq]
  obtain ⟨-, -, -, timer, engine, links, spot, router, plans⟩ := fixtureWriteEnd_frame passed s
  obtain ⟨p, released⟩ := fixtureWriteEnd_eq_release passed s
  refine ⟨fixtureWriteEnd passed s, exec_fixtureWriteEnd passed up writing, ?store, ?valid, ?failed,
    fun passes => ⟨?boot, fun n low high => ?stored⟩, fun n low high => ?frame,
    fun n w low high calibrates mem => ?affected, fun n low high spared => ?low,
    fun n low high spared => ?high, fun h => ?forBoot, fun h => ?forCalibration, ?ports, timer, engine, links,
    spot, router, plans⟩
  case store => rw [fixture]; exact store
  case valid => rw [fixture]; cases passed <;> rfl
  case failed => rintro rfl; exact fixture
  case boot => subst passes; rw [fixture]; rfl
  case stored =>
    subst passes
    rw [fixture, fixtureWriteEnd_probe true s low high]
    exact writtenRecord_probe s low high
  case frame => rw [probe low high]
  case affected =>
    rw [probe low high, calibrates]
    exact ⟨settledState_of_affected passed _ _ mem, settledState_of_affected passed _ _ mem⟩
  case low => rw [probe low high]; exact settledState_of_unaffected passed _ _ spared
  case high => rw [probe low high]; exact settledState_of_unaffected passed _ _ spared
  case forBoot =>
    rw [released, releaseSession_of_boot (s := s.writeOver passed p) h]
    exact ⟨rfl, rfl⟩
  case forCalibration =>
    rw [released, releaseSession_of_calibration (s := s.writeOver passed p) h]
    exact ⟨rfl, rfl, rfl⟩
  case ports => rw [released, releaseSession_ports]; rfl

end Sys2Proof.Machine

/-! The end of start-up (R175 to R177): the boot slot and its plan, the Probe Table, the links, and the messages
held back. -/

namespace Sys2Proof.Machine

/-! ## The boot slot and its plan (R176 items 3 and 4) -/

section
variable {p : Plan} {n : Fin 4} {slots : Vector StoreSlot 4}

theorem bootPlan_of_valid (h : p.validate 0 = none) : bootPlan p = ⟨.loaded, p, p⟩ := by
  delta bootPlan; rw [h]

theorem bootPlan_of_invalid (h : p.validate 0 ≠ none) : bootPlan p = ⟨.planInvalid, p, Plan.empty⟩ := by
  obtain ⟨fault, found⟩ := Option.ne_none_iff_exists'.mp h
  delta bootPlan; rw [found]

theorem bootPlan_shadow (p : Plan) : (bootPlan p).shadow = p := by
  by_cases valid : p.validate 0 = none
  · rw [bootPlan_of_valid valid]
  · rw [bootPlan_of_invalid valid]

theorem chooseBoot_of_content (valid : (slots.get n).state = .valid)
    (content : (slots.get n).content = some p) :
    chooseBoot (some n) slots = bootPlan p := by
  rw [chooseBoot, valid, content]

theorem chooseBoot_of_not_valid (h : (slots.get n).state ≠ .valid) :
    chooseBoot (some n) slots = ⟨.slotNotValid, Plan.empty, Plan.empty⟩ := by
  rw [chooseBoot]
  split
  · next valid _ => exact absurd valid h
  · rfl

end

theorem StoreSlot.checked_eq (x : StoreSlot) (damaged : Bool) :
    x.checked damaged
      = if damaged = true ∧ x.state = .valid ∧ x.locked = false then
          { x with state := .invalid, content := none }
        else x := by
  simp only [StoreSlot.checked, StoreSlot.givenUp, Bool.not_eq_true]

/-! ## The blocks after start-up (R176) -/

/-- The boot result and the plans that the checked slots give. -/
def State.bootChoice (s : State) (damaged : BitVec 4) : Boot :=
  chooseBoot s.store.fixture.bootSlot (checkSlots damaged s.store.slots)

theorem startUpEnd_plans (damaged : BitVec 4) (s : State) :
    (startUpEnd damaged s).plans
      = ⟨(s.bootChoice damaged).active, (s.bootChoice damaged).shadow, false, 0⟩ := by
  simp [startUpEnd, loadStore, State.bootChoice]

theorem startUpEnd_bootResult (damaged : BitVec 4) (s : State) :
    (startUpEnd damaged s).store.bootResult = some (s.bootChoice damaged).result := by
  rw [startUpEnd_store]; rfl

theorem startUpEnd_port (damaged : BitVec 4) (s : State) :
    (startUpEnd damaged s).port = s.port.raise .store := by
  simp [startUpEnd]

theorem startUpEnd_link (damaged : BitVec 4) (s : State) (id : Nat) :
    (startUpEnd damaged s).link id = LinkRecord.fresh 0 := by
  have links : (startUpEnd damaged s).links = Vector.replicate 512 (LinkRecord.fresh 0) := by
    simp [startUpEnd, loadBlocks]
  rw [State.link, links, Tab.get_replicate_same]

theorem loadBlocks_registry (s : State) :
    (loadBlocks s).registry = (allSlots.foldl (fun t n => loadProbe n t) s).registry := by
  unfold loadBlocks; rfl

/-- Every probe takes what the record stores for it, and its policy (R176 items 2 and 5). -/
theorem loadBlocks_probe (s : State) {n : Nat} (low : 1 ≤ n) (high : n ≤ 18) :
    (loadBlocks s).probe n
      = { (s.probe n).load (s.store.fixture.probe n) with policy := s.params.policy n } := by
  rw [State.probe_of_registry (loadBlocks_registry s)]
  exact (foldl_mapProbe
    (fun n t e => { e.load (t.store.fixture.probe n) with policy := t.params.policy n }) s
    (fun t n plans store _ => by rw [store, State.params_of_plans plans]) n).trans (if_pos ⟨low, high⟩)

theorem loadBlocks_probeTable (s : State) :
    ∃ p, loadBlocks s
      = { s.withProbeTable p with links := Vector.replicate 512 (LinkRecord.fresh 0) } := by
  obtain ⟨p, loaded⟩ := foldl_probeTable (fun t n => loadProbe n t) (fun _ _ => ⟨_, rfl⟩) allSlots s
  exact ⟨p, by rw [loadBlocks, loaded]⟩

theorem startUpEnd_registry (damaged : BitVec 4) (s : State) :
    (startUpEnd damaged s).registry = (releaseHeld (loadBlocks (loadStore damaged s))).registry := by
  unfold startUpEnd; rfl

theorem startUpEnd_params (damaged : BitVec 4) (s : State) :
    (startUpEnd damaged s).params = (loadStore damaged s).params :=
  State.params_of_plans (by simp [startUpEnd])

theorem releaseHeld_session (s : State) : (releaseHeld s).registry.session = s.registry.session := by
  unfold releaseHeld
  exact foldl_frame (fun t : State => t.registry.session) _ (fun t m => by cases m <;> rfl) s.store.held _

theorem startUpEnd_session (damaged : BitVec 4) (s : State) :
    (startUpEnd damaged s).registry.session = s.registry.session := by
  obtain ⟨p, loaded⟩ := loadBlocks_probeTable (loadStore damaged s)
  rw [startUpEnd_registry, releaseHeld_session, loaded]; rfl

/-- The messages held go to each port in the order held, with the values then in force (R176, log 28). -/
theorem startUpEnd_portState (damaged : BitVec 4) (s : State) {n : Nat} (low : 1 ≤ n) (high : n ≤ 18) :
    (startUpEnd damaged s).portState n
      = (s.store.held.filterMap
          (HeldMessage.messageFor (startUpEnd damaged s).params n)).foldl PortState.hand (s.portState n) := by
  obtain ⟨p, loaded⟩ := loadBlocks_probeTable (loadStore damaged s)
  rw [State.portState_of_registry (startUpEnd_registry damaged s), releaseHeld_portState _ n low high,
    startUpEnd_params, loaded]
  rfl

theorem startUpEnd_probe (damaged : BitVec 4) (s : State) {n : Nat} (low : 1 ≤ n) (high : n ≤ 18) :
    (startUpEnd damaged s).probe n
      = { (s.probe n).load (s.store.fixture.probe n) with
          policy := (startUpEnd damaged s).params.policy n
          setupOutstanding :=
            (s.probe n).setupOutstanding || s.store.held.contains (.setup n) } := by
  obtain ⟨p, loaded⟩ := loadBlocks_probeTable (loadStore damaged s)
  have held : (loadBlocks (loadStore damaged s)).store.held = s.store.held := by rw [loaded]; rfl
  rw [State.probe_of_registry (startUpEnd_registry damaged s), releaseHeld_probe _ n low high, held,
    loadBlocks_probe _ low high, startUpEnd_params]
  rfl

theorem exec_startUpEnd (damaged : BitVec 4) {s : State} (starting : s.store.state = .starting)
    (up : s.port.resetLow = false) :
    exec (.startUpEnd damaged) s = .next (startUpEnd damaged s) :=
  congrArg Host.Outcome.next (if_pos (by simp [State.starting, starting, up]))

theorem exec_startUpEnd_of_other (damaged : BitVec 4) {s : State}
    (h : s.store.state ≠ .starting ∨ s.port.resetLow = true) :
    exec (.startUpEnd damaged) s = .next s :=
  congrArg Host.Outcome.next (if_neg (by rcases h with h | h <;> simp [State.starting, h]))

/-- Settles O42: the checked slots give the boot choice, the blocks take the record and the active plan, and the
messages held follow. -/
theorem startUpEndLoadsTheBootPlan : Obligations.StartUpEndLoadsTheBootPlan := by
  unfold Obligations.StartUpEndLoadsTheBootPlan
  refine fun damaged s => ⟨fun starting up => ?ends, exec_startUpEnd_of_other damaged⟩
  have store := startUpEnd_store damaged s
  have plans := startUpEnd_plans damaged s
  have result := startUpEnd_bootResult damaged s
  have slot (n : Fin 4) :
      (checkSlots damaged s.store.slots).get n = (startUpEnd damaged s).storeSlot n := by
    rw [State.storeSlot_eq_get, store]
  obtain ⟨-, -, -, timer, engine, spot, router⟩ := startUpEnd_frame damaged s
  refine ⟨startUpEnd damaged s, s.store.fixture.bootSlot, exec_startUpEnd damaged starting up, rfl,
    by rw [store], startUpEnd_port damaged s, by rw [store], by rw [store], by rw [store],
    fun n => ?slots, by rw [plans], by rw [plans], fun noBoot => ?none, fun n p boot valid content => ?plan,
    fun n boot invalid => ?invalid, startUpEnd_link damaged s, fun n low high => ?probe, timer, engine, spot,
    router, startUpEnd_session damaged s⟩
  case slots => rw [startUpEnd_storeSlot, StoreSlot.checked_eq]
  case none =>
    have choice : s.bootChoice damaged = ⟨.none, Plan.empty, Plan.empty⟩ := by
      rw [State.bootChoice, noBoot]; rfl
    rw [result, plans, choice]
    exact ⟨rfl, rfl, rfl⟩
  case plan =>
    rw [← slot] at valid content
    have choice : s.bootChoice damaged = bootPlan p := by
      rw [State.bootChoice, boot, chooseBoot_of_content valid content]
    rw [result, plans, choice]
    refine ⟨bootPlan_shadow p, fun checks => ?_, fun fails => ?_⟩
    · rw [bootPlan_of_valid checks]; exact ⟨rfl, rfl⟩
    · rw [bootPlan_of_invalid fails]; exact ⟨rfl, rfl⟩
  case invalid =>
    rw [← slot] at invalid
    have choice : s.bootChoice damaged = ⟨.slotNotValid, Plan.empty, Plan.empty⟩ := by
      rw [State.bootChoice, boot, chooseBoot_of_not_valid invalid]
    rw [result, plans, choice]
    exact ⟨rfl, rfl, rfl⟩
  case probe =>
    refine ⟨?policy, ?setup, startUpEnd_portState damaged s low high, ?state, ?serial,
      fun invalid => ?defaults, fun valid => ?stored⟩
    all_goals rw [startUpEnd_probe damaged s low high]
    case defaults =>
      have stored : s.store.fixture.probe n = StoredProbe.default := if_neg (Bool.eq_false_iff.mp invalid)
      rw [stored]; exact ⟨rfl, rfl, rfl, rfl⟩
    case stored => exact ⟨rfl, rfl, rfl, rfl⟩
    all_goals rfl

end Sys2Proof.Machine

/-! The two resets (R41, R66, R88, R175, R178, R184, R185): what SOFT RESET makes of each slot's entry and port, and
what a hard reset keeps of the store. -/

namespace Sys2Proof.Machine

/-! ## SOFT RESET at one slot (R66) -/

/-- The fields that a soft reset writes: the assignments and the mark are gone, and a probe IN_STEP or SYNCING
starts SYNCING afresh. -/
theorem ProbeEntry.softReset_eq (e : ProbeEntry) (policy : Policy) :
    e.softReset policy
      = { e with
          current := none, queued := none, outstanding := none, missCount := 0
          policy := if e.queued.isSome then policy else e.policy
          state := if e.state = .inStep then .syncing else e.state
          syncCount := if e.state = .inStep ∨ e.state = .syncing then 0 else e.syncCount } := by
  have cleared : e.clearAssignments policy
      = { e with
          current := none, queued := none, policy := if e.queued.isSome then policy else e.policy } := by
    rw [ProbeEntry.clearAssignments, ProbeEntry.dropQueued]
    split
    · rfl
    · next unqueued => rw [← Option.not_isSome_iff_eq_none.mp unqueued]
  rw [ProbeEntry.softReset, cleared]
  by_cases stepping : e.state = .inStep
  · simp [stepping]
  · by_cases syncing : e.state = .syncing <;> simp [stepping, syncing]

section
variable (s : State)

theorem softResetBlocks_probe (n : Nat) : (softResetBlocks s).probe n = s.probe n := (rfl)
theorem softResetBlocks_params : (softResetBlocks s).params = s.params := (rfl)
theorem emptyTransmit_probe (n : Nat) : (emptyTransmit s).probe n = s.probe n := (rfl)
theorem emptyTransmit_session : (emptyTransmit s).registry.session = s.registry.session := (rfl)
theorem emptyTransmit_calWrite : (emptyTransmit s).registry.calWrite = s.registry.calWrite := (rfl)

theorem emptyTransmit_portState (n : Nat) :
    (emptyTransmit s).portState n = { s.portState n with transmit := [] } := by
  rcases n with _ | i
  · rfl
  · simp only [State.portState, emptyTransmit, State.withRegistry_registry, Tab.getSlot, Tab.get,
      Vector.getElem?_map]
    cases s.registry.ports[i]? <;> rfl

theorem softResetProbes_probe {n : Nat} (low : 1 ≤ n) (high : n ≤ 18) :
    (softResetProbes s).probe n = (s.probe n).softReset (s.params.policy n) :=
  (foldl_mapProbe (fun n t e => e.softReset (t.params.policy n)) s
    (fun t n plans _ _ => by rw [State.params_of_plans plans]) n).trans (if_pos ⟨low, high⟩)

theorem softResetProbes_probeTable : ∃ p, softResetProbes s = s.withProbeTable p :=
  foldl_probeTable (fun t n => t.mapProbe n fun e => e.softReset (t.params.policy n)) (fun _ _ => ⟨_, rfl⟩)
    allSlots s

theorem softReset_probe {n : Nat} (low : 1 ≤ n) (high : n ≤ 18) :
    (softReset s).probe n = (s.probe n).softReset (s.params.policy n) := by
  rw [softReset, parkAll_probe, emptyTransmit_probe, softResetProbes_probe _ low high,
    softResetBlocks_probe, softResetBlocks_params]

/-- PARK is alone in the emptied list of every probe that is not ABSENT. -/
theorem softReset_portState {n : Nat} (low : 1 ≤ n) (high : n ≤ 18) :
    (softReset s).portState n
      = { s.portState n with
          transmit := if (s.probe n).state = .absent then [] else [.park s.params.parkMode] } := by
  have absent : ((s.probe n).softReset (s.params.policy n)).state = .absent
      ↔ (s.probe n).state = .absent := by
    rw [ProbeEntry.softReset_eq]
    dsimp only
    split
    · next stepping => simp [stepping]
    · rfl
  have params : (emptyTransmit (softResetProbes (softResetBlocks s))).params = s.params := by
    rw [State.params_of_plans (s := softResetBlocks s) (by simp), softResetBlocks_params]
  have port : (softResetProbes (softResetBlocks s)).portState n = s.portState n := by
    obtain ⟨p, table⟩ := softResetProbes_probeTable (softResetBlocks s)
    rw [table]; rfl
  rw [softReset, parkAll_portState, params, emptyTransmit_portState, port, emptyTransmit_probe,
    softResetProbes_probe _ low high, softResetBlocks_probe, softResetBlocks_params]
  by_cases gone : (s.probe n).state = .absent
  · simp [absent, gone]
  · simp [absent, gone, low, high, PortState.hand, Config.transmitRoom]

/-- The blocks but the registry take the values of `softResetBlocks`. -/
theorem softReset_blocks :
    (softReset s).timer = SweepTimer.reset ∧ (softReset s).engine = s.engine.softReset
      ∧ (softReset s).spot = [] ∧ (softReset s).router = ⟨ResultQueue.empty, ResultQueue.empty⟩
      ∧ (softReset s).plans = { s.plans with applyPending := false }
      ∧ (softReset s).port = { s.port with flags := 0 } := by
  simp [softReset, softResetBlocks]

theorem softReset_session : (softReset s).registry.session = Session.reset := by
  obtain ⟨p, table⟩ := softResetProbes_probeTable (softResetBlocks s)
  rw [softReset, parkAll_session, emptyTransmit_session, table]; rfl

theorem softReset_calWrite : (softReset s).registry.calWrite = s.registry.calWrite := by
  obtain ⟨p, table⟩ := softResetProbes_probeTable (softResetBlocks s)
  rw [softReset, parkAll_calWrite, emptyTransmit_calWrite, table]; rfl

theorem softReset_engine : (softReset s).engine = s.engine.softReset := by
  obtain ⟨-, engine, -⟩ := softReset_blocks s
  exact engine

theorem softReset_openAt (k : Fin 8) : (softReset s).openAt k = none := by
  rw [State.openAt, softReset_engine]
  exact Tab.get_replicate_same none k.val

theorem softReset_turn (k : Fin 8) : (softReset s).turn k = s.turn k + 1 := by
  rw [State.turn, State.turn, softReset_engine, StepEngine.softReset, Tab.get, Tab.get,
    Vector.getElem?_map, Vector.getElem?_eq_getElem k.isLt]
  rfl

end

theorem exec_softReset {s : State} (hs : s.serves = true) :
    exec (.softReset (requestCrc 0x7F [])) s = .next (reply .done (softReset s)).finish :=
  congrArg Host.Outcome.next (takeRequest_serves 0x7F [] (fun s => reply .done (softReset s)) hs)

/-- Settles O40: the blocks take their reset values, and each slot its cleared entry and port. -/
theorem softResetClearsTheRun : Obligations.SoftResetClearsTheRun := by
  unfold Obligations.SoftResetClearsTheRun
  intro s hs
  obtain ⟨timer, engine, spot, router, plans, port⟩ := softReset_blocks s
  obtain ⟨-, -, -, links⟩ := softReset_frame s
  refine ⟨(softReset s).answered ⟨.done, []⟩, ?taken, ?run, ?health, ?time, ?number, ?sweepTime, ?pattern,
    ?notStarted, fun k => ⟨?openAt, ?turn⟩, ?merged, ?free, ?spot, ?router, ?plans, ?links, ?store, ?port,
    ?session, ?calWrite, fun n low high => ?slot⟩
  case taken => rw [exec_softReset hs, reply_finish]
  case run | health | time | number | sweepTime | pattern | notStarted =>
    rw [State.answered_timer, timer]; rfl
  case openAt => rw [State.answered_openAt, softReset_openAt]
  case turn => rw [State.answered_turn, softReset_turn]
  case merged | free => rw [State.answered_engine, engine]; rfl
  case spot => rw [State.answered_spot, spot]
  case router => rw [State.answered_router, router]; rfl
  case plans => rw [State.answered_plans, plans]
  case links => rw [State.answered_links, links]
  case store => rw [State.answered_store, softReset_store]
  case port => rw [State.answered_port, port]
  case session => rw [State.answered_registry, softReset_session]; rfl
  case calWrite => rw [State.answered_registry, softReset_calWrite]
  case slot =>
    rw [State.answered_probe, State.answered_portState, softReset_portState s low high,
      softReset_probe s low high, ProbeEntry.softReset_eq]
    refine ⟨rfl, rfl, rfl, rfl, rfl, fun syncing => if_pos ?_, rfl, rfl, rfl, rfl, rfl⟩
    by_cases stepping : (s.probe n).state = .inStep
    · exact .inl stepping
    · exact .inr ((if_neg stepping).symm.trans syncing)

/-! ## The hard reset (R168, R175, R178, R185) -/

theorem Tab.getSlot_replicate_same {α : Type} {n : Nat} (d : α) (k : Nat) :
    Tab.getSlot d (Vector.replicate n d) k = d := by
  cases k with
  | zero => rfl
  | succ i => exact Tab.get_replicate_same d i

section
variable (s : State)

/-- The part as HARD_RESET leaves it (R185). -/
def State.cut (s : State) : State :=
  State.hardReset true s.port.csLow s.slotsAfterCut s.fixtureAfterCut s.pending (s.freeCount + 1)

theorem exec_hardReset : exec .hardReset s = .next s.cut := (rfl)

theorem State.cut_openAt (k : Fin 8) : s.cut.openAt k = none := Tab.get_replicate_same none k.val

theorem State.cut_turn (k : Fin 8) : s.cut.turn k = 0 := Tab.get_replicate_same 0 k.val

theorem State.cut_probe (n : Nat) : s.cut.probe n = ProbeEntry.reset :=
  Tab.getSlot_replicate_same ProbeEntry.reset n

theorem State.cut_portState (n : Nat) : s.cut.portState n = PortState.reset :=
  Tab.getSlot_replicate_same PortState.reset n

theorem State.cut_link (id : Nat) : s.cut.link id = LinkRecord.fresh 0 :=
  Tab.get_replicate_same (LinkRecord.fresh 0) id

/-- Of the slots a LOCK cut short alone touches one, and there the locked flag alone, which it may set. -/
theorem State.cut_storeSlot (n : Fin 4) :
    s.cut.storeSlot n = s.storeSlot n
      ∨ s.store.state = .busy (.lock n)
        ∧ ∃ locks, s.cut.storeSlot n
          = { s.storeSlot n with locked := (s.storeSlot n).locked || locks } := by
  by_cases locking : ∃ k, s.store.state = .busy (.lock k)
  · obtain ⟨k, locking⟩ := locking
    have written := State.storeSlot_of_put (t := s.cut) (State.slotsAfterCut_of_lock locking) n
    by_cases own : k = n
    · subst own
      exact .inr ⟨locking, _, written.trans (if_pos rfl)⟩
    · exact .inl (written.trans (if_neg own))
  · exact .inl (State.storeSlot_of_slots (State.slotsAfterCut_of_no_lock (not_exists.mp locking)) n)

variable {s}

theorem State.fixtureAfterCut_of_write (h : s.store.state = .busy .fixtureWrite) :
    s.fixtureAfterCut = { s.store.fixture with valid := false } := by
  rw [State.fixtureAfterCut, h]

theorem State.fixtureAfterCut_of_no_write (h : s.store.state ≠ .busy .fixtureWrite) :
    s.fixtureAfterCut = s.store.fixture := by
  unfold State.fixtureAfterCut
  split
  · next writing => exact absurd writing h
  · rfl

theorem exec_startUpBegin (held : s.port.resetLow = true) :
    exec .startUpBegin s = .next (s.withPort { s.port with resetLow := false }) :=
  congrArg Host.Outcome.next (if_pos held)

theorem exec_startUpBegin_of_up (up : s.port.resetLow = false) : exec .startUpBegin s = .next s :=
  congrArg Host.Outcome.next (if_neg (Bool.eq_false_iff.mp up))

end

/-- Settles O41: every table reads as its reset value, and the store keeps its slots and its record but for the
operation cut short. -/
theorem hardResetKeepsTheStore : Obligations.HardResetKeepsTheStore := by
  unfold Obligations.HardResetKeepsTheStore
  refine fun s => ⟨⟨s.cut, exec_hardReset s, rfl, State.misoReleased_of_reset rfl, rfl, rfl, rfl, rfl, rfl,
    fun k => ⟨s.cut_openAt k, s.cut_turn k⟩, rfl, rfl, fun n => ⟨s.cut_probe n, s.cut_portState n⟩, rfl,
    s.cut_link, rfl, rfl, rfl, rfl, rfl, rfl, fun n => ?content, fun n other => ?slot,
    fun n locked => ?locked, State.fixtureAfterCut_of_no_write, State.fixtureAfterCut_of_write⟩,
    exec_startUpBegin, exec_startUpBegin_of_up⟩
  case content =>
    obtain same | ⟨-, locks, cut⟩ := s.cut_storeSlot n
    · rw [same]
    · rw [cut]
  case slot => exact (s.cut_storeSlot n).resolve_right fun ⟨locking, _⟩ => other locking
  case locked =>
    obtain same | ⟨-, locks, cut⟩ := s.cut_storeSlot n
    · rw [same, locked]
    · rw [cut, locked, Bool.true_or]

end Sys2Proof.Machine

/-! Every command and the queue (R179, R185): the effect of a request behind the port's checks, what a message or an
event leaves of the queue, and that a part held in reset takes neither. -/

namespace Sys2Proof.Machine

/-! ## The effects of the requests leave the queue -/

theorem shadowWrite_pending (target : Byte) (index : Half) (content : List Byte) (s : State) :
    (shadowWrite target index content s).state.pending = s.pending := by
  unfold shadowWrite; (repeat' split) <;> simp

theorem shadowRead_pending (target : Byte) (index : Half) (s : State) :
    (shadowRead target index s).state.pending = s.pending := by
  unfold shadowRead; (repeat' split) <;> simp

theorem activeRead_pending (target : Byte) (index : Half) (s : State) :
    (activeRead target index s).state.pending = s.pending := by
  unfold activeRead; split <;> simp

theorem shadowClear_pending (s : State) : (shadowClear s).state.pending = s.pending := by
  unfold shadowClear; (repeat' split) <;> simp

theorem liveEdit_pending (target : Byte) (index : Half) (content : List Byte) (s : State) :
    (liveEdit target index content s).state.pending = s.pending := by
  unfold liveEdit; split <;> simp

theorem applyShadow_pending (s : State) : (applyShadow s).state.pending = s.pending := by
  unfold applyShadow; (repeat' split) <;> simp

theorem cancelApply_pending (s : State) : (cancelApply s).state.pending = s.pending := by
  unfold cancelApply; split <;> simp

theorem runStart_pending (fresh : Byte) (s : State) : (runStart fresh s).state.pending = s.pending := by
  unfold runStart; (repeat' split) <;> simp

theorem runPause_pending (s : State) : (runPause s).state.pending = s.pending := by
  unfold runPause; (repeat' split) <;> simp

theorem runResume_pending (s : State) : (runResume s).state.pending = s.pending := by
  unfold runResume; split <;> simp

theorem runStop_pending (s : State) : (runStop s).state.pending = s.pending := by
  unfold runStop; (repeat' split) <;> simp

theorem runAbort_pending (s : State) : (runAbort s).state.pending = s.pending := by
  unfold runAbort; split <;> simp

theorem onLink_pending {link : Half} {effect : Nat → State → Reply} {s : State}
    (h : (effect link.toNat s).state.pending = s.pending) :
    (onLink link effect s).state.pending = s.pending := by
  unfold onLink
  split
  · exact h
  · rfl

theorem probeRead_pending (slot : Byte) (s : State) : (probeRead slot s).state.pending = s.pending := by
  unfold probeRead; split <;> simp

theorem onQueue_pending {queue : Byte} {effect : QueueId → State → Reply} {s : State}
    (h : ∀ id, (effect id s).state.pending = s.pending) :
    (onQueue queue effect s).state.pending = s.pending := by
  unfold onQueue
  split
  · exact h _
  · rfl

theorem popQueue_pending (id : QueueId) (s : State) : (popQueue id s).state.pending = s.pending := by
  unfold popQueue; split <;> simp

theorem spotRequest_pending (link : Half) (repeats marker : Byte) (s : State) :
    (spotRequest link repeats marker s).state.pending = s.pending := by
  simp [spotRequest]

theorem spotCancel_pending (link : Half) (s : State) : (spotCancel link s).state.pending = s.pending := by
  unfold spotCancel; (repeat' split) <;> simp

theorem calSelect_pending (slots : BitVec 24) (kind range quick : Byte) (s : State) :
    (calSelect slots kind range quick s).state.pending = s.pending := by
  unfold calSelect; (repeat' split) <;> simp

theorem calCapture_pending (s : State) : (calCapture s).state.pending = s.pending := by
  unfold calCapture
  split
  · dsimp only; split <;> simp
  · rfl

theorem calAccept_pending (s : State) : (calAccept s).state.pending = s.pending := by
  unfold calAccept; (repeat' split) <;> simp

theorem calRevert_pending (slots : BitVec 24) (ranges : Byte) (s : State) :
    (calRevert slots ranges s).state.pending = s.pending := by
  unfold calRevert; (repeat' split) <;> simp

theorem guardedStore_pending {slot : Byte} {fits : Bool} {effect : Fin 4 → State → Reply} {s : State}
    (h : ∀ n, (effect n s).state.pending = s.pending) :
    (guardedStore slot fits effect s).state.pending = s.pending := by
  unfold guardedStore
  (repeat' split) <;> simp [h]

theorem lockSlot_pending (n : Fin 4) (s : State) : (lockSlot n s).state.pending = s.pending := by
  unfold lockSlot; split <;> simp

theorem storeLoad_pending (slot : Byte) (s : State) : (storeLoad slot s).state.pending = s.pending := by
  unfold storeLoad; (repeat' split) <;> simp

theorem storeSetBoot_pending (slot : Byte) (s : State) :
    (storeSetBoot slot s).state.pending = s.pending := by
  unfold storeSetBoot; (repeat' split) <;> simp

/-! ## What a request can do (R178, R179) -/

/-- The outcome of a request: behind the port's checks it has an effect that leaves the queue, which is BUSY while
the store is STARTING in every request but STATUS READ and CAPABILITY READ. -/
def Result.TakesRequest (r : Request) (s : State) (o : Host.Outcome State Fault Refusal) : Prop :=
  ∃ effect : State → Reply, o = .next (takeAlways r.command r.params r.crc effect s)
    ∧ (effect s).state.pending = s.pending
    ∧ (s.starting = true → r.command ≠ 0x01 → r.command ≠ 0x02 → effect s = refuse .busy s)

theorem Result.TakesRequest.of_effect {command crc : Byte} {params : List Byte} {effect : State → Reply}
    {s : State} (h : (effect s).state.pending = s.pending) :
    TakesRequest ⟨command, params, crc⟩ s (.next (takeRequest command params crc effect s)) := by
  refine ⟨_, rfl, ?_, fun starting _ _ => if_pos starting⟩
  split
  · rfl
  · exact h

open Result.TakesRequest in
theorem exec_takesRequest (s : State) :
    ∀ {c : Instr} {r : Request}, c.request = some r → Result.TakesRequest r s (exec c s)
  | .statusRead _, _, rfl => ⟨_, rfl, rfl, fun _ other => absurd rfl other⟩
  | .capabilityRead _, _, rfl => ⟨_, rfl, rfl, fun _ _ other => absurd rfl other⟩
  | .shadowWrite .., _, rfl => of_effect (shadowWrite_pending ..)
  | .shadowRead .., _, rfl => of_effect (shadowRead_pending ..)
  | .activeRead .., _, rfl => of_effect (activeRead_pending ..)
  | .shadowClear _, _, rfl => of_effect (shadowClear_pending s)
  | .liveEdit .., _, rfl => of_effect (liveEdit_pending ..)
  | .applyPlan _, _, rfl => of_effect (applyShadow_pending s)
  | .applyCancel _, _, rfl => of_effect (cancelApply_pending s)
  | .runStart .., _, rfl => of_effect (runStart_pending ..)
  | .runPause _, _, rfl => of_effect (runPause_pending s)
  | .runResume _, _, rfl => of_effect (runResume_pending s)
  | .runStop _, _, rfl => of_effect (runStop_pending s)
  | .runAbort _, _, rfl => of_effect (runAbort_pending s)
  | .linkRead .., _, rfl => of_effect (onLink_pending rfl)
  | .linkClear .., _, rfl => of_effect (onLink_pending (by simp))
  | .linkWithdraw .., _, rfl => of_effect (onLink_pending (by simp))
  | .linkRestore .., _, rfl => of_effect (onLink_pending (by simp))
  | .probeRead .., _, rfl => of_effect (probeRead_pending ..)
  | .queuePop .., _, rfl => of_effect (onQueue_pending fun id => popQueue_pending id s)
  | .queueStatus .., _, rfl => of_effect (onQueue_pending fun _ => rfl)
  | .queueFlush .., _, rfl => of_effect (onQueue_pending fun _ => rfl)
  | .spotRequest .., _, rfl => of_effect (spotRequest_pending ..)
  | .spotCancel .., _, rfl => of_effect (spotCancel_pending ..)
  | .spotList _, _, rfl => of_effect rfl
  | .calSelect .., _, rfl => of_effect (calSelect_pending ..)
  | .calCapture _, _, rfl => of_effect (calCapture_pending s)
  | .calAccept _, _, rfl => of_effect (calAccept_pending s)
  | .calRevert .., _, rfl => of_effect (calRevert_pending ..)
  | .storeWriteEnable _, _, rfl => of_effect rfl
  | .storeSave .., _, rfl => of_effect (guardedStore_pending fun _ => by simp)
  | .storeErase .., _, rfl => of_effect (guardedStore_pending fun _ => by simp)
  | .storeLock .., _, rfl => of_effect (guardedStore_pending fun n => lockSlot_pending n s)
  | .storeLoad .., _, rfl => of_effect (storeLoad_pending ..)
  | .storeSetBoot .., _, rfl => of_effect (storeSetBoot_pending ..)
  | .attnEnable .., _, rfl => of_effect rfl
  | .attnClear .., _, rfl => of_effect rfl
  | .softReset _, _, rfl => of_effect (by simp)

/-! ## RESET# high when an event is due (R185, log 3) -/

section
variable {s : State}

theorem State.up_of_sweepStartDue (h : s.sweepStartDue = true) : s.port.resetLow = false := by
  by_contra low; simp [State.sweepStartDue, low] at h

theorem State.up_of_kindReached {i : Nat} {k : TimingKind} (h : s.kindReached i k = true) :
    s.port.resetLow = false := by
  by_contra low; simp [State.kindReached, State.markReached, low] at h

theorem State.up_of_limitReached (h : s.limitReached = true) : s.port.resetLow = false := by
  by_contra low; simp [State.limitReached, low] at h

theorem State.up_of_captureDue (h : s.captureDue = true) : s.port.resetLow = false := by
  by_contra low; simp [State.captureDue, low] at h

theorem State.up_of_performs {op : StoreOp} (h : s.performs op = true) : s.port.resetLow = false := by
  by_contra low; simp [State.performs, low] at h

theorem deadlineEvent_of_reset (k : Fin 8) (turn : BitVec 4) (low : s.port.resetLow = true) :
    deadlineEvent k turn s = s := by
  unfold deadlineEvent
  split
  · simp [low]
  · rfl

end

/-! ## What every command makes of the part (R185, log 10) -/

/-- The queue stays, and a part held in reset is left as it is. -/
structure State.GoesTo (s t : State) : Prop where
  queue : t.pending = s.pending
  held : s.port.resetLow = true → t = s

namespace State.GoesTo

variable {s t : State}

theorem refl (s : State) : s.GoesTo s := ⟨rfl, fun _ => rfl⟩

/-- An effect under a condition that fails while RESET# is low. -/
theorem of_if {c : Prop} [Decidable c] (up : c → s.port.resetLow = false) (queue : t.pending = s.pending) :
    s.GoesTo (if c then t else s) := by
  split
  · next h => exact ⟨queue, fun low => by rw [up h] at low; contradiction⟩
  · exact refl s

/-- The end of an operation on a slot, which is in progress only while RESET# is high. -/
theorem of_slotEnd (slot : Option (Fin 4)) (effect : Fin 4 → State) :
    (∀ n, slot = some n → s.port.resetLow = false) → (∀ n, (effect n).pending = s.pending) →
      s.GoesTo (match slot with | some n => effect n | none => s) := by
  intro up queue
  split
  · next n => exact ⟨queue n, fun low => by rw [up n rfl] at low; contradiction⟩
  · exact refl s

theorem of_takeAlways {command crc : Byte} {params : List Byte} {effect : State → Reply}
    (queue : (effect s).state.pending = s.pending) :
    s.GoesTo (takeAlways command params crc effect s) := by
  refine ⟨?_, fun low => if_pos low⟩
  unfold takeAlways
  repeat' split
  · rfl
  · rfl
  · exact queue
  · rfl

theorem of_receive {n : Nat} {checks : Bool} {admits : ProbeState → Bool} {effect : State → State}
    (queue : (effect (hearProbe n s)).pending = s.pending) :
    s.GoesTo (receive n checks admits effect s) := by
  refine ⟨?_, fun low => if_pos low⟩
  unfold receive
  dsimp only
  repeat' split
  · rfl
  · simp
  · exact queue
  · simp

end State.GoesTo

/-- The outcome of a command goes on to such a state. -/
def Result.GoesOn (s : State) (o : Host.Outcome State Fault Refusal) : Prop := ∃ t, o = .next t ∧ s.GoesTo t

theorem Result.GoesOn.next {s t : State} (h : s.GoesTo t) : Result.GoesOn s (.next t) := ⟨t, rfl, h⟩

theorem Result.GoesOn.of_request {r : Request} {s : State} {o : Host.Outcome State Fault Refusal}
    (h : Result.TakesRequest r s o) : Result.GoesOn s o := by
  obtain ⟨effect, rfl, queue, -⟩ := h
  exact .next (.of_takeAlways queue)

open State.GoesTo Result.GoesOn in
/-- Every command but the reset and its end, which act while RESET# is low. -/
theorem exec_goesOn (s : State) {c : Instr} (cut : c ≠ .hardReset) (begun : c ≠ .startUpBegin) :
    Result.GoesOn s (exec c s) := by
  match request : c.request with
  | some r => exact of_request (exec_takesRequest s request)
  | none =>
    cases c <;> cases request
    case hardReset => contradiction
    case startUpBegin => contradiction
    case unknownCommand command next =>
      exact .next (by split; exacts [refl s, of_takeAlways rfl])
    case hello | setupAck | markAck | statusReport | doneReport | readingReport | contresReport | calRead
        | spotAsk | spotDrop =>
      exact .next (of_receive (by simp))
    case sweepStart => exact .next (of_if State.up_of_sweepStartDue (by simp))
    case timedMark | mergedMark | markEntry | freeEntry =>
      exact .next (of_if State.up_of_kindReached (by simp))
    case deadline k turn => exact .next ⟨by simp, deadlineEvent_of_reset k turn⟩
    case fixtureTimeLimit => exact .next (of_if State.up_of_limitReached (by simp))
    case captureDeadline => exact .next (of_if State.up_of_captureDue (by simp))
    case saveEnd => exact .next (of_slotEnd _ _ (fun _ h => (State.saving_iff.mp h).left) fun _ => by simp)
    case eraseEnd => exact .next (of_slotEnd _ _ (fun _ h => (State.erasing_iff.mp h).left) fun _ => by simp)
    case lockEnd => exact .next (of_slotEnd _ _ (fun _ h => (State.locking_iff.mp h).left) fun _ => by simp)
    case loadEnd => exact .next (of_slotEnd _ _ (fun _ h => (State.filling_iff.mp h).left) fun _ => by simp)
    case fixtureWriteEnd => exact .next (of_if State.up_of_performs (by simp))
    case frameError | probeFrameSend =>
      exact .next ⟨by split <;> simp, fun low => if_pos (by simp [low])⟩
    case startUpEnd => exact .next (of_if (by simp) (by simp))

/-- Settles O3: a request has its effect behind the port's checks, a message and an event theirs while RESET# is
high, and the reset and its end keep the queue. -/
theorem everyCommandGoesOnAndLeavesTheQueue : Obligations.EveryCommandGoesOnAndLeavesTheQueue := by
  unfold Obligations.EveryCommandGoesOnAndLeavesTheQueue
  refine ⟨fun c s => ?queue, fun c s low cut begun => ?held⟩
  case queue =>
    by_cases cut : c = .hardReset
    · subst cut; exact ⟨_, rfl, rfl⟩
    · by_cases begun : c = .startUpBegin
      · subst begun; exact ⟨_, rfl, by split <;> rfl⟩
      · obtain ⟨t, goes, go⟩ := exec_goesOn s cut begun
        exact ⟨t, goes, go.queue⟩
  case held =>
    obtain ⟨t, goes, go⟩ := exec_goesOn s cut begun
    rw [goes, go.held low]

end Sys2Proof.Machine

/-! The station port (R178 to R183, R185): its checks before a request's own, the attention requests, and the answers
of STATUS READ and CAPABILITY READ. -/

namespace Sys2Proof.Machine

/-! ## The checks of the port (R178, R179) -/

section
variable {s : State} {command crc : Byte} {params : List Byte} {effect : State → Reply}

theorem takeAlways_of_crc (listens : s.listens = true) (h : requestCrc command params ≠ crc) :
    takeAlways command params crc effect s = s.answered ⟨.crc, []⟩ := by
  obtain ⟨up, high⟩ := s.listens_iff.mp listens
  simp [takeAlways, up, high, h, Answer.bare]

/-- A byte for which 12.2 gives no parameters names no request. -/
theorem namesRequest_of_no_parameters (h : parameterLength command = none) :
    namesRequest command = false := by
  have lengths : ∀ b ∈ requestCommands, parameterLength b ≠ none := by decide
  by_contra names
  exact lengths command (by simpa [namesRequest] using names) h

theorem exec_unknownCommand (next : Byte) (h : parameterLength command = none) :
    exec (.unknownCommand command next) s = .next (takeAlways command [] next (refuse .unknown) s) :=
  congrArg Host.Outcome.next (if_neg (Bool.eq_false_iff.mp (namesRequest_of_no_parameters h)))

end

/-- Settles O4: every request comes to `takeAlways`, whose checks are R179's. -/
theorem portChecksComeFirst : Obligations.PortChecksComeFirst := by
  unfold Obligations.PortChecksComeFirst
  refine ⟨fun i r s request listens differs => ?crc,
    fun i r s request listens checks starting status capability => ?busy,
    fun command next s unnamed listens => ?unknown,
    fun i s up low transaction => ⟨s.raiseCs, ?begun, rfl, s.raiseCs_misoReleased⟩⟩
  case crc =>
    obtain ⟨effect, taken, -, -⟩ := exec_takesRequest s request
    rw [taken, takeAlways_of_crc listens differs]
  case busy =>
    obtain ⟨effect, taken, -, busy⟩ := exec_takesRequest s request
    have starting : s.starting = true := by rw [State.starting, starting]; rfl
    rw [taken, ← checks, takeAlways_checks _ _ _ listens, busy starting status capability, refuse_finish]
  case unknown =>
    rw [exec_unknownCommand next unnamed]
    by_cases checks : crc8 [command] = next
    · rw [if_pos checks, ← checks]
      exact congrArg Host.Outcome.next (takeAlways_checks command [] (refuse .unknown) listens)
    · rw [if_neg checks, takeAlways_of_crc listens checks]
  case begun =>
    rcases transaction with ⟨r, request⟩ | ⟨command, next, rfl, unnamed⟩
    · obtain ⟨effect, taken, -, -⟩ := exec_takesRequest s request
      rw [taken, takeAlways_begun _ _ _ _ up low]
    · rw [exec_unknownCommand next unnamed, takeAlways_begun _ _ _ _ up low]

/-! ## ATTN ENABLE and ATTN CLEAR (R181) -/

theorem Flag.bit_lt (f : Flag) : f.bit < 12 := by cases f <;> decide

/-- A flag set names a flag by its bit. -/
theorem flagSet_getLsbD (set : Half) (f : Flag) : (flagSet set).getLsbD f.bit = set.getLsbD f.bit := by
  rw [flagSet, BitVec.getLsbD_setWidth, decide_eq_true f.bit_lt, Bool.true_and]

section
variable {s : State}

theorem exec_attnEnable (set : Half) (hs : s.serves = true) :
    exec (.attnEnable set (requestCrc 0x70 (halfBytes set))) s = .next (enableFlags set s).finish :=
  congrArg Host.Outcome.next (takeRequest_serves 0x70 _ _ hs)

theorem exec_attnClear (set : Half) (hs : s.serves = true) :
    exec (.attnClear set (requestCrc 0x71 (halfBytes set))) s = .next (clearFlags set s).finish :=
  congrArg Host.Outcome.next (takeRequest_serves 0x71 _ _ hs)

theorem clearFlags_isSet (set : Half) (f : Flag) :
    (clearFlags set s).finish.port.isSet f = (s.port.isSet f && !set.getLsbD f.bit) := by
  change (s.port.flags &&& ~~~flagSet set).getLsbD f.bit = _
  rw [BitVec.getLsbD_and, BitVec.getLsbD_not, decide_eq_true f.bit_lt, Bool.true_and, flagSet_getLsbD]
  rfl

end

/-- Settles O7: the enables become the set's twelve bits, and the flags lose them. -/
theorem attentionRequestsSetEnablesAndClearFlags :
    Obligations.AttentionRequestsSetEnablesAndClearFlags := by
  unfold Obligations.AttentionRequestsSetEnablesAndClearFlags
  exact fun set s hs =>
    ⟨⟨(enableFlags set s).finish, exec_attnEnable set hs, flagSet_getLsbD set, rfl⟩,
      ⟨(clearFlags set s).finish, exec_attnClear set hs, clearFlags_isSet set, rfl⟩⟩

/-! ## STATUS READ and CAPABILITY READ (R182, R183, R187) -/

section
variable (s : State)

@[simp] theorem State.runBytes_length : s.runBytes.length = 10 := by
  unfold State.runBytes; split <;> simp

@[simp] theorem StoreState.encode_length (x : StoreState) : x.encode.length = 3 := by cases x <;> rfl

@[simp] theorem StoreSlot.encode_length (starting : Bool) (x : StoreSlot) :
    (x.encode starting).length = 10 := by
  unfold StoreSlot.encode; split <;> simp

@[simp] theorem LastResult.encode_length (x : Option LastResult) : (LastResult.encode x).length = 3 := by
  cases x <;> rfl

@[simp] theorem State.bootBytes_length : s.bootBytes.length = 3 := by
  unfold State.bootBytes; split <;> rfl

@[simp] theorem State.fillBytes_length : s.fillBytes.length = 3 := by
  unfold State.fillBytes; split <;> rfl

/-- The bytes of STATUS READ between the run group and the session state: the plan and the store. -/
def State.storeBytes : List Byte :=
  [boolByte s.plans.applyPending] ++ natWord s.plans.generation
    ++ s.store.state.encode ++ [boolByte s.store.latch]
    ++ s.store.slots.toList.flatMap (StoreSlot.encode s.starting)
    ++ LastResult.encode s.store.lastResult ++ s.bootBytes

@[simp] theorem State.storeBytes_length : s.storeBytes.length = 55 := by
  simp [State.storeBytes, List.length_flatMap]

/-- The 65 bytes of the run, the plan and the store, the session state, the two flag sets, and the fill levels. -/
theorem State.statusBytes_eq :
    s.statusBytes
      = (s.runBytes ++ s.storeBytes) ++ s.registry.session.state.toByte
        :: ((halfBytes (s.port.flags.setWidth 16) ++ halfBytes (s.port.enables.setWidth 16)) ++ s.fillBytes) := by
  simp [State.statusBytes, State.storeBytes]

theorem State.statusBytes_length : s.statusBytes.length = 73 := by
  simp [State.statusBytes_eq]

theorem State.statusBytes_run : s.statusBytes.take 10 = s.runBytes := by
  rw [State.statusBytes_eq, List.append_assoc]
  exact List.take_left' s.runBytes_length

theorem State.statusBytes_session : byteAt s.statusBytes 65 = s.registry.session.state.toByte := by
  rw [State.statusBytes_eq]
  exact byteAt_append_cons (by simp)

theorem State.statusBytes_flags :
    (s.statusBytes.drop 66).take 4
      = halfBytes (s.port.flags.setWidth 16) ++ halfBytes (s.port.enables.setWidth 16) := by
  rw [State.statusBytes_eq, List.append_cons, List.drop_left' (by simp)]
  exact List.take_left' (by simp)

theorem capabilityBytes_eq : capabilityBytes = [18, 2, 0, 2, 0, 32, 32, 8, 3, 8, 2, 64, 9, 4, 12, 1] := (rfl)

variable {s}

theorem exec_statusRead (listens : s.listens = true) :
    exec (.statusRead (requestCrc 0x01 [])) s = .next (s.answered ⟨.done, s.statusBytes⟩) :=
  congrArg Host.Outcome.next (takeAlways_checks 0x01 [] (fun s => readOut s.statusBytes s) listens)

theorem exec_capabilityRead (listens : s.listens = true) :
    exec (.capabilityRead (requestCrc 0x02 [])) s = .next (s.answered ⟨.done, capabilityBytes⟩) :=
  congrArg Host.Outcome.next (takeAlways_checks 0x02 [] (readOut capabilityBytes) listens)

end

/-- Settles O5: the groups of the 73 bytes stand at the places that their lengths give. -/
theorem statusReadReturnsTheStatus : Obligations.StatusReadReturnsTheStatus := by
  unfold Obligations.StatusReadReturnsTheStatus
  refine fun s listens => ⟨exec_statusRead listens, s.statusBytes_length, fun started => ?started,
    fun starting => ?starting, s.statusBytes_session, s.statusBytes_flags⟩
  case started => rw [s.statusBytes_run, State.runBytes, started]; rfl
  case starting => rw [s.statusBytes_run, State.runBytes, starting]; rfl

/-- Settles O6: the bytes do not depend on the state. -/
theorem capabilityReadReturnsTheCapacities : Obligations.CapabilityReadReturnsTheCapacities := by
  unfold Obligations.CapabilityReadReturnsTheCapacities
  intro s listens
  rw [exec_capabilityRead listens, capabilityBytes_eq]

end Sys2Proof.Machine

/-! A step and the queue of commands (log 1), and the parts of a plan decoded from the bytes they are encoded to
(R188). -/

namespace Sys2Proof.Machine

/-- Settles O1: the queue that begins with a command selects the second case of `step`. -/
theorem stepRunsTheFrontCommand : Obligations.StepRunsTheFrontCommand := by
  unfold Obligations.StepRunsTheFrontCommand
  intro c rest s queue
  rw [step, queue]

/-! ## The byte of a value names that value (12.1, 12.3) -/

@[simp] theorem TimingKind.ofCode_toByte (x : TimingKind) : TimingKind.ofCode x.toByte = some x := by
  cases x <;> rfl

@[simp] theorem Form.ofCode_toByte (x : Form) : Form.ofCode x.toByte = some x := by
  cases x <;> rfl

@[simp] theorem Stimulus.ofCode_toByte (x : Stimulus) : Stimulus.ofCode x.toByte = some x := by
  cases x <;> rfl

@[simp] theorem RepeatRule.ofCode_toByte (x : RepeatRule) : RepeatRule.ofCode x.toByte = some x := by
  cases x <;> rfl

@[simp] theorem boolOfCode_boolByte (x : Bool) : boolOfCode (boolByte x) = some x := by
  cases x <;> rfl

@[simp] theorem LinkKind.ofCode_toByte (x : LinkKind) : LinkKind.ofCode x.toByte = some x := by
  cases x <;> rfl

@[simp] theorem Measure.ofCode_toByte (x : Measure) : Measure.ofCode x.toByte = some x := by
  cases x <;> rfl

@[simp] theorem Format.ofCode_toByte (x : Format) : Format.ofCode x.toByte = some x := by
  cases x <;> rfl

@[simp] theorem ProbeRange.ofCode_toByte (x : ProbeRange) : ProbeRange.ofCode x.toByte = some x := by
  cases x <;> rfl

@[simp] theorem FilterType.ofCode_toByte (x : FilterType) : FilterType.ofCode x.toByte = some x := by
  cases x <;> rfl

@[simp] theorem FilterAction.ofCode_toByte (x : FilterAction) : FilterAction.ofCode x.toByte = some x := by
  cases x <;> rfl

@[simp] theorem ParkMode.ofCode_toByte (x : ParkMode) : ParkMode.ofCode x.toByte = some x := by
  cases x <;> rfl

@[simp] theorem Route.ofCode_toByte (x : Route) : Route.ofCode x.toByte = some x := by
  cases x <;> rfl

@[simp] theorem QueueMode.ofCode_toByte (x : QueueMode) : QueueMode.ofCode x.toByte = some x := by
  cases x <;> rfl

/-! ## Reading a layout piece by piece

A number at the front of a list of bytes is read from the bytes it was written to, and a piece behind the front is
read from the rest. -/

section
variable (b : Byte) (bs : List Byte) (i : Nat)

@[simp] theorem byteAt_cons_zero : byteAt (b :: bs) 0 = b := rfl

@[simp] theorem byteAt_cons_succ : byteAt (b :: bs) (i + 1) = byteAt bs i := rfl

@[simp] theorem byteAt_halfBytes_append (h : Half) : byteAt (halfBytes h ++ bs) (i + 2) = byteAt bs i := rfl

@[simp] theorem byteAt_threeBytes_append (t : BitVec 24) :
    byteAt (threeBytes t ++ bs) (i + 3) = byteAt bs i := rfl

/-- The two bytes of a number, put together again. -/
theorem halfOf_halfBytes (h : Half) : halfOf (h.extractLsb' 8 8) (h.extractLsb' 0 8) = h := by
  unfold halfOf
  rw [BitVec.extractLsb'_append_extractLsb'_eq_extractLsb' (by rfl)]
  exact BitVec.extractLsb'_eq_self

@[simp] theorem halfAt_halfBytes_append_zero (h : Half) : halfAt (halfBytes h ++ bs) 0 = h :=
  halfOf_halfBytes h

@[simp] theorem halfAt_cons_succ : halfAt (b :: bs) (i + 1) = halfAt bs i := rfl

@[simp] theorem halfAt_halfBytes_append (h : Half) : halfAt (halfBytes h ++ bs) (i + 2) = halfAt bs i := rfl

@[simp] theorem slotSetAt_cons_succ : slotSetAt (b :: bs) (i + 1) = slotSetAt bs i := rfl

@[simp] theorem slotSetAt_halfBytes_append (h : Half) :
    slotSetAt (halfBytes h ++ bs) (i + 2) = slotSetAt bs i := rfl

/-- The three bytes of a number, put together again. -/
theorem append_threeBytes (t : BitVec 24) :
    (t.extractLsb' 16 8 ++ t.extractLsb' 8 8 ++ t.extractLsb' 0 8 : BitVec (8 + 8 + 8)) = t := by
  rw [BitVec.extractLsb'_append_extractLsb'_eq_extractLsb' (by rfl),
    BitVec.extractLsb'_append_extractLsb'_eq_extractLsb' (by rfl)]
  exact BitVec.extractLsb'_eq_self

/-- A slot set fits into the three bytes it is written to. -/
@[simp] theorem slotSetAt_threeBytes_append_zero (d : BitVec 18) :
    slotSetAt (threeBytes (d.setWidth 24) ++ bs) 0 = d :=
  calc slotSetAt (threeBytes (d.setWidth 24) ++ bs) 0
    _ = (d.setWidth 24).setWidth 18 := congrArg (BitVec.setWidth 18) (append_threeBytes _)
    _ = d := BitVec.setWidth_setWidth_of_le d (by decide)

/-- The eighteen taps of a link, read one by one from their list. -/
theorem vector_byteAt_toList (v : Vector Byte 18) :
    #v[byteAt v.toList 0, byteAt v.toList 1, byteAt v.toList 2, byteAt v.toList 3, byteAt v.toList 4,
      byteAt v.toList 5, byteAt v.toList 6, byteAt v.toList 7, byteAt v.toList 8, byteAt v.toList 9,
      byteAt v.toList 10, byteAt v.toList 11, byteAt v.toList 12, byteAt v.toList 13, byteAt v.toList 14,
      byteAt v.toList 15, byteAt v.toList 16, byteAt v.toList 17] = v := by
  have all : (List.range' 0 18).map (byteAt v.toList) = v.toList := by
    rw [map_byteAt_range' (by simp), List.drop_zero, List.take_of_length_le (by simp)]
  exact Vector.toList_inj.1 all

end

/-! ## The parts of a plan (R188)

Each encoding is its pieces in a row, and each field of the decoding reads its own piece. -/

/-- A list of four fields is its four entries. -/
theorem vector_four {α : Type} (v : Vector α 4) : v = #v[v[0], v[1], v[2], v[3]] := by
  ext i hi
  interval_cases i <;> rfl

theorem StepEntry.decode_encode (e : StepEntry) : StepEntry.decode e.encode = some e := by
  obtain ⟨timeMark, kind, form, testLink, talker, contenderCount, contenders, expectCount, expects, quietCount,
    quiets, stimulus, window, settle, multiplier, runMask, rule, marker, log⟩ := e
  rw [vector_four contenders, vector_four expects, vector_four quiets]
  simp [StepEntry.decode, StepEntry.encode, contenderAt, quietAt]

theorem LinkDef.decode_encode (d : LinkDef) : LinkDef.decode d.encode = some d := by
  simp [LinkDef.decode, LinkDef.encode, vector_byteAt_toList]

theorem ClassDef.decode_encode (c : ClassDef) : ClassDef.decode c.encode = some c := by
  simp [ClassDef.decode, ClassDef.encode]

theorem FilterElement.decode_encode (f : FilterElement) : FilterElement.decode f.encode = some f := by
  simp [FilterElement.decode, FilterElement.encode]

theorem Params.decode_encode (q : Params) : Params.decode q.encode = some q := by
  simp [Params.decode, Params.encode]

/-- Settles O16: each part's layout is read back field by field, the enumerated ones by their codes. -/
theorem planPartsDecodeToThemselves : Obligations.PlanPartsDecodeToThemselves := by
  unfold Obligations.PlanPartsDecodeToThemselves
  exact ⟨StepEntry.decode_encode, LinkDef.decode_encode, ClassDef.decode_encode,
    FilterElement.decode_encode, Params.decode_encode⟩

end Sys2Proof.Machine

/-! The capacities of the part (R43, R73, R117, R147): every command keeps the result queues, the Spot Queue, the
pending list and the transmit lists within their rooms, and a reset empties them. -/

namespace Sys2Proof.Machine

/-! ## Blocks that hold no list, and the capture -/

theorem emptyTable_grows (s : State) : s.Grows (emptyTable s) := .of_same rfl rfl rfl rfl rfl

theorem clearAllAssignments_grows (s : State) : s.Grows (clearAllAssignments s) :=
  .foldl _ (fun x n => .mapProbe n _ x) _ s

theorem endCapture_grows (s : State) : s.Grows (endCapture s) := by
  unfold endCapture
  dsimp only
  split
  · exact .refl s
  · exact (State.Grows.withSession _ s).trans (.raise _ _)

theorem finishCapture_grows (n : Nat) (r : CaptureResult) (s : State) : s.Grows (finishCapture n r s) :=
  (State.Grows.withSession _ s).trans (endCapture_grows _)

theorem beginCapture_grows (x : Selection) (s : State) : s.Grows (beginCapture x s) := by
  refine (State.Grows.withSession _ s).trans (.foldl _ (fun y n => ?_) _ _)
  unfold captureSlot
  dsimp only
  split
  · exact (State.Grows.withSession _ y).trans (.send _ _ _)
  · exact .withSession _ y

/-! ## What keeps the rooms -/

/-- From `s` to `t` lists within their rooms stay so. -/
def State.KeepsRoom (s t : State) : Prop := s.withinCapacity → t.withinCapacity

namespace State.KeepsRoom

variable {s t : State}

theorem refl (s : State) : s.KeepsRoom s := id

theorem trans {u : State} (h : s.KeepsRoom t) (k : t.KeepsRoom u) : s.KeepsRoom u := fun room => k (h room)

theorem of_grows (h : s.Grows t) : s.KeepsRoom t := h.1

/-- A change of what holds no list. -/
theorem of_same (router : t.router = s.router) (spot : t.spot = s.spot)
    (merged : t.engine.merged = s.engine.merged) (ports : t.registry.ports = s.registry.ports) :
    s.KeepsRoom t :=
  (State.Grows.of_same (t := { t with port := s.port }) router spot merged ports rfl).1

theorem of_if {c : Prop} [Decidable c] {u : State} (ht : s.KeepsRoom t) (hu : s.KeepsRoom u) :
    s.KeepsRoom (if c then t else u) := by
  split
  · exact ht
  · exact hu

/-- A request answers behind its effect, or has none (R178, R179, R185). -/
theorem of_takeAlways {command crc : Byte} {params : List Byte} {effect : State → Reply}
    (h : s.KeepsRoom (effect s).state) : s.KeepsRoom (takeAlways command params crc effect s) := by
  unfold takeAlways
  repeat' split
  · exact refl s
  · exact of_same rfl rfl rfl rfl
  · exact h.trans (of_same rfl rfl rfl rfl)
  · exact of_same rfl rfl rfl rfl

theorem of_takeRequest {command crc : Byte} {params : List Byte} {effect : State → Reply}
    (h : s.KeepsRoom (effect s).state) : s.KeepsRoom (takeRequest command params crc effect s) := by
  refine of_takeAlways ?_
  split
  · exact refl s
  · exact h

theorem of_onLink {link : Half} {effect : Nat → State → Reply}
    (h : s.KeepsRoom (effect link.toNat s).state) : s.KeepsRoom (onLink link effect s).state := by
  unfold onLink
  split
  · exact h
  · exact refl s

theorem of_onQueue {queue : Byte} {effect : QueueId → State → Reply}
    (h : ∀ id, s.KeepsRoom (effect id s).state) : s.KeepsRoom (onQueue queue effect s).state := by
  unfold onQueue
  split
  · exact h _
  · exact refl s

theorem of_guardedStore {slot : Byte} {fits : Bool} {effect : Fin 4 → State → Reply}
    (h : ∀ n, s.KeepsRoom (effect n s).state) : s.KeepsRoom (guardedStore slot fits effect s).state := by
  unfold guardedStore
  (repeat' split)
  · exact refl s
  · exact refl s
  · exact refl s
  · exact refl s
  · exact of_same rfl rfl rfl rfl
  · exact h _

theorem hearProbe (n : Nat) (s : State) : s.KeepsRoom (hearProbe n s) :=
  of_grows (.setPortState n _ s id)

/-- A discarded frame joins no list (R45). -/
theorem discardFrame (n : Nat) (s : State) : s.KeepsRoom (discardFrame n s) :=
  (hearProbe n s).trans (of_grows (.setPortState n _ _ id))

/-- A message has its effect on the part that has heard the probe, is stray, or is no message (R46, R186). -/
theorem of_receive {n : Nat} {checks : Bool} {admits : ProbeState → Bool} {effect : State → State}
    (h : ∀ x, State.KeepsRoom x (effect x)) : s.KeepsRoom (receive n checks admits effect s) := by
  unfold receive
  dsimp only
  (repeat' split)
  · exact refl s
  · exact discardFrame n s
  · exact (hearProbe n s).trans (h _)
  · exact (hearProbe n s).trans (of_grows (.stray n _))

/-- The end of an operation has its effect where that operation is in progress, and else none (log 3). -/
theorem of_slotEnd (slot : Option (Fin 4)) (effect : Fin 4 → State) (h : ∀ n, s.KeepsRoom (effect n)) :
    s.KeepsRoom (match slot with | some n => effect n | none => s) := by
  split
  · exact h _
  · exact refl s

/-! ## The effects of the requests -/

theorem shadowWrite (target : Byte) (index : Half) (content : List Byte) (s : State) :
    s.KeepsRoom (shadowWrite target index content s).state := by
  unfold Machine.shadowWrite; (repeat' split) <;> exact of_same rfl rfl rfl rfl

theorem shadowRead (target : Byte) (index : Half) (s : State) :
    s.KeepsRoom (shadowRead target index s).state := by
  unfold Machine.shadowRead; (repeat' split) <;> exact refl s

theorem activeRead (target : Byte) (index : Half) (s : State) :
    s.KeepsRoom (activeRead target index s).state := by
  unfold Machine.activeRead; split <;> exact refl s

theorem shadowClear (s : State) : s.KeepsRoom (shadowClear s).state := by
  unfold Machine.shadowClear; (repeat' split) <;> exact of_same rfl rfl rfl rfl

theorem liveEdit (target : Byte) (index : Half) (content : List Byte) (s : State) :
    s.KeepsRoom (liveEdit target index content s).state := by
  unfold Machine.liveEdit; split <;> exact of_same rfl rfl rfl rfl

theorem applyShadow (s : State) : s.KeepsRoom (applyShadow s).state := by
  unfold Machine.applyShadow
  (repeat' split)
  · exact refl s
  · exact refl s
  · exact refl s
  · rw [reply_state]; exact of_grows (.install s)
  · exact of_same rfl rfl rfl rfl

theorem cancelApply (s : State) : s.KeepsRoom (cancelApply s).state := by
  unfold Machine.cancelApply; split <;> exact of_same rfl rfl rfl rfl

theorem runStart (fresh : Byte) (s : State) : s.KeepsRoom (runStart fresh s).state := by
  have clear : ∀ x : State, x.Grows (freshClear fresh x) := by
    intro x
    unfold freshClear
    split
    · exact .clearAllLinks x
    · exact .refl x
  unfold Machine.runStart
  (repeat' split)
  · exact refl s
  · exact refl s
  · exact refl s
  · exact refl s
  · rw [reply_state]
    exact of_grows ((State.Grows.withSession _ s).trans ((clear _).trans ((State.Grows.setHealth _ _).trans
      (State.Grows.firstSweep _))))

theorem runPause (s : State) : s.KeepsRoom (runPause s).state := by
  unfold Machine.runPause
  (repeat' split)
  · exact refl s
  · rw [reply_state]; exact of_grows ((State.Grows.setRun _ s).trans (.enterPaused _))
  · exact of_grows (.setRun _ s)

theorem runResume (s : State) : s.KeepsRoom (runResume s).state := by
  unfold Machine.runResume
  split
  · exact refl s
  · rw [reply_state]; exact of_grows (.resumeSweep s)

theorem runStop (s : State) : s.KeepsRoom (runStop s).state := by
  unfold Machine.runStop
  (repeat' split)
  · exact refl s
  · rw [reply_state]; exact of_grows (.enterStopped s)
  · exact of_grows (.setRun _ s)

theorem runAbort (s : State) : s.KeepsRoom (runAbort s).state := by
  unfold Machine.runAbort
  split
  · exact refl s
  · rw [reply_state]
    exact of_grows ((emptyTable_grows s).trans ((clearAllAssignments_grows _).trans ((State.Grows.spotHandBack _).trans
      ((State.Grows.discardWindows _).trans (State.Grows.enterStopped _)))))

theorem withdrawLink (id : Nat) (s : State) : s.KeepsRoom (withdrawLink id s) := by
  unfold Machine.withdrawLink
  split
  · exact refl s
  · have opened : ∀ x : State, x.Grows (withdrawOpen id x) := fun x => .withEngine _ x fun h => h
    exact of_grows ((State.Grows.setLink _ _ s).trans ((opened _).trans (.withdrawSpot _ _)))

theorem probeRead (slot : Byte) (s : State) : s.KeepsRoom (probeRead slot s).state := by
  unfold Machine.probeRead; split <;> exact refl s

/-- A queue that is not longer takes the place of a queue (R150, R151). -/
theorem setQueue (id : QueueId) (q : ResultQueue) (s : State)
    (h : q.records.length ≤ (s.router.queue id).records.length) :
    s.KeepsRoom (s.withRouter (s.router.setQueue id q)) := by
  rintro ⟨q0, q1, spot, pending, transmit⟩
  cases id
  · exact ⟨h.trans q0, q1, spot, pending, transmit⟩
  · exact ⟨q0, h.trans q1, spot, pending, transmit⟩

theorem popQueue (id : QueueId) (s : State) : s.KeepsRoom (popQueue id s).state := by
  unfold Machine.popQueue
  split
  · exact refl s
  · next r rest queue =>
    refine setQueue id _ s ?_
    rw [queue]
    exact Nat.le_succ _

theorem flushQueue (id : QueueId) (s : State) : s.KeepsRoom (flushQueue id s).state :=
  setQueue id _ s (Nat.zero_le _)

theorem spotCancel (link : Half) (s : State) : s.KeepsRoom (spotCancel link s).state := by
  unfold Machine.spotCancel
  split
  · exact refl s
  · split
    · exact refl s
    · rw [reply_state]; exact of_grows (.cancelSpot _ s)

theorem calSelect (slots : BitVec 24) (kind range quick : Byte) (s : State) :
    s.KeepsRoom (calSelect slots kind range quick s).state := by
  unfold Machine.calSelect; (repeat' split) <;> exact of_same rfl rfl rfl rfl

theorem calCapture (s : State) : s.KeepsRoom (calCapture s).state := by
  unfold Machine.calCapture
  split
  · dsimp only
    split
    · exact of_grows (beginCapture_grows _ s)
    · exact of_grows ((beginCapture_grows _ s).trans (endCapture_grows _))
  · exact refl s

theorem beginCalWrite (w : CalWrite) (s : State) : s.KeepsRoom (beginCalWrite w s) :=
  of_same rfl rfl rfl rfl

theorem calAccept (s : State) : s.KeepsRoom (calAccept s).state := by
  have put : ∀ (x : Selection) (c : CaptureEntry) (y : State), y.Grows (putCandidate x c y) := by
    intro x c y
    unfold putCandidate
    split
    · exact .mapProbe _ _ y
    · exact .refl y
  unfold Machine.calAccept
  split
  · (repeat' split)
    · exact refl s
    · exact refl s
    · exact (of_grows (.foldl _ (fun y c => put _ c y) _ s)).trans (beginCalWrite _ _)
  · exact refl s

theorem calRevert (slots : BitVec 24) (ranges : Byte) (s : State) :
    s.KeepsRoom (calRevert slots ranges s).state := by
  unfold Machine.calRevert
  (repeat' split)
  · exact refl s
  · exact refl s
  · exact refl s
  · exact (of_grows (.foldl _ (fun y n => .mapProbe n _ y) _ s)).trans (beginCalWrite _ _)

theorem lockSlot (n : Fin 4) (s : State) : s.KeepsRoom (lockSlot n s).state := by
  unfold Machine.lockSlot; split <;> exact of_same rfl rfl rfl rfl

theorem storeLoad (slot : Byte) (s : State) : s.KeepsRoom (storeLoad slot s).state := by
  unfold Machine.storeLoad; (repeat' split) <;> exact of_same rfl rfl rfl rfl

theorem storeSetBoot (slot : Byte) (s : State) : s.KeepsRoom (storeSetBoot slot s).state := by
  unfold Machine.storeSetBoot; (repeat' split) <;> exact of_same rfl rfl rfl rfl

end State.KeepsRoom

/-! ## The resets and start-up -/

/-- A part whose lists are all empty is within its rooms. -/
theorem State.withinCapacity_of_empty {s : State} (q0 : s.router.q0.records = [])
    (q1 : s.router.q1.records = []) (spot : s.spot = []) (merged : s.engine.merged = none)
    (transmit : ∀ n, (s.portState n).transmit = []) : s.withinCapacity := by
  simp [State.withinCapacity, State.pendingSteps, q0, q1, spot, merged, transmit]

theorem State.hardReset_withinCapacity (low csLow : Bool) (slots : Vector StoreSlot 4)
    (fixture : FixtureRecord) (pending : List Instr) (count : Nat) :
    (State.hardReset low csLow slots fixture pending count).withinCapacity :=
  State.withinCapacity_of_empty rfl rfl rfl rfl
    fun n => congrArg PortState.transmit (Tab.getSlot_replicate_same PortState.reset n)

/-- A soft reset empties every list; the PARK behind it is handed to empty lists (R66, R88, R128, R154). -/
theorem softReset_withinCapacity (s : State) : (softReset s).withinCapacity := by
  obtain ⟨-, -, -, -, engine, -, spot, router, -⟩ :=
    parkAll_frame (emptyTransmit (softResetProbes (softResetBlocks s)))
  obtain ⟨-, engine', spot', router', -⟩ := softReset_blocks s
  rw [softReset] at engine' spot' router' ⊢
  rw [engine'] at engine
  rw [spot'] at spot
  rw [router'] at router
  refine (State.Grows.parkAll _).1 (State.withinCapacity_of_empty ?_ ?_ spot.symm ?_ fun n => ?_)
  · rw [← router]; rfl
  · rw [← router]; rfl
  · rw [← engine]; rfl
  · rw [emptyTransmit_portState]

theorem softReset_keepsRoom (s : State) : s.KeepsRoom (softReset s) := fun _ => softReset_withinCapacity s

/-- The messages held back join the transmit lists that have room (R43, R176). -/
theorem startUpEnd_keepsRoom (damaged : BitVec 4) (s : State) : s.KeepsRoom (startUpEnd damaged s) := by
  have held : ∀ (m : HeldMessage) (x : State), x.Grows (sendHeld m x) := by
    intro m x
    cases m with
    | setup n => exact .sendSetup n x
    | spotAns n link answer => exact .send n _ x
  have loaded : ∀ x : State, x.Grows (loadBlocks x) := by
    intro x
    obtain ⟨p, loaded⟩ := loadBlocks_probeTable x
    rw [loaded]
    exact .of_same rfl rfl rfl rfl rfl
  have released : ∀ x : State, x.Grows (releaseHeld x) := fun x =>
    (State.Grows.withStore _ x).trans (State.Grows.foldl _ (fun y m => held m y) x.store.held _)
  have stored : s.Grows (loadStore damaged s) := (State.Grows.withStore _ s).trans (.withPlans _ _)
  unfold startUpEnd
  dsimp only
  exact .of_grows ((stored.trans ((loaded _).trans (released _))).trans
    ((State.Grows.withStore _ _).trans (.raise _ _)))

/-! ## The messages of the probes and the line -/

theorem probeChanged_grows (n : Nat) (before : ProbeEntry) (s : State) :
    s.Grows (probeChanged n before s) := by
  have left : ∀ x : State, x.Grows (leaveSyncing n x) := by
    intro x
    unfold leaveSyncing
    split
    · exact finishCapture_grows n _ x
    · exact .refl x
  have watched : ∀ (c : Prop) [Decidable c] (x : State), x.Grows (if c then leaveInStep false n x else x) := by
    intro c _ x
    split
    · exact .leaveInStep false n x
    · exact .refl x
  have syncing : s.Grows (if before.state = .syncing ∧ (s.probe n).state ≠ .syncing then leaveSyncing n s
      else s) := by
    split
    · exact left s
    · exact .refl s
  unfold probeChanged
  dsimp only
  split
  · exact (syncing.trans (watched _ _)).trans (.examine _)
  · exact syncing.trans (watched _ _)

theorem takeHello_grows (n : Nat) (serial : Word) (code power : Byte) (s : State) :
    s.Grows (takeHello n serial code power s) := by
  have setup : ∀ x : State, x.Grows (helloSetup n x) := by
    intro x
    unfold helloSetup
    split
    · exact (State.Grows.mapProbe _ _ x).trans (.withStore _ _)
    · exact .sendSetup n x
  exact (State.Grows.mapProbe _ _ s).trans ((State.Grows.changeState _ _ _).trans ((setup _).trans
    (probeChanged_grows _ _ _)))

theorem takeSetupAck_grows (n : Nat) (s : State) : s.Grows (takeSetupAck n s) := by
  unfold takeSetupAck
  dsimp only
  (repeat' split)
  · exact .stray n s
  · exact (State.Grows.mapProbe _ _ s).trans ((State.Grows.mapProbe _ _ _).trans (.changeState _ _ _))
  · exact .mapProbe _ _ s

theorem takeMarkAck_grows (n : Nat) (sweep : Word) (s : State) : s.Grows (takeMarkAck n sweep s) := by
  unfold takeMarkAck
  dsimp only
  split
  · exact (State.Grows.mapProbe _ _ s).trans (.changeState _ _ _)
  · exact .stray n s

theorem takeStatus_grows (n : Nat) (power fault code : Byte) (s : State) :
    s.Grows (takeStatus n power fault code s) := by
  unfold takeStatus
  dsimp only
  split
  · exact (State.Grows.mapProbe _ _ s).trans (probeChanged_grows _ _ _)
  · exact ((State.Grows.mapProbe _ _ s).trans (.changeState _ _ _)).trans (probeChanged_grows _ _ _)

theorem takeTagged_grows (n : Nat) (tag : Byte) (r : Report) (s : State) :
    s.Grows (takeTagged n tag r s) := by
  unfold takeTagged
  split
  · exact .takeReport n _ r s
  · exact .refl s

theorem takeCalRead_grows (n : Nat) (raw : Half) (s : State) : s.Grows (takeCalRead n raw s) := by
  unfold takeCalRead
  dsimp only
  (repeat' split)
  · exact finishCapture_grows n _ s
  · exact .stray n s
  · exact .stray n s

theorem takeSpotAsk_grows (n : Nat) (link : Half) (repeats marker : Byte) (s : State) :
    s.Grows (takeSpotAsk n link repeats marker s) := by
  have answer : ∀ (code : Byte) (x : State), x.Grows (sendSpotAns n link code x) := by
    intro code x
    unfold sendSpotAns
    split
    · exact .withStore _ x
    · exact .send n _ x
  exact (State.Grows.arrive _ _ _ _ s).trans (answer _ _)

theorem takeSpotDrop_grows (n : Nat) (link : Half) (s : State) : s.Grows (takeSpotDrop n link s) := by
  unfold takeSpotDrop
  (repeat' split)
  · exact .cancelSpot _ s
  · exact .refl s
  · exact .refl s

/-- A message that is sent leaves its list (R43). -/
theorem serve_transmit_length (p : PortState) (waiting : Bool) :
    (p.serve waiting).transmit.length ≤ p.transmit.length := by
  unfold PortState.serve
  split
  · exact le_rfl
  · next m rest list =>
    split
    · exact le_rfl
    · rw [list]; exact Nat.le_succ _

/-! ## The events of time and of the store -/

theorem deadlineEvent_grows (k : Fin 8) (turn : BitVec 4) (s : State) :
    s.Grows (deadlineEvent k turn s) := by
  unfold deadlineEvent
  (repeat' split)
  · exact .closeStep k _ s
  · exact .refl s
  · exact .refl s

theorem captureDeadlineEvent_grows (s : State) : s.Grows (captureDeadlineEvent s) :=
  (State.Grows.withSession _ s).trans (endCapture_grows _)

theorem endStoreOp_grows (op : StoreOp) (passed : Bool) (s : State) : s.Grows (endStoreOp op passed s) :=
  (State.Grows.withStore _ s).trans (.raise _ _)

theorem eraseEnd_grows (n : Fin 4) (passed : Bool) (s : State) : s.Grows (eraseEnd n passed s) := by
  unfold eraseEnd
  split
  · exact (State.Grows.withStore _ s).trans (endStoreOp_grows _ _ _)
  · exact endStoreOp_grows _ _ s

theorem lockEnd_grows (n : Fin 4) (passed : Bool) (s : State) : s.Grows (lockEnd n passed s) := by
  unfold lockEnd
  split
  · exact (State.Grows.withStore _ s).trans (endStoreOp_grows _ _ _)
  · exact endStoreOp_grows _ _ s

theorem fixtureWriteEnd_grows (passed : Bool) (s : State) : s.Grows (fixtureWriteEnd passed s) := by
  have settled : ∀ x : State, x.Grows (settleCalStates passed x) := by
    intro x
    obtain ⟨p, settled⟩ := settleCalStates_probeTable passed x
    rw [settled]
    exact .of_same rfl rfl rfl rfl rfl
  have released : ∀ x : State, x.Grows (releaseSession x) := by
    intro x
    unfold releaseSession
    split
    · exact .refl x
    · exact (State.Grows.of_same rfl rfl rfl rfl rfl).trans (.raise _ _)
  exact (State.Grows.withStore _ s).trans ((settled _).trans ((endStoreOp_grows _ _ _).trans (released _)))

/-! ## Every command -/

/-- The outcome of a command goes on to a state in which the rooms are kept. -/
def Result.KeepsRoom (s : State) (o : Host.Outcome State Fault Refusal) : Prop :=
  ∀ t, o = .next t → s.KeepsRoom t

theorem Result.KeepsRoom.next {s t : State} (h : s.KeepsRoom t) : Result.KeepsRoom s (.next t) := by
  rintro _ ⟨⟩; exact h

section
open State.KeepsRoom Result.KeepsRoom

/-- A request takes a list past no room. -/
theorem exec_request_keepsRoom (s : State) {c : Instr} {r : Request} (h : c.request = some r) :
    Result.KeepsRoom s (exec c s) := by
  cases c <;> cases h
  case statusRead | capabilityRead => exact next (of_takeAlways (refl s))
  case shadowWrite => exact next (of_takeRequest (.shadowWrite _ _ _ s))
  case shadowRead => exact next (of_takeRequest (.shadowRead _ _ s))
  case activeRead => exact next (of_takeRequest (.activeRead _ _ s))
  case shadowClear => exact next (of_takeRequest (.shadowClear s))
  case liveEdit => exact next (of_takeRequest (.liveEdit _ _ _ s))
  case applyPlan => exact next (of_takeRequest (.applyShadow s))
  case applyCancel => exact next (of_takeRequest (.cancelApply s))
  case runStart => exact next (of_takeRequest (.runStart _ s))
  case runPause => exact next (of_takeRequest (.runPause s))
  case runResume => exact next (of_takeRequest (.runResume s))
  case runStop => exact next (of_takeRequest (.runStop s))
  case runAbort => exact next (of_takeRequest (.runAbort s))
  case linkRead => exact next (of_takeRequest (of_onLink (refl s)))
  case linkClear => exact next (of_takeRequest (of_onLink (of_grows (.clearLink _ s))))
  case linkWithdraw => exact next (of_takeRequest (of_onLink (.withdrawLink _ s)))
  case linkRestore => exact next (of_takeRequest (of_onLink (of_grows (.setLink _ _ s))))
  case probeRead => exact next (of_takeRequest (.probeRead _ s))
  case queuePop => exact next (of_takeRequest (of_onQueue fun id => .popQueue id s))
  case queueStatus => exact next (of_takeRequest (of_onQueue fun _ => refl s))
  case queueFlush => exact next (of_takeRequest (of_onQueue fun id => .flushQueue id s))
  case spotRequest => exact next (of_takeRequest (of_grows (.arrive _ _ _ _ s)))
  case spotCancel => exact next (of_takeRequest (.spotCancel _ s))
  case spotList => exact next (of_takeRequest (refl s))
  case calSelect => exact next (of_takeRequest (.calSelect _ _ _ _ s))
  case calCapture => exact next (of_takeRequest (.calCapture s))
  case calAccept => exact next (of_takeRequest (.calAccept s))
  case calRevert => exact next (of_takeRequest (.calRevert _ _ s))
  case storeWriteEnable => exact next (of_takeRequest (of_same rfl rfl rfl rfl))
  case storeSave | storeErase =>
    exact next (of_takeRequest (of_guardedStore fun _ => of_same rfl rfl rfl rfl))
  case storeLock => exact next (of_takeRequest (of_guardedStore fun n => .lockSlot n s))
  case storeLoad => exact next (of_takeRequest (.storeLoad _ s))
  case storeSetBoot => exact next (of_takeRequest (.storeSetBoot _ s))
  case attnEnable | attnClear => exact next (of_takeRequest (of_same rfl rfl rfl rfl))
  case softReset => exact next (of_takeRequest (by rw [reply_state]; exact softReset_keepsRoom s))

/-- No command takes a list past its room. -/
theorem exec_keepsRoom (s : State) (c : Instr) : Result.KeepsRoom s (exec c s) := by
  match request : c.request with
  | some r => exact exec_request_keepsRoom s request
  | none =>
    cases c <;> cases request
    case unknownCommand => exact next (of_if (refl s) (of_takeAlways (refl s)))
    case hello => exact next (of_receive fun x => of_grows (takeHello_grows _ _ _ _ x))
    case setupAck => exact next (of_receive fun x => of_grows (takeSetupAck_grows _ x))
    case markAck => exact next (of_receive fun x => of_grows (takeMarkAck_grows _ _ x))
    case statusReport => exact next (of_receive fun x => of_grows (takeStatus_grows _ _ _ _ x))
    case doneReport | readingReport | contresReport =>
      exact next (of_receive fun x => of_grows (takeTagged_grows _ _ _ x))
    case calRead => exact next (of_receive fun x => of_grows (takeCalRead_grows _ _ x))
    case spotAsk => exact next (of_receive fun x => of_grows (takeSpotAsk_grows _ _ _ _ x))
    case spotDrop => exact next (of_receive fun x => of_grows (takeSpotDrop_grows _ _ x))
    case frameError => exact next (of_if (refl s) (.discardFrame _ s))
    case probeFrameSend =>
      exact next (of_if (refl s)
        (of_grows (.setPortState _ _ s (serve_transmit_length _ _).trans)))
    case sweepStart => exact next (of_if (of_grows (.sweepStart s)) (refl s))
    case timedMark => exact next (of_if (of_grows (.timedMark _ s)) (refl s))
    case mergedMark => exact next (of_if (of_grows (.mergedMark _ s)) (refl s))
    case markEntry => exact next (of_if (of_grows (.markEntry _ s)) (refl s))
    case freeEntry => exact next (of_if (of_grows (.freeEntry _ s)) (refl s))
    case deadline => exact next (of_grows (deadlineEvent_grows _ _ s))
    case fixtureTimeLimit => exact next (of_if (of_grows (.limitEvent s)) (refl s))
    case captureDeadline => exact next (of_if (of_grows (captureDeadlineEvent_grows s)) (refl s))
    case saveEnd =>
      exact next (of_slotEnd _ _ fun _ => (of_same rfl rfl rfl rfl))
    case eraseEnd => exact next (of_slotEnd _ _ fun n => of_grows (eraseEnd_grows n _ s))
    case lockEnd => exact next (of_slotEnd _ _ fun n => of_grows (lockEnd_grows n _ s))
    case loadEnd => exact next (of_slotEnd _ _ fun _ => (of_same rfl rfl rfl rfl))
    case fixtureWriteEnd => exact next (of_if (of_grows (fixtureWriteEnd_grows _ s)) (refl s))
    case hardReset => exact next fun _ => State.hardReset_withinCapacity ..
    case startUpBegin => exact next (of_if (of_same rfl rfl rfl rfl) (refl s))
    case startUpEnd => exact next (of_if (startUpEnd_keepsRoom _ s) (refl s))

end

/-- An event that is due is a command; a tick moves times alone (log 1). -/
theorem idle_keepsRoom (s : State) : Result.KeepsRoom s (idle s) := by
  unfold idle
  split
  · exact .next (.of_grows (.tick s))
  · exact exec_keepsRoom s.bump _

/-- Settles O59: a step takes a command or is idle, and both keep every list within its room. -/
theorem everyStepKeepsTheCapacities : Obligations.EveryStepKeepsTheCapacities := by
  unfold Obligations.EveryStepKeepsTheCapacities
  intro s t room stepped
  unfold step at stepped
  split at stepped
  · exact idle_keepsRoom s t stepped room
  · next rest _ => exact exec_keepsRoom (s.withPending rest) _ t stepped room

/-- Settles O58: the part after reset has empty lists, an IDLE or STARTING store, and no slot that is locked. -/
theorem invariantsHoldAtReset : Obligations.InvariantsHoldAtReset := by
  unfold Obligations.InvariantsHoldAtReset
  refine ⟨State.hardReset_withinCapacity .., fun n locked => ?_, trivial⟩
  have erased : State.reset.store.slots.get n = StoreSlot.erased := by fin_cases n <;> rfl
  rw [erased] at locked
  exact absurd locked (by decide)

end Sys2Proof.Machine

/-! A step on an empty queue with nothing due (R21, R22, R185, log 1): one tick of the clock, and what it moves. -/

namespace Sys2Proof.Machine

theorem step_of_idle {s : State} (queue : s.pending = []) (due : s.dueEvents = []) : step s = .next (tick s) := by
  simp only [step, queue, idle, due]

theorem tick_of_reset {s : State} (low : s.port.resetLow = true) : tick s = s := if_pos low

theorem tick_clock {s : State} (up : s.port.resetLow = false) : (tick s).clock = s.clock + 1 := by
  unfold tick
  rw [if_neg (by simp [up])]
  dsimp only
  split <;> rfl

/-- The condition under which a tick moves fixture time (R21). -/
def State.ticks (s : State) : Prop := s.timerRuns = true ∧ s.timer.fixtureTime < 4294967295

theorem tick_timer_of_stopped {s : State} (up : s.port.resetLow = false) (h : ¬ s.ticks) :
    (tick s).timer = s.timer := by
  unfold tick
  rw [if_neg (by simp [up])]
  dsimp only
  split
  · next runs =>
    have top : ¬ s.timer.fixtureTime < maxWord := fun below => h ⟨runs, below⟩
    rw [State.withTimer_timer, SweepTimer.tick, if_neg top]
  · rfl

theorem tick_timer_of_ticks {s : State} (up : s.port.resetLow = false) (h : s.ticks) :
    (tick s).timer
      = SweepTimer.tickSweep { s.timer with fixtureTime := s.timer.fixtureTime + 1 }
        s.params.sweepLength.toNat := by
  obtain ⟨runs, below⟩ := h
  unfold tick
  rw [if_neg (by simp [up])]
  dsimp only
  rw [if_pos runs, State.withTimer_timer, SweepTimer.tick]
  exact if_pos below

/-- Where a sweep is in progress, sweep time gains 1 below the sweep length, and the sweep start becomes due at it
(R22, log 4). -/
theorem SweepTimer.tickSweep_eq (t : SweepTimer) (length : Nat) :
    t.tickSweep length = { t with
      sweepTime := if t.sweepActive = true ∧ t.sweepEndDue = false ∧ t.sweepTime + 1 < length then
          t.sweepTime + 1 else t.sweepTime
      sweepEndDue := t.sweepEndDue || (t.sweepActive && decide (length ≤ t.sweepTime + 1)) } := by
  obtain ⟨run, health, fixtureTime, sweepNumber, sweepTime, pattern, notStarted, active, due, nextStep, limitTaken⟩ := t
  unfold SweepTimer.tickSweep
  cases active with
  | false => simp
  | true =>
    cases due with
    | true => simp
    | false =>
      by_cases below : sweepTime + 1 < length
      · simp [below]
      · simp [below, Nat.not_lt.mp below]

/-- Settles O2: the step is the tick, which moves fixture time where time runs below its limit and the sweep with
it. -/
theorem idleStepIsOneTick : Obligations.IdleStepIsOneTick := by
  unfold Obligations.IdleStepIsOneTick
  intro s queue due
  have stepped := step_of_idle queue due
  refine ⟨fun low => by rw [stepped, tick_of_reset low], fun up => ⟨tick s, stepped, tick_clock up, ?_⟩⟩
  obtain ⟨pending, freeCount, engine, registry, links, spot, router, plans, store, port⟩ := tick_frame s
  rw [queue] at pending
  by_cases h : s.ticks
  · rw [tick_timer_of_ticks up h, SweepTimer.tickSweep_eq]
    obtain ⟨runs, below⟩ := h
    refine ⟨?_, ?_, ?_, rfl, pending, freeCount, engine, registry, links, spot, router,
      plans, store, port⟩
    · simp [runs, below]
    · simp [runs, below]
    · simp [runs, below]
  · rw [tick_timer_of_stopped up h]
    have held : ∀ p : Prop, ¬ (s.timerRuns = true ∧ s.timer.fixtureTime < 4294967295 ∧ p) :=
      fun p k => h ⟨k.1, k.2.1⟩
    exact ⟨(if_neg h).symm, (if_neg (held _)).symm, by simp only [held, or_false], rfl, pending, freeCount, engine, registry, links, spot, router,
      plans, store, port⟩

end Sys2Proof.Machine

/-! The probe lines (R43, R45, R186; logs 13, 14): frames that are discarded, and the free line that sends. -/

namespace Sys2Proof.Machine

/-- Two writes to one port are the second. -/
theorem State.setPortState_setPortState (s : State) (n : Nat) (p q : PortState) :
    (s.setPortState n p).setPortState n q = s.setPortState n q := by
  cases n with
  | zero => rfl
  | succ i => simp [State.setPortState, Tab.putSlot, Tab.put]

/-- A discarded frame counts at its port, where the probe has sent last (R43, R45). -/
theorem discardFrame_eq (port : Port) (s : State) :
    discardFrame (slotOf port) s = s.setPortState (slotOf port) { s.portState (slotOf port) with
      lastFrame := some .probe,
      frameErrors := satInc 65535 (s.portState (slotOf port)).frameErrors } := by
  obtain ⟨low, high⟩ := slotOf_bounds port
  unfold discardFrame
  dsimp only
  rw [hearProbe_portState, if_pos ⟨rfl, low, high⟩, hearProbe, State.setPortState_setPortState]
  rfl

theorem exec_frameError (port : Port) (frame : List Byte) {s : State} (up : s.port.resetLow = false) :
    exec (.frameError port frame) s
      = .next (if frameChecks frame = true then s else discardFrame (slotOf port) s) := by
  simp only [exec, execFrameError, up, Bool.false_or]

theorem exec_probeFrameSend (port : Port) (waiting : Bool) {s : State} (up : s.port.resetLow = false) :
    exec (.probeFrameSend port waiting) s
      = .next (if s.starting = true then s
          else s.setPortState (slotOf port) ((s.portState (slotOf port)).serve waiting)) := by
  simp only [exec, execProbeFrameSend, up, Bool.false_or]

theorem PortState.serve_of_sent {p : PortState} {m : Message} {rest : List Message} (waiting : Bool)
    (list : p.transmit = m :: rest) (turn : waiting = false ∨ p.lastFrame ≠ some .part) :
    p.serve waiting = { p with transmit := rest, lastFrame := some .part, sent := m.frame } := by
  unfold PortState.serve
  rw [list]
  refine if_neg ?_
  rcases turn with idle | other
  · simp [idle]
  · simp [other]

theorem PortState.serve_of_kept {p : PortState} (waiting : Bool)
    (kept : p.transmit = [] ∨ (waiting = true ∧ p.lastFrame = some .part)) : p.serve waiting = p := by
  unfold PortState.serve
  split
  · rfl
  · next m rest list =>
    rcases kept with empty | ⟨wait, part⟩
    · rw [list] at empty; contradiction
    · exact if_pos (by simp [wait, part])

/-- A port that is written as it was changes nothing. -/
theorem State.setPortState_self (s : State) (port : Port) :
    s.setPortState (slotOf port) (s.portState (slotOf port)) = s := by
  have same : Tab.putSlot s.registry.ports (slotOf port) (s.portState (slotOf port)) = s.registry.ports := by
    ext i hi : 1
    simp only [Tab.putSlot, Tab.put, State.portState, Tab.getSlot, Tab.get, slotOf, Vector.getElem_setIfInBounds]
    split
    · next here => subst here; simp [hi]
    · rfl
  unfold State.setPortState
  rw [same]

/-- Settles O48: a frame is discarded by its checks alone, and a line sends by its list and its turn. -/
theorem lineDiscardsAndSendsFrames : Obligations.LineDiscardsAndSendsFrames := by
  unfold Obligations.LineDiscardsAndSendsFrames
  intro port frame waiting s up
  rw [exec_frameError port frame up, exec_probeFrameSend port waiting up]
  refine ⟨fun fails => ?_, fun passes => by rw [if_pos passes], fun m rest list turn started => ?_, ?_⟩
  · rw [fails, if_neg (by simp), discardFrame_eq]
  · rw [started, if_neg (by simp), PortState.serve_of_sent waiting list turn]
  · intro kept
    split
    · rfl
    · next started =>
      have stays : (s.portState (slotOf port)).transmit = []
          ∨ (waiting = true ∧ (s.portState (slotOf port)).lastFrame = some .part) := by
        rcases kept with empty | turn | starting
        · exact .inl empty
        · exact .inr turn
        · exact absurd starting started
      rw [PortState.serve_of_kept waiting stays, State.setPortState_self]

end Sys2Proof.Machine

/-! A start over distinct participants (R57, R71): each is given its assignment and its message once. -/

namespace Sys2Proof.Machine

/-- The fold of a start touches the slot of a participant once, at that participant. -/
theorem foldl_assign (t : Tag) (test : TestPlan) (start : Nat) {ps : List Participant} {p : Participant}
    (nodup : (ps.map Participant.slot).Nodup) (hp : p ∈ ps) (low : 1 ≤ p.slot) (high : p.slot ≤ 18)
    (s : State) :
    (ps.foldl (fun r p => assign t test start p r) s).probe p.slot = (s.probe p.slot).give ⟨t, p.role⟩
      ∧ (ps.foldl (fun r p => assign t test start p r) s).portState p.slot
          = (s.portState p.slot).hand (assignmentMessage s t test start p) := by
  have others : ∀ (qs : List Participant), p.slot ∉ qs.map Participant.slot → ∀ x : State,
      (qs.foldl (fun r p => assign t test start p r) x).probe p.slot = x.probe p.slot
      ∧ (qs.foldl (fun r p => assign t test start p r) x).portState p.slot = x.portState p.slot := by
    intro qs
    induction qs with
    | nil => intro _ x; exact ⟨rfl, rfl⟩
    | cons q qs ih =>
      intro absent x
      rw [List.map_cons, List.mem_cons, not_or] at absent
      obtain ⟨other, absent⟩ := absent
      obtain ⟨probe, port⟩ := ih absent (assign t test start q x)
      rw [List.foldl_cons, probe, port, assign_probe, assign_portState]
      simp [Ne.symm other]
  induction ps generalizing s with
  | nil => cases hp
  | cons q ps ih =>
    rw [List.map_cons, List.nodup_cons] at nodup
    obtain ⟨fresh, nodup⟩ := nodup
    rw [List.foldl_cons]
    rcases List.mem_cons.mp hp with rfl | later
    · obtain ⟨probe, port⟩ := others ps fresh (assign t test start p s)
      rw [probe, port, assign_probe, assign_portState]
      simp [low, high]
    · have other : q.slot ≠ p.slot := fun same => fresh (same ▸ List.mem_map_of_mem later)
      obtain ⟨probe, port⟩ := ih nodup later (assign t test start q s)
      rw [probe, port, assign_probe, assign_portState,
        assignmentMessage_congr (s := s) (t := assign t test start q s) (by simp)]
      simp [other]

/-- Settles O51: taking the table slot moves no entry and no port, and the fold over the participants gives each its
own. -/
theorem startAssignsEveryParticipant : Obligations.StartAssignsEveryParticipant := by
  unfold Obligations.StartAssignsEveryParticipant
  intro k test p s nodup hp low high
  exact foldl_assign (s.nextTag k) test s.timer.fixtureTime nodup hp low high (takeSlot k (s.openStep test) s)

end Sys2Proof.Machine

/-! SETUPACK and MARKACK (R46, R48 to R50, R52): the acknowledgements that are taken, where they take the probe, and
those that are stray. -/

namespace Sys2Proof.Machine

/-! ## Two changes of one entry -/

theorem State.setProbe_setProbe (s : State) (n : Nat) (e e' : ProbeEntry) :
    (s.setProbe n e).setProbe n e' = s.setProbe n e' := by
  cases n with
  | zero => rfl
  | succ i => simp [State.setProbe, Tab.putSlot, Tab.put]

theorem State.mapProbe_mapProbe (s : State) (port : Port) (f g : ProbeEntry → ProbeEntry) :
    (s.mapProbe (slotOf port) f).mapProbe (slotOf port) g = s.mapProbe (slotOf port) fun e => g (f e) := by
  obtain ⟨low, high⟩ := slotOf_bounds port
  rw [State.mapProbe, State.probe_mapProbe_same _ _ _ low high]
  exact State.setProbe_setProbe s _ _ _

/-- A change of state raises PROBE (R56). -/
theorem changeState_isSet_probe {n : Nat} {new : ProbeState} {s : State} (h : (s.probe n).state ≠ new) :
    (changeState n new s).port.isSet .probe = true := by
  unfold changeState
  rw [if_neg h, hand_isSet .probe rfl]
  exact raise_isSet .probe _

/-- A message that changes the state and the fields of its sender's entry moves the Probe Table at that entry, and
raises PROBE (R56). -/
theorem changeState_heard (port : Port) (f : ProbeEntry → ProbeEntry) {new : ProbeState} {s : State}
    (h : (f (s.probe (slotOf port))).state ≠ new) :
    ∃ t, changeState (slotOf port) new ((hearProbe (slotOf port) s).mapProbe (slotOf port) f) = t
      ∧ t.probe (slotOf port) = { f (s.probe (slotOf port)) with state := new }
      ∧ (∀ n, n ≠ slotOf port → t.probe n = s.probe n) ∧ t.port.isSet .probe = true
      ∧ t.timer = s.timer ∧ t.engine = s.engine ∧ t.links = s.links ∧ t.spot = s.spot
      ∧ t.plans = s.plans ∧ t.store = s.store := by
  obtain ⟨low, high⟩ := slotOf_bounds port
  have own : ((hearProbe (slotOf port) s).mapProbe (slotOf port) f).probe (slotOf port)
      = f (s.probe (slotOf port)) := State.probe_mapProbe_same _ _ _ low high
  refine ⟨_, rfl, ?_, fun n other => ?_, changeState_isSet_probe (by rw [own]; exact h), ?_⟩
  · rw [changeState_probe, own]
    exact if_pos ⟨rfl, low, high⟩
  · rw [changeState_probe, State.probe_mapProbe]
    simp [Ne.symm other]
  · simp

/-! ## SETUPACK (R48) -/

section
variable {port : Port} {s : State} (up : s.port.resetLow = false)
include up

theorem exec_setupAck_of_present (present : (s.probe (slotOf port)).state ≠ .absent) :
    exec (.setupAck port) s = .next (takeSetupAck (slotOf port) (hearProbe (slotOf port) s)) := by
  have admits : ProbeState.configured (s.probe (slotOf port)).state = true := by
    cases h : (s.probe (slotOf port)).state with
    | absent => contradiction
    | _ => rfl
  exact congrArg _ (receive_admitted _ _ _ up admits)

theorem exec_setupAck_of_absent (absent : (s.probe (slotOf port)).state = .absent) :
    exec (.setupAck port) s = .next (stray (slotOf port) (hearProbe (slotOf port) s)) :=
  congrArg _ (receive_stray _ _ _ up (by rw [absent]; rfl))

theorem exec_setupAck_of_unconfigured (state : (s.probe (slotOf port)).state = .unconfigured)
    (setup : (s.probe (slotOf port)).setupOutstanding = true) :
    exec (.setupAck port) s = .next (changeState (slotOf port) .syncing
      ((hearProbe (slotOf port) s).mapProbe (slotOf port) fun e =>
        { e with setupOutstanding := false, outstanding := none, syncCount := 0, missCount := 0 })) := by
  rw [exec_setupAck_of_present up (by rw [state]; decide)]
  unfold takeSetupAck
  dsimp only
  rw [hearProbe_probe, setup, state, if_neg (by decide), if_pos rfl, State.mapProbe_mapProbe]

theorem exec_setupAck_of_configured (other : (s.probe (slotOf port)).state ≠ .unconfigured)
    (present : (s.probe (slotOf port)).state ≠ .absent)
    (setup : (s.probe (slotOf port)).setupOutstanding = true) :
    exec (.setupAck port) s = .next ((hearProbe (slotOf port) s).setProbe (slotOf port)
      { s.probe (slotOf port) with setupOutstanding := false }) := by
  rw [exec_setupAck_of_present up present]
  unfold takeSetupAck
  dsimp only
  rw [hearProbe_probe, setup, if_neg (by decide), if_neg other]
  rfl

theorem exec_setupAck_stray (h : (s.probe (slotOf port)).state = .absent
      ∨ (s.probe (slotOf port)).setupOutstanding = false) :
    exec (.setupAck port) s = .next (stray (slotOf port) (hearProbe (slotOf port) s)) := by
  by_cases absent : (s.probe (slotOf port)).state = .absent
  · exact exec_setupAck_of_absent up absent
  · rw [exec_setupAck_of_present up absent]
    unfold takeSetupAck
    dsimp only
    rw [hearProbe_probe, h.resolve_left absent]
    rfl

/-! ## MARKACK (R49, R50, R52) -/

/-- A timely MARKACK, of the outstanding mark, takes its sender to the next state (R49). -/
theorem exec_markAck_timely {sweep : Word} (state : (s.probe (slotOf port)).state.acknowledges = true)
    (mark : (s.probe (slotOf port)).outstanding = some sweep) :
    exec (.markAck port sweep) s
      = .next (changeState (slotOf port) (s.probe (slotOf port)).stateAfterAck
          ((hearProbe (slotOf port) s).mapProbe (slotOf port) ProbeEntry.acked)) := by
  have taken := receive_admitted (slotOf port) ProbeState.acknowledges (takeMarkAck (slotOf port) sweep) up state
  refine (congrArg _ taken).trans (congrArg _ ?_)
  unfold takeMarkAck
  exact if_pos mark

theorem exec_markAck_stray {sweep : Word} (h : (s.probe (slotOf port)).outstanding ≠ some sweep
      ∨ (s.probe (slotOf port)).state.acknowledges = false) :
    exec (.markAck port sweep) s = .next (stray (slotOf port) (hearProbe (slotOf port) s)) := by
  cases state : (s.probe (slotOf port)).state.acknowledges with
  | false => exact congrArg _ (receive_stray _ _ _ up state)
  | true =>
    have taken := receive_admitted (slotOf port) ProbeState.acknowledges (takeMarkAck (slotOf port) sweep) up state
    refine (congrArg _ taken).trans (congrArg _ ?_)
    unfold takeMarkAck
    exact if_neg (h.resolve_right (by rw [state]; decide))

end

/-- A state that is kept is no change (R56). -/
theorem changeState_of_same {n : Nat} {st : ProbeState} {s : State} (h : (s.probe n).state = st) :
    changeState n st s = s := if_pos h

/-- The acknowledgement of a mark that keeps its sender's state clears the mark alone. -/
theorem changeState_acked_of_kept (port : Port) {s : State}
    (kept : (s.probe (slotOf port)).stateAfterAck = (s.probe (slotOf port)).state) :
    changeState (slotOf port) (s.probe (slotOf port)).stateAfterAck
        ((hearProbe (slotOf port) s).mapProbe (slotOf port) ProbeEntry.acked)
      = (hearProbe (slotOf port) s).setProbe (slotOf port) (s.probe (slotOf port)).acked := by
  obtain ⟨low, high⟩ := slotOf_bounds port
  refine changeState_of_same ?_
  rw [State.probe_mapProbe_same _ _ _ low high, kept]
  rfl

/-- Settles O44: each acknowledgement by the state of its sender, which it changes or keeps; one that answers nothing
outstanding is stray. -/
theorem acknowledgementsMoveTheProbe : Obligations.AcknowledgementsMoveTheProbe := by
  unfold Obligations.AcknowledgementsMoveTheProbe
  intro port sweep s up
  refine ⟨fun state setup => ?configures, exec_setupAck_of_configured up, exec_setupAck_stray up,
    fun mark => ⟨fun state counted => ?inStep, fun state fresh => ?syncing, fun state => ?kept, fun state => ?lost⟩,
    fun h => exec_markAck_stray up ?stray⟩
  case configures =>
    obtain ⟨t, rfl, moved⟩ := changeState_heard port (s := s) (new := .syncing) (fun e =>
      { e with setupOutstanding := false, outstanding := none, syncCount := 0, missCount := 0 })
      (by rw [state]; decide)
    exact ⟨_, exec_setupAck_of_unconfigured up state setup, moved⟩
  case inStep =>
    have after : (s.probe (slotOf port)).stateAfterAck = .inStep := by
      simp [ProbeEntry.stateAfterAck, state, Nat.succ_le_succ counted]
    obtain ⟨t, rfl, own, moved⟩ := changeState_heard port (s := s) (new := .inStep) ProbeEntry.acked
      (by rw [ProbeEntry.acked, state]; decide)
    refine ⟨_, ?_, own.trans (by simp [ProbeEntry.acked, state]), moved⟩
    rw [exec_markAck_timely up (by rw [state]; rfl) mark, after]
  case lost =>
    have after : (s.probe (slotOf port)).stateAfterAck = .syncing := by
      simp [ProbeEntry.stateAfterAck, state]
    obtain ⟨t, rfl, own, moved⟩ := changeState_heard port (s := s) (new := .syncing) ProbeEntry.acked
      (by rw [ProbeEntry.acked, state]; decide)
    refine ⟨_, ?_, own.trans (by simp [ProbeEntry.acked, state]), moved⟩
    rw [exec_markAck_timely up (by rw [state]; rfl) mark, after]
  case syncing =>
    rw [exec_markAck_timely up (by rw [state]; rfl) mark,
      changeState_acked_of_kept port (by simp [ProbeEntry.stateAfterAck, state, fresh])]
    simp [ProbeEntry.acked, state, fresh]
  case kept =>
    rw [exec_markAck_timely up (by rw [state]; rfl) mark,
      changeState_acked_of_kept port (by simp [ProbeEntry.stateAfterAck, state])]
    simp [ProbeEntry.acked, state]
  case stray =>
    rcases h with other | absent | unconfigured | faulted
    · exact .inl other
    · exact .inr (by rw [absent]; rfl)
    · exact .inr (by rw [unconfigured]; rfl)
    · exact .inr (by rw [faulted]; rfl)

end Sys2Proof.Machine

/-! RUN PAUSE (R29, R30): the requests of the run go through their checks in order, and a pause with no step
open enters PAUSED at once. -/

namespace Sys2Proof.Machine

theorem exec_runPause {s : State} (hs : s.serves = true) :
    exec (.runPause (requestCrc 0x21 [])) s = .next (runPause s).finish :=
  congrArg Host.Outcome.next (takeRequest_serves 0x21 [] runPause hs)

theorem runPause_of_other {s : State} (other : s.timer.run ≠ .running) : runPause s = refuse .state s :=
  if_pos other

theorem runPause_of_open {s : State} (running : s.timer.run = .running) (isOpen : s.tableEmpty = false) :
    runPause s = reply .accepted (s.setRun .pausing) := by
  unfold runPause
  rw [if_neg (not_not_intro running), if_neg (Bool.eq_false_iff.1 isOpen)]

theorem runPause_of_empty {s : State} (running : s.timer.run = .running) (empty : s.tableEmpty = true) :
    runPause s = reply .done (enterPaused (s.setRun .pausing)) := by
  unfold runPause
  rw [if_neg (not_not_intro running), if_pos empty]

/-! ## Entry into PAUSED (R30) -/

theorem enterPaused_timer (s : State) : (enterPaused s).timer = { s.timer with run := .paused } := by
  simp [enterPaused, State.setRun]

theorem enterPaused_portState (s : State) (n : Nat) (low : 1 ≤ n) (high : n ≤ 18) :
    (enterPaused s).portState n
      = if (s.probe n).state = .absent then s.portState n
        else (s.portState n).hand (.park s.params.parkMode) := by
  have params : (s.setRun .paused).params = s.params := rfl
  rw [enterPaused, raise_portState, parkAll_portState, State.setRun_probe, State.setRun_portState, params]
  by_cases absent : (s.probe n).state = .absent <;> simp [absent, low, high]

theorem enterPaused_probes (s : State) : (enterPaused s).registry.probes = s.registry.probes := by
  rw [enterPaused, raise_registry, parkAll_probes, State.setRun_registry]

theorem enterPaused_session (s : State) : (enterPaused s).registry.session = s.registry.session := by
  rw [enterPaused, raise_registry, parkAll_session, State.setRun_registry]

/-- Settles O22: the three outcomes of the checks; with no step open the pause is the entry into PAUSED. -/
theorem runPauseDrainsTheRun : Obligations.RunPauseDrainsTheRun := by
  unfold Obligations.RunPauseDrainsTheRun
  intro s hs
  rw [exec_runPause hs]
  refine ⟨fun running isOpen => ?drains, fun running empty => ?pauses, fun other => ?refused⟩
  case drains => rw [runPause_of_open running isOpen, reply_finish]; rfl
  case refused => rw [runPause_of_other other, refuse_finish]
  case pauses =>
    obtain ⟨-, -, -, engine, links, spot, router, plans, store⟩ := enterPaused_frame (s.setRun .pausing)
    refine ⟨(enterPaused (s.setRun .pausing)).answered ⟨.done, []⟩, ?taken, ?timer, ?flag, ?answer, ?ports,
      ?probes, ?session, ?engine, ?links, ?spot, ?router, ?plans, ?store⟩
    case taken => rw [runPause_of_empty running empty, reply_finish]
    case timer => rw [State.answered_timer, enterPaused_timer, State.setRun_timer]
    case flag => rw [State.answered_isSet]; exact raise_isSet ..
    case answer => rw [State.answered_port]
    case ports =>
      intro n low high
      rw [State.answered_portState, enterPaused_portState _ n low high]
      rfl
    case probes => rw [State.answered_registry, enterPaused_probes, State.setRun_registry]
    case session => rw [State.answered_registry, enterPaused_session, State.setRun_registry]
    case engine => rw [State.answered_engine, engine, State.setRun_engine]
    case links => rw [State.answered_links, links, State.setRun_links]
    case spot => rw [State.answered_spot, spot, State.setRun_spot]
    case router => rw [State.answered_router, router, State.setRun_router]
    case plans => rw [State.answered_plans, plans, State.setRun_plans]
    case store => rw [State.answered_store, store, State.setRun_store]

end Sys2Proof.Machine

/-! RUN START (R26): the checks in their order, and the first sweep start of the run that begins. -/

namespace Sys2Proof.Machine

theorem exec_runStart (fresh : Byte) {s : State} (hs : s.serves = true) :
    exec (.runStart fresh (requestCrc 0x20 [fresh])) s = .next (runStart fresh s).finish :=
  congrArg Host.Outcome.next (takeRequest_serves 0x20 [fresh] (runStart fresh) hs)

section
variable {fresh : Byte} {s : State}

theorem runStart_of_option (beyond : 1 < fresh.toNat) : runStart fresh s = refuse .range s :=
  if_pos beyond

theorem runStart_of_state (option : fresh.toNat ≤ 1)
    (h : s.timer.run ≠ .stopped ∨ s.registry.session.state.allowsRun = false) :
    runStart fresh s = refuse .state s := by
  unfold runStart
  rw [if_neg (by omega)]
  by_cases stopped : s.timer.run = .stopped
  · rw [if_neg (not_not_intro stopped), h.resolve_left (not_not_intro stopped)]; rfl
  · rw [if_pos stopped]

variable (option : fresh.toNat ≤ 1) (stopped : s.timer.run = .stopped)
  (session : s.registry.session.state.allowsRun = true)
include option stopped session

theorem runStart_of_no_steps (empty : s.active.count = 0) : runStart fresh s = refuse .invalid s := by
  unfold runStart
  rw [if_neg (by omega), if_neg (not_not_intro stopped), session, if_pos empty]; rfl

theorem runStart_of_ready (steps : s.active.count ≠ 0) :
    runStart fresh s = reply .done (beginRun fresh s) := by
  unfold runStart
  rw [if_neg (by omega), if_neg (not_not_intro stopped), session, if_neg steps]; rfl

end

/-! ## The state in which the first sweep start is taken -/

/-- The selection and the candidates are discarded, the links cleared with the fresh option, and health is CLEAR. -/
def readyToRun (fresh : Byte) (s : State) : State :=
  setHealth .clear (freshClear fresh (s.withSession Session.reset))

theorem beginRun_eq (fresh : Byte) (s : State) : beginRun fresh s = firstSweep (readyToRun fresh s) := rfl

theorem setHealth_isSet (h : Health) (s : State) :
    (setHealth h s).port.isSet .health = (s.port.isSet .health || s.timer.health != h) := by
  unfold setHealth
  split
  · next same => simp [same]
  · next other => simp [raise, StationPort.isSet_raise, other]

theorem setHealth_isSet_of_ne (h : Health) (s : State) {f : Flag} (other : f ≠ .health) :
    (setHealth h s).port.isSet f = s.port.isSet f := by
  unfold setHealth
  split
  · rfl
  · simp [raise, StationPort.isSet_raise, other]

theorem freshClear_isSet (fresh : Byte) {f : Flag} (beside : f.besideRouter = true) (s : State) :
    (freshClear fresh s).port.isSet f = s.port.isSet f := by
  unfold freshClear
  split
  · exact clearAllLinks_isSet f beside s
  · rfl

theorem freshClear_kept (s : State) : freshClear 0 s = s := if_neg (by decide)

theorem freshClear_link (s : State) (id : Nat) :
    (freshClear 1 s).link id
      = if s.linkDefined id = true then
          { LinkRecord.fresh (s.link id).definedIn with withdrawn := (s.link id).withdrawn }
        else s.link id := by
  have cleared : freshClear 1 s = clearAllLinks s := if_pos rfl
  rw [cleared, clearAllLinks_link]

section
variable (fresh : Byte) (s : State)

theorem readyToRun_registry : (readyToRun fresh s).registry = { s.registry with session := Session.reset } := by
  obtain ⟨-, -, -, -, registry, -⟩ := setHealth_frame .clear (freshClear fresh (s.withSession Session.reset))
  obtain ⟨-, -, -, -, -, cleared, -⟩ := freshClear_frame fresh (s.withSession Session.reset)
  rw [readyToRun, registry, cleared]; rfl

theorem readyToRun_health : (readyToRun fresh s).timer.health = .clear := by
  rw [readyToRun, setHealth_timer]

theorem readyToRun_links :
    (readyToRun fresh s).links = (freshClear fresh (s.withSession Session.reset)).links := by
  obtain ⟨-, -, -, -, -, links, -⟩ := setHealth_frame .clear (freshClear fresh (s.withSession Session.reset))
  exact links

theorem readyToRun_router :
    (readyToRun fresh s).router = (freshClear fresh (s.withSession Session.reset)).router := by
  obtain ⟨-, -, -, -, -, -, -, router, -⟩ :=
    setHealth_frame .clear (freshClear fresh (s.withSession Session.reset))
  exact router

theorem readyToRun_isSet_health :
    (readyToRun fresh s).port.isSet .health = (s.port.isSet .health || s.timer.health != .clear) := by
  obtain ⟨-, -, -, timer, -⟩ := freshClear_frame fresh (s.withSession Session.reset)
  rw [readyToRun, setHealth_isSet, freshClear_isSet fresh rfl, timer]
  rfl

theorem readyToRun_isSet_run : (readyToRun fresh s).port.isSet .run = s.port.isSet .run := by
  rw [readyToRun, setHealth_isSet_of_ne _ _ (by decide), freshClear_isSet fresh rfl]
  rfl

end

/-! ## The first sweep start -/

theorem firstSweep_timer (s : State) :
    (firstSweep s).timer
      = { SweepTimer.reset with run := .syncing, health := s.timer.health, sweepActive := true } := by
  simp [firstSweep]

theorem firstSweep_probe (s : State) (n : Nat) :
    (firstSweep s).probe n
      = if (1 ≤ n ∧ n ≤ 18) ∧ (s.probe n).state.marked = true then
          { s.probe n with outstanding := some 0 }
        else s.probe n := by
  rw [firstSweep, sendMarks_probe]
  rfl

theorem firstSweep_portState (s : State) (n : Nat) :
    (firstSweep s).portState n
      = if (1 ≤ n ∧ n ≤ 18) ∧ (s.probe n).state.marked = true then (s.portState n).hand (.mark 0 0 0)
        else s.portState n := by
  rw [firstSweep, sendMarks_portState]
  rfl

theorem sendMarks_session (s : State) : (sendMarks s).registry.session = s.registry.session := by
  unfold sendMarks
  refine foldl_keeps (fun t : State => t.registry.session = s.registry.session) _ ?_ _ _ rfl
  intro t n kept
  unfold sendMark
  split
  · exact kept
  · exact kept

/-! ## The run begun -/

section
variable (fresh : Byte) (s : State)

theorem beginRun_timer :
    (beginRun fresh s).timer = { SweepTimer.reset with run := .syncing, sweepActive := true } := by
  rw [beginRun_eq, firstSweep_timer, readyToRun_health]
  rfl

theorem beginRun_session : (beginRun fresh s).registry.session = ⟨.idle, none, [], none⟩ := by
  rw [beginRun_eq, firstSweep, sendMarks_session, State.withTimer_registry, readyToRun_registry]
  rfl

theorem beginRun_port : (beginRun fresh s).port = (readyToRun fresh s).port := by
  obtain ⟨-, -, -, -, -, -, -, -, -, port⟩ := firstSweep_frame (readyToRun fresh s)
  rw [beginRun_eq, port]

theorem beginRun_links : (beginRun fresh s).links = (freshClear fresh (s.withSession Session.reset)).links := by
  obtain ⟨-, -, -, -, links, -⟩ := firstSweep_frame (readyToRun fresh s)
  rw [beginRun_eq, links, readyToRun_links]

theorem beginRun_router :
    (beginRun fresh s).router = (freshClear fresh (s.withSession Session.reset)).router := by
  obtain ⟨-, -, -, -, -, -, router, -⟩ := firstSweep_frame (readyToRun fresh s)
  rw [beginRun_eq, router, readyToRun_router]

theorem readyToRun_probe (n : Nat) : (readyToRun fresh s).probe n = s.probe n := by
  rw [State.probe, readyToRun_registry]
  rfl

theorem readyToRun_portState (n : Nat) : (readyToRun fresh s).portState n = s.portState n := by
  rw [State.portState, readyToRun_registry]
  rfl

theorem beginRun_marked {n : Nat} (low : 1 ≤ n) (high : n ≤ 18) (marked : (s.probe n).state.marked = true) :
    (beginRun fresh s).probe n = { s.probe n with outstanding := some 0 }
      ∧ (beginRun fresh s).portState n = (s.portState n).hand (.mark 0 0 0) := by
  rw [beginRun_eq, firstSweep_probe, firstSweep_portState, readyToRun_probe, readyToRun_portState,
    if_pos ⟨⟨low, high⟩, marked⟩, if_pos ⟨⟨low, high⟩, marked⟩]
  exact ⟨rfl, rfl⟩

theorem beginRun_unmarked {n : Nat} (unmarked : (s.probe n).state.marked = false) :
    (beginRun fresh s).probe n = s.probe n ∧ (beginRun fresh s).portState n = s.portState n := by
  rw [beginRun_eq, firstSweep_probe, firstSweep_portState, readyToRun_probe, readyToRun_portState, unmarked]
  exact ⟨if_neg (by simp), if_neg (by simp)⟩

end

/-- Settles O21: the refusals in the order of R26; the run begun is the first sweep start in the state it is
taken in. -/
theorem runStartBeginsARun : Obligations.RunStartBeginsARun := by
  unfold Obligations.RunStartBeginsARun
  refine ⟨fun fresh s hs option stopped session steps => ?begins, fun fresh s hs =>
    ⟨fun beyond => ?range, fun option state => ?state, fun option stopped session empty => ?invalid⟩⟩
  case range => rw [exec_runStart fresh hs, runStart_of_option beyond, refuse_finish]
  case state => rw [exec_runStart fresh hs, runStart_of_state option state, refuse_finish]
  case invalid =>
    have noSteps : s.active.count = 0 := by rw [Plan.count, empty]; rfl
    rw [exec_runStart fresh hs, runStart_of_no_steps option stopped session noSteps, refuse_finish]
  case begins =>
    have timer := beginRun_timer fresh s
    obtain ⟨-, -, -, engine, spot, plans, store⟩ := beginRun_frame fresh s
    refine ⟨(beginRun fresh s).answered ⟨.done, []⟩, ?taken, ?run, ?clear, ?time, ?number, ?sweepTime, ?pattern,
      ?indicator, ?sessionReset, ?answer, ?health, ?runFlag, fun n low high marked => ?marked,
      fun n low high unmarked => ?unmarked, fun kept => ?kept, fun cleared id => ?cleared, ?engine, ?spot,
      ?plans, ?store⟩
    case taken => rw [exec_runStart fresh hs, runStart_of_ready option stopped session steps, reply_finish]
    case run => rw [State.answered_timer, timer]
    case clear => rw [State.answered_timer, timer]; rfl
    case time => rw [State.answered_timer, timer]; rfl
    case number => rw [State.answered_timer, timer]; rfl
    case sweepTime => rw [State.answered_timer, timer]; rfl
    case pattern => rw [State.answered_timer, timer]; rfl
    case indicator => rw [State.answered_timer, timer]; rfl
    case sessionReset => rw [State.answered_registry, beginRun_session]
    case answer => rw [State.answered_port]
    case health => rw [State.answered_isSet, beginRun_port, readyToRun_isSet_health]
    case runFlag => rw [State.answered_isSet, beginRun_port, readyToRun_isSet_run]
    case marked =>
      rw [State.answered_probe, State.answered_portState]
      exact beginRun_marked fresh s low high marked
    case unmarked =>
      rw [State.answered_probe, State.answered_portState]
      exact beginRun_unmarked fresh s unmarked
    case kept =>
      rw [State.answered_links, State.answered_router, beginRun_links, beginRun_router, kept, freshClear_kept]
      exact ⟨rfl, rfl⟩
    case cleared =>
      rw [State.answered_link, State.link_of_links (beginRun_links fresh s), cleared, freshClear_link]
      rfl
    case engine => rw [State.answered_engine, engine]
    case spot => rw [State.answered_spot, spot]
    case plans => rw [State.answered_plans, plans]
    case store => rw [State.answered_store, store]

end Sys2Proof.Machine

/-! What an installation hands to the ports (R48), and the entry into STOPPED block by block (R33, R39, R55). -/

namespace Sys2Proof.Machine

/-- A slot outside the 18 reads as a probe after a reset. -/
theorem State.probe_of_beyond (s : State) {n : Nat} (beyond : ¬ (1 ≤ n ∧ n ≤ 18)) :
    s.probe n = ProbeEntry.reset := by
  unfold State.probe
  cases n with
  | zero => rfl
  | succ i =>
    have past : s.registry.probes[i]? = none := Vector.getElem?_eq_none (by omega)
    rw [Tab.getSlot, Tab.get, past]
    rfl

/-! ## SETUP at an installation (R48) -/

/-- The port of slot `n` after the policies and the park mode of `new` have replaced those of `old`. -/
def PortState.setUp (p : PortState) (probe : ProbeState) (old new : Params) (n : Nat) : PortState :=
  if probe ≠ .absent ∧ (old.parkMode ≠ new.parkMode ∨ old.policy n ≠ new.policy n) then
    p.hand (.setup (new.policy n) new.parkMode)
  else p

theorem installProbe_portState (old : Params) (n m : Nat) (s : State) :
    (installProbe old n s).portState m
      = if n = m ∧ 1 ≤ m ∧ m ≤ 18 then (s.portState m).setUp (s.probe m).state old s.params m
        else s.portState m := by
  unfold installProbe PortState.setUp
  dsimp only
  by_cases here : n = m ∧ 1 ≤ m ∧ m ≤ 18
  · obtain ⟨rfl, low, high⟩ := here
    have slot : n = n ∧ 1 ≤ n ∧ n ≤ 18 := ⟨rfl, low, high⟩
    rw [State.probe_mapProbe_same _ _ _ low high, ProbeEntry.takePolicy_state, if_pos slot]
    split
    · rw [sendSetup_portState, State.portState_mapProbe, if_pos slot]
      rfl
    · rw [State.portState_mapProbe]
  · rw [if_neg here]
    split
    · rw [sendSetup_portState, State.portState_mapProbe, if_neg here]
    · rw [State.portState_mapProbe]

theorem installProbes_portState (old : Params) (s : State) (n : Nat) :
    (installProbes old s).portState n
      = if 1 ≤ n ∧ n ≤ 18 then (s.portState n).setUp (s.probe n).state old s.params n
        else s.portState n := by
  have h := foldl_local (fun t n => installProbe old n t) State.portState
    (fun n p => p.setUp (s.probe n).state old s.params n)
    (fun t => t.plans = s.plans ∧ ∀ m, (t.probe m).state = (s.probe m).state)
    (by
      rintro t n ⟨plans, states⟩
      refine ⟨(installProbe_frame old n t).2.2.2.2.2.2.2.2.1.trans plans, fun m => ?_⟩
      rw [installProbe_probe, ← states m]
      split
      · exact ProbeEntry.takePolicy_state ..
      · rfl)
    allSlots allSlots_nodup
    (by
      rintro t n mem ⟨plans, states⟩
      rw [installProbe_portState, if_pos ⟨rfl, (mem_allSlots n).1 mem⟩, State.params_of_plans plans, states])
    (by intro t n k _ other; rw [installProbe_portState, if_neg (by simp [other])])
    s ⟨rfl, fun _ => rfl⟩ n
  unfold installProbes
  simpa only [mem_allSlots] using h

/-- The registry takes the new plan last, with the entries and ports as they stood. -/
theorem install_eq_installProbes (s : State) :
    ∃ x : State, install s = installProbes s.active.params x ∧ x.registry = s.registry
      ∧ x.params = s.plans.shadow.params := by
  refine ⟨_, install_eq s, ?registry, ?params⟩
  case registry =>
    apply Eq.trans (installSpot_frame _).2.2.2.2.2.1
    apply Eq.trans (installLinks_frame _ _).2.2.2.2.2.1
    apply Eq.trans (installLevel_frame _ _ _).2.2.2.2.2.1
    exact (installLevel_frame _ _ _).2.2.2.2.2.1
  case params =>
    apply State.params_of_plans (s := installPlan s)
    apply Eq.trans (installSpot_frame _).2.2.2.2.2.2.2.1
    apply Eq.trans (installLinks_frame _ _).2.2.2.2.2.2.2.1
    apply Eq.trans (installLevel_frame _ _ _).2.2.2.2.2.2.2.2.2.1
    exact (installLevel_frame _ _ _).2.2.2.2.2.2.2.2.2.1

theorem install_portState (s : State) {n : Nat} (low : 1 ≤ n) (high : n ≤ 18) :
    (install s).portState n
      = (s.portState n).setUp (s.probe n).state s.params s.plans.shadow.params n := by
  obtain ⟨x, install, registry, params⟩ := install_eq_installProbes s
  rw [install, installProbes_portState, if_pos ⟨low, high⟩, State.portState_of_registry registry,
    State.probe_of_registry registry, params]
  rfl

/-- A pending apply hands SETUP to the probes whose park mode or policy it changes (R48, R163). -/
theorem installPending_portState (s : State) {n : Nat} (low : 1 ≤ n) (high : n ≤ 18) :
    (installPending s).portState n
      = (s.portState n).setUp (s.probe n).state s.params (installPending s).params n := by
  by_cases pending : s.plans.applyPending = true
  · have params : (installPending s).params = s.plans.shadow.params := by
      rw [State.params, installPending_plans, if_pos pending]
    rw [params, installPending, if_pos pending, raise_portState, install_portState _ low high]
    rfl
  · rw [installPending_of_none s (by simpa using pending)]
    exact (if_neg (by simp)).symm

/-- Without a pending apply the plan, and so the port, stays. -/
theorem PortState.setUp_installPending (p : PortState) (s : State) (probe : ProbeState) (n : Nat) :
    p.setUp probe s.params (installPending s).params n
      = if s.plans.applyPending = true ∧ probe ≠ .absent
            ∧ (s.params.parkMode ≠ (installPending s).params.parkMode
              ∨ s.params.policy n ≠ (installPending s).params.policy n) then
          p.hand (.setup ((installPending s).params.policy n) (installPending s).params.parkMode)
        else p := by
  unfold PortState.setUp
  by_cases pending : s.plans.applyPending = true
  · simp only [pending, true_and]
  · rw [installPending_of_none s (by simpa using pending)]
    simp

theorem installPending_probe_state (s : State) (n : Nat) :
    ((installPending s).probe n).state = (s.probe n).state := by
  rw [installPending_probe]

/-! ## Entry into STOPPED (R33) -/

/-- The state in which an entry into STOPPED installs a pending apply. -/
def sweepEnded (s : State) : State := (endSweep s).setRun .stopped

theorem enterStopped_eq (s : State) :
    enterStopped s = raise .run (stopProbes (parkAll (installPending (sweepEnded s)))) := rfl

section
variable (s : State)

theorem sweepEnded_registry : (sweepEnded s).registry = s.registry := by
  obtain ⟨-, -, -, registry, -⟩ := endSweep_frame s
  rw [sweepEnded, State.setRun_registry, registry]

theorem sweepEnded_plans : (sweepEnded s).plans = s.plans := by
  obtain ⟨-, -, -, -, -, plans, -⟩ := endSweep_frame s
  rw [sweepEnded, State.setRun_plans, plans]

theorem enterStopped_timer :
    (enterStopped s).timer = { s.timer with
      run := .stopped, notStarted := (endSweep s).timer.notStarted, sweepActive := false,
      sweepEndDue := false } := by
  obtain ⟨-, -, -, stopped, -⟩ := stopProbes_frame (parkAll (installPending (sweepEnded s)))
  obtain ⟨-, -, -, parked, -⟩ := parkAll_frame (installPending (sweepEnded s))
  obtain ⟨-, -, -, installed, -⟩ := installPending_frame (sweepEnded s)
  rw [enterStopped_eq, raise_timer, stopped, parked, installed, sweepEnded, State.setRun_timer,
    endSweep_timer]

theorem enterStopped_engine :
    (enterStopped s).engine = { s.engine with merged := none, free := none } := by
  obtain ⟨-, -, -, -, stopped, -⟩ := stopProbes_frame (parkAll (installPending (sweepEnded s)))
  obtain ⟨-, -, -, -, parked, -⟩ := parkAll_frame (installPending (sweepEnded s))
  obtain ⟨-, -, -, -, installed, -⟩ := installPending_frame (sweepEnded s)
  rw [enterStopped_eq, raise_engine, stopped, parked, installed, sweepEnded, State.setRun_engine,
    endSweep_engine]

theorem enterStopped_plans : (enterStopped s).plans = (installPending (sweepEnded s)).plans := by
  obtain ⟨-, -, -, -, -, -, -, stopped, -⟩ := stopProbes_frame (parkAll (installPending (sweepEnded s)))
  obtain ⟨-, -, -, -, -, -, -, -, parked, -⟩ := parkAll_frame (installPending (sweepEnded s))
  rw [enterStopped_eq, raise_plans, stopped, parked]

theorem enterStopped_plans_eq :
    (enterStopped s).plans
      = if s.plans.applyPending = true then
          ⟨s.plans.shadow, s.plans.shadow, false, s.plans.generation + 1⟩
        else s.plans := by
  rw [enterStopped_plans, installPending_plans, sweepEnded_plans]

theorem enterStopped_params : (enterStopped s).params = (installPending (sweepEnded s)).params :=
  State.params_of_plans (enterStopped_plans s)

theorem enterStopped_isSet_run : (enterStopped s).port.isSet .run = true := by
  rw [enterStopped_eq]; exact raise_isSet ..

/-- The entry that the stop of the probes meets: an installation has moved no field but the policy and the
SETUP outstanding. -/
theorem enterStopped_probe (n : Nat) :
    (enterStopped s).probe n
      = if 1 ≤ n ∧ n ≤ 18 then
          if (s.probe n).state = .inStep ∨ (s.probe n).state = .syncing then
            { (installPending (sweepEnded s)).probe n with
              outstanding := none, state := .syncing, syncCount := 0, missCount := 0 }
          else { (installPending (sweepEnded s)).probe n with outstanding := none }
        else ProbeEntry.reset := by
  rw [enterStopped_eq, raise_probe, stopProbes_probe, parkAll_probe, installPending_probe_state,
    State.probe_of_registry (sweepEnded_registry s)]
  split
  · rfl
  · next beyond => rw [State.probe_of_beyond _ beyond]

theorem sweepEnded_probe (n : Nat) : (sweepEnded s).probe n = s.probe n :=
  State.probe_of_registry (sweepEnded_registry s) n

theorem enterStopped_outstanding (n : Nat) : ((enterStopped s).probe n).outstanding = none := by
  rw [enterStopped_probe]
  split
  · split <;> rfl
  · rfl

theorem enterStopped_probe_state (n : Nat) :
    ((enterStopped s).probe n).state
      = if (s.probe n).state = .inStep then .syncing else (s.probe n).state := by
  rw [enterStopped_probe]
  by_cases slot : 1 ≤ n ∧ n ≤ 18
  · rw [if_pos slot]
    by_cases inStep : (s.probe n).state = .inStep
    · simp [inStep]
    · by_cases syncing : (s.probe n).state = .syncing
      · simp [syncing]
      · simp [inStep, syncing, installPending_probe_state, sweepEnded_probe]
  · rw [if_neg slot, State.probe_of_beyond s slot]
    rfl

section
variable {n : Nat} (low : 1 ≤ n) (high : n ≤ 18)
include low high

theorem enterStopped_counts_of_restarts
    (restarts : (s.probe n).state = .inStep ∨ (s.probe n).state = .syncing) :
    ((enterStopped s).probe n).syncCount = 0 ∧ ((enterStopped s).probe n).missCount = 0 := by
  rw [enterStopped_probe, if_pos ⟨low, high⟩, if_pos restarts]
  exact ⟨rfl, rfl⟩

theorem enterStopped_counts_of_kept
    (kept : ¬ ((s.probe n).state = .inStep ∨ (s.probe n).state = .syncing)) :
    ((enterStopped s).probe n).syncCount = (s.probe n).syncCount
      ∧ ((enterStopped s).probe n).missCount = (s.probe n).missCount := by
  rw [enterStopped_probe, if_pos ⟨low, high⟩, if_neg kept, installPending_probe, sweepEnded_probe]
  exact ⟨rfl, rfl⟩

/-- The SETUP of an installed apply goes before PARK, which carries the new park mode (log 17). -/
theorem enterStopped_portState :
    (enterStopped s).portState n
      = if (s.probe n).state = .absent then s.portState n
        else ((s.portState n).setUp (s.probe n).state s.params (enterStopped s).params n).hand
          (.park (enterStopped s).params.parkMode) := by
  have params : (sweepEnded s).params = s.params := State.params_of_plans (sweepEnded_plans s)
  rw [enterStopped_params, enterStopped_eq, raise_portState, stopProbes_portState, parkAll_portState,
    installPending_probe_state, installPending_portState _ low high, params, sweepEnded_probe,
    State.portState_of_registry (sweepEnded_registry s)]
  by_cases absent : (s.probe n).state = .absent
  · simp [absent, PortState.setUp]
  · simp [absent, low, high]

end

theorem enterStopped_setUp (p : PortState) (probe : ProbeState) (n : Nat) :
    p.setUp probe s.params (enterStopped s).params n
      = if s.plans.applyPending = true ∧ probe ≠ .absent
            ∧ (s.params.parkMode ≠ (enterStopped s).params.parkMode
              ∨ s.params.policy n ≠ (enterStopped s).params.policy n) then
          p.hand (.setup ((enterStopped s).params.policy n) (enterStopped s).params.parkMode)
        else p := by
  have before : (sweepEnded s).params = s.params := State.params_of_plans (sweepEnded_plans s)
  have h := PortState.setUp_installPending p (sweepEnded s) probe n
  rw [before, sweepEnded_plans, ← enterStopped_params] at h
  exact h

end

end Sys2Proof.Machine

/-! RUN STOP (R32): the checks of the request, and the entry into STOPPED when no step is open. -/

namespace Sys2Proof.Machine

theorem exec_runStop {s : State} (hs : s.serves = true) :
    exec (.runStop (requestCrc 0x23 [])) s = .next (runStop s).finish :=
  congrArg Host.Outcome.next (takeRequest_serves 0x23 [] runStop hs)

theorem RunState.canStop_iff (r : RunState) : r.canStop = true ↔ r ≠ .stopped ∧ r ≠ .stopping := by
  cases r <;> simp [RunState.canStop]

section
variable {s : State}

theorem runStop_of_stopped (h : s.timer.run = .stopped ∨ s.timer.run = .stopping) :
    runStop s = refuse .state s := by
  unfold runStop
  rcases h with run | run <;> rw [run] <;> rfl

theorem runStop_of_open (runs : s.timer.run.canStop = true) (isOpen : s.tableEmpty = false) :
    runStop s = reply .accepted (s.setRun .stopping) := by
  unfold runStop
  rw [runs, isOpen]; rfl

theorem runStop_of_empty (runs : s.timer.run.canStop = true) (empty : s.tableEmpty = true) :
    runStop s = reply .done (enterStopped s) := by
  unfold runStop
  rw [runs, empty]; rfl

end

/-- Settles O24: the three outcomes of the checks, and the laws of the entry into STOPPED block by block. -/
theorem runStopEndsTheRun : Obligations.RunStopEndsTheRun := by
  unfold Obligations.RunStopEndsTheRun
  intro s hs
  rw [exec_runStop hs]
  refine ⟨fun notStopped notStopping isOpen => ?drains, fun notStopped notStopping empty => ?stops,
    fun ended => ?refused⟩
  case drains =>
    rw [runStop_of_open ((RunState.canStop_iff _).2 ⟨notStopped, notStopping⟩) isOpen, reply_finish]; rfl
  case refused => rw [runStop_of_stopped ended, refuse_finish]
  case stops =>
    obtain ⟨-, -, -, store⟩ := enterStopped_frame s
    have plans := enterStopped_plans_eq s
    refine ⟨(enterStopped s).answered ⟨.done, []⟩, ?taken, ?run, ?flag, ?answer, ?time, ?number, ?sweepTime,
      ?pattern, ?health, ?engine, fun n => ⟨?outstanding, ?probeState⟩,
      fun n low high => ⟨fun restarts => ?restarts, fun notInStep notSyncing => ?kept, fun absent => ?absent,
        fun present => ?parked⟩, ?released, ?active, ?store⟩
    case taken =>
      rw [runStop_of_empty ((RunState.canStop_iff _).2 ⟨notStopped, notStopping⟩) empty, reply_finish]
    case run => rw [State.answered_timer, enterStopped_timer]
    case flag => rw [State.answered_isSet, enterStopped_isSet_run]
    case answer => rw [State.answered_port]
    case time => rw [State.answered_timer, enterStopped_timer]
    case number => rw [State.answered_timer, enterStopped_timer]
    case sweepTime => rw [State.answered_timer, enterStopped_timer]
    case pattern => rw [State.answered_timer, enterStopped_timer]
    case health => rw [State.answered_timer, enterStopped_timer]
    case engine => rw [State.answered_engine, enterStopped_engine]
    case outstanding => rw [State.answered_probe, enterStopped_outstanding]
    case probeState => rw [State.answered_probe, enterStopped_probe_state]
    case restarts =>
      rw [State.answered_probe]
      exact enterStopped_counts_of_restarts s low high restarts
    case kept =>
      rw [State.answered_probe]
      exact enterStopped_counts_of_kept s low high (not_or.2 ⟨notInStep, notSyncing⟩)
    case absent => rw [State.answered_portState, enterStopped_portState s low high, if_pos absent]
    case parked =>
      rw [State.answered_portState, State.answered_params, enterStopped_portState s low high,
        if_neg present, enterStopped_setUp]
      simp only [present, ne_eq, not_false_eq_true, true_and]
    case released =>
      rw [State.answered_plans, plans]
      split
      · rfl
      · next released => exact Bool.eq_false_iff.2 released
    case active => rw [State.answered_plans, plans, apply_ite PlanMemory.active]
    case store => rw [State.answered_store, store]

end Sys2Proof.Machine

/-! RUN ABORT (R34, R87, R127): every open step is discarded, the spot request in flight goes back to the queue or
leaves it, and the run enters STOPPED with no window left to close. -/

namespace Sys2Proof.Machine

theorem exec_runAbort {s : State} (hs : s.serves = true) :
    exec (.runAbort (requestCrc 0x24 [])) s = .next (runAbort s).finish :=
  congrArg Host.Outcome.next (takeRequest_serves 0x24 [] runAbort hs)

theorem runAbort_of_stopped {s : State} (stopped : s.timer.run = .stopped) : runAbort s = refuse .state s :=
  if_pos stopped

theorem runAbort_of_run {s : State} (runs : s.timer.run ≠ .stopped) :
    runAbort s = reply .done (enterStopped (discardOpenSteps s)) :=
  if_neg runs

/-! ## The discarded steps (R87) -/

theorem ProbeEntry.clearAssignments_fields (e : ProbeEntry) (policy : Policy) :
    (e.clearAssignments policy).current = none ∧ (e.clearAssignments policy).queued = none
      ∧ (e.clearAssignments policy).state = e.state := by
  unfold ProbeEntry.clearAssignments ProbeEntry.dropQueued
  split
  · exact ⟨rfl, rfl, rfl⟩
  · next none => exact ⟨rfl, by simpa using none, rfl⟩

section
variable (s : State)

theorem clearAllAssignments_probe (n : Nat) :
    (clearAllAssignments s).probe n
      = if 1 ≤ n ∧ n ≤ 18 then (s.probe n).clearAssignments (s.params.policy n) else s.probe n :=
  foldl_mapProbe (fun n t e => e.clearAssignments (t.params.policy n)) s
    (fun t n plans _ _ => by rw [State.params_of_plans plans]) n

theorem discardOpenSteps_engine :
    (discardOpenSteps s).engine
      = { s.engine with table := Vector.replicate 8 none, merged := none, free := none } := by
  obtain ⟨-, -, -, -, engine, -⟩ := spotHandBack_frame (clearAllAssignments (emptyTable s))
  obtain ⟨-, -, -, -, cleared, -⟩ := clearAllAssignments_frame (emptyTable s)
  rw [discardOpenSteps, discardWindows, State.withEngine_engine, engine, cleared]
  rfl

theorem discardOpenSteps_registry : (discardOpenSteps s).registry = (clearAllAssignments (emptyTable s)).registry := by
  obtain ⟨-, -, -, -, registry, -⟩ := discardWindows_frame (spotHandBack (clearAllAssignments (emptyTable s)))
  obtain ⟨-, -, -, -, -, handed, -⟩ := spotHandBack_frame (clearAllAssignments (emptyTable s))
  rw [discardOpenSteps, registry, handed]

theorem discardOpenSteps_probe (n : Nat) :
    (discardOpenSteps s).probe n
      = if 1 ≤ n ∧ n ≤ 18 then (s.probe n).clearAssignments (s.params.policy n) else s.probe n := by
  rw [State.probe_of_registry (discardOpenSteps_registry s), clearAllAssignments_probe]
  rfl

theorem discardOpenSteps_probe_fields (n : Nat) :
    ((discardOpenSteps s).probe n).current = none ∧ ((discardOpenSteps s).probe n).queued = none
      ∧ ((discardOpenSteps s).probe n).state = (s.probe n).state := by
  rw [discardOpenSteps_probe]
  split
  · exact ProbeEntry.clearAssignments_fields ..
  · next beyond =>
    rw [State.probe_of_beyond s beyond]
    exact ⟨rfl, rfl, rfl⟩

/-! ## The spot request in flight (R122, R127) -/

theorem discardOpenSteps_spot :
    (discardOpenSteps s).spot = (spotHandBack (clearAllAssignments (emptyTable s))).spot := by
  obtain ⟨-, -, -, -, -, -, spot, -⟩ := discardWindows_frame (spotHandBack (clearAllAssignments (emptyTable s)))
  exact spot

theorem discardOpenSteps_router :
    (discardOpenSteps s).router = (spotHandBack (clearAllAssignments (emptyTable s))).router := by
  obtain ⟨-, -, -, -, -, -, -, router, -⟩ :=
    discardWindows_frame (spotHandBack (clearAllAssignments (emptyTable s)))
  exact router

theorem discardOpenSteps_port :
    (discardOpenSteps s).port = (spotHandBack (clearAllAssignments (emptyTable s))).port := by
  obtain ⟨-, -, -, -, -, -, -, -, -, -, port⟩ :=
    discardWindows_frame (spotHandBack (clearAllAssignments (emptyTable s)))
  exact port

end

section
variable {s : State}

theorem spotHandBack_of_idle (idle : ∀ q ∈ s.spot, q.inFlight = none) : spotHandBack s = s := by
  have absent : s.spot.find? (fun q => q.inFlight.isSome) = none := by
    rw [List.find?_eq_none]
    intro q mem
    rw [idle q mem]
    simp
  rw [spotHandBack, absent]

variable {q : SpotRequest} (found : s.spot.find? (fun q => q.inFlight.isSome) = some q)
include found

theorem spotHandBack_of_waiting (stays : q.endPending = none) :
    spotHandBack s
      = s.withSpot (s.spot.map fun p => if p.link = q.link then { q with inFlight := none } else p) := by
  rw [spotHandBack, found]
  dsimp only
  rw [stays]

theorem spotHandBack_of_ending {ending : Ending} (leaves : q.endPending = some ending) :
    spotHandBack s
      = spotDone { q with inFlight := none } ending false (s.withSpot (withoutLink q.link s.spot)) := by
  rw [spotHandBack, found]
  dsimp only
  rw [leaves]

end

theorem spotDone_router (r : SpotRequest) (e : Ending) (b : Bool) (s : State) :
    (spotDone r e b s).router = (hand (spotDoneRecord s r e b) s).router := rfl

/-! ## The entry into STOPPED that follows -/

section
variable {s : State}

theorem endSweep_of_no_window (closed : s.engine.merged = none) :
    (endSweep s).links = s.links ∧ (endSweep s).router = s.router := by
  rw [endSweep, closeWindows_of_none (State.pendingSteps_of_no_window closed)]
  exact ⟨rfl, rfl⟩

/-- With no probe IN_STEP nothing changes state at the stop of the probes. -/
theorem stopProbes_router (none : ∀ n, (s.probe n).state ≠ .inStep) : (stopProbes s).router = s.router := by
  have kept := foldl_keeps
    (fun t : State => t.router = s.router ∧ ∀ n, (t.probe n).state ≠ .inStep)
    (fun t n => stopProbe n t)
    (by
      rintro t n ⟨router, notInStep⟩
      refine ⟨?same, fun m => ?still⟩
      case same =>
        rw [← router]
        unfold stopProbe
        dsimp only
        split
        · next restarts =>
          have syncing := restarts.resolve_left (notInStep n)
          rw [changeState_of_same]
          · rfl
          · rw [State.probe_mapProbe, State.probe_mapProbe]
            (repeat' split) <;> exact syncing
        · rfl
      case still =>
        rw [stopProbe_probe]
        (repeat' split)
        · exact fun wrong => nomatch wrong
        · exact notInStep m
        · exact notInStep m)
    allSlots s ⟨rfl, none⟩
  exact kept.1

variable (closed : s.engine.merged = none) (released : s.plans.applyPending = false)
include released

theorem installPending_sweepEnded : installPending (sweepEnded s) = sweepEnded s :=
  installPending_of_none _ (by rw [sweepEnded_plans, released])

theorem enterStopped_spot : (enterStopped s).spot = s.spot := by
  obtain ⟨-, -, -, -, -, -, stopped, -⟩ := stopProbes_frame (parkAll (sweepEnded s))
  obtain ⟨-, -, -, -, -, -, parked, -⟩ := parkAll_frame (sweepEnded s)
  obtain ⟨-, -, -, -, spot, -⟩ := endSweep_frame s
  rw [enterStopped_eq, raise_spot, installPending_sweepEnded released, stopped, parked, sweepEnded,
    State.setRun_spot, spot]

include closed

theorem enterStopped_links : (enterStopped s).links = s.links := by
  obtain ⟨-, -, -, -, -, stopped, -⟩ := stopProbes_frame (parkAll (sweepEnded s))
  obtain ⟨-, -, -, -, -, parked, -⟩ := parkAll_frame (sweepEnded s)
  rw [enterStopped_eq, raise_links, installPending_sweepEnded released, stopped, parked, sweepEnded,
    State.setRun_links, (endSweep_of_no_window closed).1]

theorem enterStopped_router (none : ∀ n, (s.probe n).state ≠ .inStep) :
    (enterStopped s).router = s.router := by
  obtain ⟨-, -, -, -, -, -, -, parked, -⟩ := parkAll_frame (sweepEnded s)
  rw [enterStopped_eq, raise_router, installPending_sweepEnded released, stopProbes_router, parked, sweepEnded,
    State.setRun_router, (endSweep_of_no_window closed).2]
  intro n
  rw [parkAll_probe, sweepEnded_probe]
  exact none n

end

/-! ## The run aborted -/

/-- The state of the run once it has been aborted. -/
def aborted (s : State) : State := enterStopped (discardOpenSteps s)

section
variable (s : State)

theorem aborted_timer :
    (aborted s).timer.run = .stopped ∧ (aborted s).timer.fixtureTime = s.timer.fixtureTime
      ∧ (aborted s).timer.health = s.timer.health := by
  obtain ⟨-, -, -, timer, -⟩ := discardOpenSteps_frame s
  rw [aborted, enterStopped_timer, timer]
  exact ⟨rfl, rfl, rfl⟩

theorem aborted_engine :
    (aborted s).engine = { s.engine with table := Vector.replicate 8 none, merged := none, free := none } := by
  rw [aborted, enterStopped_engine, discardOpenSteps_engine]

theorem aborted_openAt (k : Fin 8) : (aborted s).openAt k = none := by
  rw [State.openAt, aborted_engine]
  exact Tab.get_replicate_same none k.val

theorem aborted_assignments (n : Nat) :
    ((aborted s).probe n).current = none ∧ ((aborted s).probe n).queued = none := by
  obtain ⟨current, queued, -⟩ := discardOpenSteps_probe_fields s n
  rw [aborted, enterStopped_probe, installPending_probe, sweepEnded_probe]
  (repeat' split)
  · exact ⟨current, queued⟩
  · exact ⟨current, queued⟩
  · exact ⟨rfl, rfl⟩

theorem discardOpenSteps_merged : (discardOpenSteps s).engine.merged = none := by
  rw [discardOpenSteps_engine]

end

section
variable {s : State} (released : s.plans.applyPending = false)
include released

theorem discardOpenSteps_released : (discardOpenSteps s).plans.applyPending = false := by
  obtain ⟨-, -, -, -, -, plans, -⟩ := discardOpenSteps_frame s
  rw [plans, released]

theorem aborted_links : (aborted s).links = s.links := by
  obtain ⟨-, -, -, -, links, -⟩ := discardOpenSteps_frame s
  rw [aborted, enterStopped_links (discardOpenSteps_merged s) (discardOpenSteps_released released), links]

theorem aborted_plans : (aborted s).plans = s.plans := by
  obtain ⟨-, -, -, -, -, plans, -⟩ := discardOpenSteps_frame s
  rw [aborted, enterStopped_plans_eq, if_neg (by rw [discardOpenSteps_released released]; simp), plans]

theorem aborted_spot : (aborted s).spot = (spotHandBack (clearAllAssignments (emptyTable s))).spot := by
  rw [aborted, enterStopped_spot (discardOpenSteps_released released), discardOpenSteps_spot]

theorem aborted_router (none : ∀ n, 1 ≤ n → n ≤ 18 → (s.probe n).state ≠ .inStep) :
    (aborted s).router = (spotHandBack (clearAllAssignments (emptyTable s))).router := by
  rw [aborted, enterStopped_router (discardOpenSteps_merged s) (discardOpenSteps_released released),
    discardOpenSteps_router]
  intro n
  obtain ⟨-, -, state⟩ := discardOpenSteps_probe_fields s n
  rw [state]
  by_cases slot : 1 ≤ n ∧ n ≤ 18
  · exact none n slot.1 slot.2
  · rw [State.probe_of_beyond s slot]
    exact fun wrong => nomatch wrong

end

/-- The spot request in flight is handed back with the queue and the router of the request. -/
theorem clearAllAssignments_emptyTable_frame (s : State) :
    (clearAllAssignments (emptyTable s)).spot = s.spot
      ∧ (clearAllAssignments (emptyTable s)).router = s.router
      ∧ (clearAllAssignments (emptyTable s)).plans = s.plans
      ∧ (clearAllAssignments (emptyTable s)).timer = s.timer := by
  obtain ⟨-, -, -, timer, -, -, spot, router, plans, -⟩ := clearAllAssignments_frame (emptyTable s)
  exact ⟨spot, router, plans, timer⟩

/-- Settles O25: the discarded steps leave no window, so the entry into STOPPED moves the links, the Spot Queue and the
router no further than the request handed back has. -/
theorem runAbortDiscardsTheOpenSteps : Obligations.RunAbortDiscardsTheOpenSteps := by
  unfold Obligations.RunAbortDiscardsTheOpenSteps
  intro s hs
  rw [exec_runAbort hs]
  refine ⟨fun runs => ?aborts, fun stopped => by rw [runAbort_of_stopped stopped, refuse_finish]⟩
  obtain ⟨run, time, health⟩ := aborted_timer s
  have engine := aborted_engine s
  obtain ⟨-, -, -, -, -, -, steps⟩ := discardOpenSteps_frame s
  obtain ⟨-, -, -, store⟩ := enterStopped_frame (discardOpenSteps s)
  obtain ⟨spot, router, plans, timer⟩ := clearAllAssignments_emptyTable_frame s
  refine ⟨(aborted s).answered ⟨.done, []⟩, ?taken, ?run, ?flag, ?answer, ?time, ?health, ?table, ?turns, ?merged,
    ?free, fun n => ?assignments, fun released => ⟨?links, ?plans, fun idle => ?idle, fun q found =>
      ⟨fun stays => ⟨?waits, fun none => ?noRecord⟩, fun ending leaves => ⟨?left, ?spotFlag, fun none => ?done⟩⟩⟩,
    ?store⟩
  case taken => rw [runAbort_of_run runs, reply_finish, aborted]
  case run => rw [State.answered_timer, run]
  case time => rw [State.answered_timer, time]
  case health => rw [State.answered_timer, health]
  case flag => rw [State.answered_isSet, aborted, enterStopped_isSet_run]
  case answer => rw [State.answered_port]
  case table => intro k; rw [State.answered_openAt, aborted_openAt]
  case turns => rw [State.answered_engine, engine]
  case merged => rw [State.answered_engine, engine]
  case free => rw [State.answered_engine, engine]
  case assignments => rw [State.answered_probe]; exact aborted_assignments s n
  case links => rw [State.answered_links, aborted_links released]
  case plans => rw [State.answered_plans, aborted_plans released]
  case store => rw [State.answered_store, aborted, store, steps]
  case idle =>
    rw [State.answered_spot, aborted_spot released, spotHandBack_of_idle (by rw [spot]; exact idle), spot]
  case waits =>
    rw [State.answered_spot, aborted_spot released, spotHandBack_of_waiting (by rw [spot]; exact found) stays,
      State.withSpot_spot, spot]
  case noRecord =>
    rw [State.answered_router, aborted_router released none,
      spotHandBack_of_waiting (by rw [spot]; exact found) stays, State.withSpot_router, router]
  case left =>
    rw [State.answered_spot, aborted_spot released, spotHandBack_of_ending (by rw [spot]; exact found) leaves,
      (spotDone_frame _ _ _ _).2.2.2.2.2.2.2.1, State.withSpot_spot, spot]
    rfl
  case spotFlag =>
    rw [State.answered_isSet]
    refine (State.Grows.enterStopped _).2 .spot ?_
    rw [discardOpenSteps_port, spotHandBack_of_ending (by rw [spot]; exact found) leaves]
    exact raise_isSet ..
  case done =>
    have record (x : State) (same : x.timer = s.timer) :
        spotDoneRecord x { q with inFlight := Option.none } ending false
          = { ResultRecord.blank .spotDone s.timer.sweepNumber s.timer.sweepTime with
              link := some q.link, marker := some q.marker, slot := q.requester,
              ending := some ending, tallies := some q.tallies } := by
      rw [spotDoneRecord, State.newRecord, same]
      rfl
    rw [State.answered_router, aborted_router released none,
      spotHandBack_of_ending (by rw [spot]; exact found) leaves, spotDone_router,
      record _ (by rw [State.withSpot_timer, timer])]
    exact hand_router_congr _ (by rw [State.withSpot_router, router]) (by rw [State.withSpot_plans, plans])

end Sys2Proof.Machine

/-! RUN RESUME (R31): the suspended sweep is broken off, a pending apply is installed, and a whole sweep begins in
RUNNING, the marks of the suspended one settled with no miss counted (R50, R51). -/

namespace Sys2Proof.Machine

theorem exec_runResume {s : State} (hs : s.serves = true) :
    exec (.runResume (requestCrc 0x22 [])) s = .next (runResume s).finish :=
  congrArg Host.Outcome.next (takeRequest_serves 0x22 [] runResume hs)

theorem runResume_of_other {s : State} (other : s.timer.run ≠ .paused) : runResume s = refuse .state s :=
  if_pos other

theorem runResume_of_paused {s : State} (paused : s.timer.run = .paused) :
    runResume s = reply .done (resumeSweep s) :=
  if_neg (not_not_intro paused)

/-! ## Marks settled with no miss counted (R50) -/

theorem settleMark_uncounted (n : Nat) (s : State) :
    settleMark false n s = s ∨ ∃ f, settleMark false n s = s.mapProbe n f := by
  unfold settleMark
  dsimp only
  split
  · exact .inl rfl
  · exact .inr ⟨_, if_neg (by simp)⟩

/-- Marks settled with no miss counted move nothing but the entries. -/
theorem settleMarks_uncounted (s : State) :
    (settleMarks false s).timer = s.timer ∧ (settleMarks false s).engine = s.engine
      ∧ (settleMarks false s).port = s.port ∧ ∀ m, (settleMarks false s).portState m = s.portState m := by
  unfold settleMarks
  refine foldl_keeps (fun t : State => t.timer = s.timer ∧ t.engine = s.engine ∧ t.port = s.port
    ∧ ∀ m, t.portState m = s.portState m) _ ?_ _ _ ⟨rfl, rfl, rfl, fun _ => rfl⟩
  intro t n kept
  rcases settleMark_uncounted n t with same | ⟨f, mapped⟩
  · rw [same]; exact kept
  · rw [mapped]; exact kept

theorem ProbeEntry.settled_uncounted (limit : Nat) (policy : Policy) (e : ProbeEntry) :
    e.settled false limit policy
      = { e with
          outstanding := none
          syncCount := if e.state = .syncing ∧ e.outstanding ≠ none then 0 else e.syncCount } := by
  unfold ProbeEntry.settled
  cases mark : e.outstanding with
  | none => simp [← mark]
  | some sweep => simp

/-! ## The sweep resumed -/

/-- The state in which the new sweep's counters are set: the old sweep ended, a pending apply installed. -/
def planResumed (s : State) : State := installPending (endSweep s)

/-- The state in which the marks of the suspended sweep are settled. -/
def sweepResumed (s : State) : State := clearIndicator (enterRunning (advance .paused (planResumed s)))

theorem resumeSweep_eq (s : State) : resumeSweep s = sendMarks (settleMarks false (sweepResumed s)) := rfl

section
variable (s : State)

theorem endSweep_plans : (endSweep s).plans = s.plans := by
  obtain ⟨-, -, -, -, -, plans, -⟩ := endSweep_frame s
  exact plans

theorem endSweep_registry : (endSweep s).registry = s.registry := by
  obtain ⟨-, -, -, registry, -⟩ := endSweep_frame s
  exact registry

theorem planResumed_plans :
    (planResumed s).plans
      = if s.plans.applyPending = true then
          ⟨s.plans.shadow, s.plans.shadow, false, s.plans.generation + 1⟩
        else s.plans := by
  rw [planResumed, installPending_plans, endSweep_plans]

theorem planResumed_probe (n : Nat) :
    (planResumed s).probe n
      = { s.probe n with
          policy := ((planResumed s).probe n).policy
          setupOutstanding := ((planResumed s).probe n).setupOutstanding } := by
  have entry := installPending_probe (endSweep s) n
  rw [State.probe_of_registry (endSweep_registry s)] at entry
  exact entry

theorem planResumed_portState {n : Nat} (low : 1 ≤ n) (high : n ≤ 18) :
    (planResumed s).portState n
      = if s.plans.applyPending = true ∧ (s.probe n).state ≠ .absent
            ∧ (s.params.parkMode ≠ (planResumed s).params.parkMode
              ∨ s.params.policy n ≠ (planResumed s).params.policy n) then
          (s.portState n).hand (.setup ((planResumed s).params.policy n) (planResumed s).params.parkMode)
        else s.portState n := by
  have before : (endSweep s).params = s.params := State.params_of_plans (endSweep_plans s)
  have given := PortState.setUp_installPending (s.portState n) (endSweep s) (s.probe n).state n
  rw [before, endSweep_plans] at given
  rw [planResumed, installPending_portState _ low high, State.probe_of_registry (endSweep_registry s),
    State.portState_of_registry (endSweep_registry s), before, given]

theorem planResumed_timer : (planResumed s).timer = (endSweep s).timer := by
  obtain ⟨-, -, -, timer, -⟩ := installPending_frame (endSweep s)
  exact timer

theorem sweepResumed_timer :
    (sweepResumed s).timer = { s.timer with
      run := .running, sweepNumber := s.timer.sweepNumber + 1, sweepTime := 0, sweepActive := true,
      sweepEndDue := false, nextStep := 0, notStarted := false,
      pattern := stepPattern s.timer.pattern (planResumed s).params.patternPeriod.toNat } := by
  have later : (sweepResumed s).timer = { (planResumed s).timer with
      run := .running, sweepNumber := (planResumed s).timer.sweepNumber + 1, sweepTime := 0,
      sweepActive := true, sweepEndDue := false, nextStep := 0, notStarted := false,
      pattern := stepPattern (planResumed s).timer.pattern (planResumed s).params.patternPeriod.toNat } := rfl
  rw [later, planResumed_timer, endSweep_timer]

theorem sweepResumed_frame :
    (sweepResumed s).engine = (planResumed s).engine ∧ (sweepResumed s).registry = (planResumed s).registry
      ∧ (sweepResumed s).plans = (planResumed s).plans :=
  ⟨rfl, rfl, rfl⟩

theorem resumeSweep_timer : (resumeSweep s).timer = (sweepResumed s).timer := by
  obtain ⟨-, -, -, marked, -⟩ := sendMarks_frame (settleMarks false (sweepResumed s))
  obtain ⟨settled, -⟩ := settleMarks_uncounted (sweepResumed s)
  rw [resumeSweep_eq, marked, settled]

theorem resumeSweep_engine : (resumeSweep s).engine = { s.engine with merged := none, free := none } := by
  obtain ⟨-, -, -, -, marked, -⟩ := sendMarks_frame (settleMarks false (sweepResumed s))
  obtain ⟨-, settled, -⟩ := settleMarks_uncounted (sweepResumed s)
  obtain ⟨resumed, -⟩ := sweepResumed_frame s
  obtain ⟨-, -, -, -, installed, -⟩ := installPending_frame (endSweep s)
  rw [resumeSweep_eq, marked, settled, resumed, planResumed, installed, endSweep_engine]

theorem settleMarks_plans (counts : Bool) : (settleMarks counts s).plans = s.plans := by
  simp

theorem resumeSweep_plans : (resumeSweep s).plans = (planResumed s).plans := by
  obtain ⟨-, -, -, -, -, -, -, -, marked, -⟩ := sendMarks_frame (settleMarks false (sweepResumed s))
  obtain ⟨-, -, resumed⟩ := sweepResumed_frame s
  rw [resumeSweep_eq, marked, settleMarks_plans, resumed]

theorem resumeSweep_params : (resumeSweep s).params = (planResumed s).params :=
  State.params_of_plans (resumeSweep_plans s)

theorem resumeSweep_port : (resumeSweep s).port = (planResumed s).port.raise .run := by
  obtain ⟨-, -, -, -, -, -, -, -, -, -, marked⟩ := sendMarks_frame (settleMarks false (sweepResumed s))
  obtain ⟨-, -, settled, -⟩ := settleMarks_uncounted (sweepResumed s)
  rw [resumeSweep_eq, marked, settled]
  rfl

theorem resumeSweep_isSet_run : (resumeSweep s).port.isSet .run = true := by
  rw [resumeSweep_port, StationPort.isSet_raise]
  simp

theorem resumeSweep_isSet_apply (pending : s.plans.applyPending = true) :
    (resumeSweep s).port.isSet .apply = true := by
  have installed := installPending_apply (endSweep s) (by rw [endSweep_plans, pending])
  rw [resumeSweep_port, StationPort.isSet_raise, planResumed, installed]
  rfl

section
variable {n : Nat} (low : 1 ≤ n) (high : n ≤ 18)
include low high

/-- The entry of a slot before its MARK: the mark of the suspended sweep is settled. -/
theorem settledResumed_probe :
    (settleMarks false (sweepResumed s)).probe n
      = { s.probe n with
          policy := ((planResumed s).probe n).policy
          setupOutstanding := ((planResumed s).probe n).setupOutstanding
          outstanding := none
          syncCount := if (s.probe n).state = .syncing ∧ (s.probe n).outstanding ≠ none then 0
            else (s.probe n).syncCount } := by
  obtain ⟨-, registry, -⟩ := sweepResumed_frame s
  rw [settleMarks_probe, if_pos ⟨low, high⟩, ProbeEntry.settled_uncounted,
    State.probe_of_registry registry, planResumed_probe]

theorem resumeSweep_probe :
    (resumeSweep s).probe n
      = { s.probe n with
          policy := ((planResumed s).probe n).policy
          setupOutstanding := ((planResumed s).probe n).setupOutstanding
          outstanding := if (s.probe n).state.marked = true then some (resumeSweep s).timer.sweepNumber
            else none
          syncCount := if (s.probe n).state = .syncing ∧ (s.probe n).outstanding ≠ none then 0
            else (s.probe n).syncCount } := by
  obtain ⟨settled, -⟩ := settleMarks_uncounted (sweepResumed s)
  rw [resumeSweep_timer, resumeSweep_eq, sendMarks_probe, settled, settledResumed_probe s low high]
  by_cases marked : (s.probe n).state.marked = true <;> simp [marked, low, high]

theorem resumeSweep_portState :
    (resumeSweep s).portState n
      = if (s.probe n).state.marked = true then
          ((planResumed s).portState n).hand
            (.mark (resumeSweep s).timer.sweepNumber (wireTime (resumeSweep s).timer.fixtureTime)
              (BitVec.ofNat 8 (resumeSweep s).timer.pattern))
        else (planResumed s).portState n := by
  obtain ⟨settled, -, -, ports⟩ := settleMarks_uncounted (sweepResumed s)
  obtain ⟨-, registry, -⟩ := sweepResumed_frame s
  rw [resumeSweep_timer, resumeSweep_eq, sendMarks_portState, settled, ports, settledResumed_probe s low high,
    State.portState_of_registry registry]
  by_cases marked : (s.probe n).state.marked = true <;> simp [marked, low, high]

end
end

/-- Settles O23: the laws of the resumed sweep, field by field. -/
theorem runResumeBeginsAWholeSweep : Obligations.RunResumeBeginsAWholeSweep := by
  unfold Obligations.RunResumeBeginsAWholeSweep
  intro s hs
  rw [exec_runResume hs]
  refine ⟨fun paused => ?resumes, fun other => by rw [runResume_of_other other, refuse_finish]⟩
  have timer : (resumeSweep s).timer = _ := (resumeSweep_timer s).trans (sweepResumed_timer s)
  have engine := resumeSweep_engine s
  have plans : (resumeSweep s).plans = _ := (resumeSweep_plans s).trans (planResumed_plans s)
  obtain ⟨-, -, -, store⟩ := resumeSweep_frame s
  refine ⟨(resumeSweep s).answered ⟨.done, []⟩, ?taken, ?run, ?flag, ?answer, ?time, ?sweepTime, ?number,
    ?health, ?pattern, ?merged, ?free, ?table, ?turns, fun released => ?kept, fun pending => ⟨?installed, ?apply⟩,
    fun n low high => ⟨?probeState, ?missCount, ?syncCount, ?outstanding, _, rfl, ?port⟩, ?store⟩
  case taken => rw [runResume_of_paused paused, reply_finish]
  case run => rw [State.answered_timer, timer]
  case flag => rw [State.answered_isSet, resumeSweep_isSet_run]
  case answer => rw [State.answered_port]
  case time => rw [State.answered_timer, timer]
  case sweepTime => rw [State.answered_timer, timer]
  case number => rw [State.answered_timer, timer]
  case health => rw [State.answered_timer, timer]
  case pattern => rw [State.answered_timer, State.answered_params, resumeSweep_params, timer, stepPattern]
  case merged => rw [State.answered_engine, engine]
  case free => rw [State.answered_engine, engine]
  case table => rw [State.answered_engine, engine]
  case turns => rw [State.answered_engine, engine]
  case kept => rw [State.answered_plans, plans, if_neg (Bool.eq_false_iff.1 released)]
  case installed => rw [State.answered_plans, plans, if_pos pending]
  case apply => rw [State.answered_isSet, resumeSweep_isSet_apply s pending]
  case probeState => rw [State.answered_probe, resumeSweep_probe s low high]
  case missCount => rw [State.answered_probe, resumeSweep_probe s low high]
  case syncCount => rw [State.answered_probe, resumeSweep_probe s low high]
  case outstanding => rw [State.answered_probe, State.answered_timer, resumeSweep_probe s low high]
  case port =>
    rw [State.answered_portState, State.answered_timer, State.answered_params, resumeSweep_params,
      resumeSweep_portState s low high, planResumed_portState s low high]
  case store => rw [State.answered_store, store]

end Sys2Proof.Machine

/-! What misses and closures can make of the engine and the Sweep Timer (R36, R38, R83, R86): the table changes at
the slot that is emptied alone, and the run is touched by a halt and by the report of an empty table only. -/

namespace Sys2Proof.Machine

/-- From `s` to `x` the table is kept, no window opens, and the run goes on as it was or is halted by the quorum. -/
structure State.MayHalt (s x : State) : Prop where
  table : x.engine.table = s.engine.table
  turns : x.engine.turns = s.engine.turns
  merged : s.engine.merged = none → x.engine.merged = none
  free : s.engine.free = none → x.engine.free = none
  fixtureTime : x.timer.fixtureTime = s.timer.fixtureTime
  sweepNumber : x.timer.sweepNumber = s.timer.sweepNumber
  ended : s.timer.sweepActive = false → x.timer.sweepActive = false
  run : (x.timer.run = s.timer.run ∧ x.timer.health = s.timer.health)
    ∨ (s.timer.run.watchesQuorum = true ∧ x.timer.run = .halted ∧ x.timer.health = .severe)

namespace State.MayHalt

variable {s x y : State}

theorem of_same (timer : x.timer = s.timer) (engine : x.engine = s.engine) : s.MayHalt x := by
  constructor
  case run => rw [timer]; exact .inl ⟨rfl, rfl⟩
  all_goals simp [timer, engine]

theorem refl (s : State) : s.MayHalt s := of_same rfl rfl

theorem trans (h : s.MayHalt x) (k : x.MayHalt y) : s.MayHalt y where
  table := k.table.trans h.table
  turns := k.turns.trans h.turns
  merged none := k.merged (h.merged none)
  free none := k.free (h.free none)
  fixtureTime := k.fixtureTime.trans h.fixtureTime
  sweepNumber := k.sweepNumber.trans h.sweepNumber
  ended inactive := k.ended (h.ended inactive)
  run := by
    rcases h.run with ⟨run, health⟩ | ⟨watches, halted, severe⟩
    · rcases k.run with ⟨run', health'⟩ | ⟨watches, halted, severe⟩
      · exact .inl ⟨run'.trans run, health'.trans health⟩
      · exact .inr ⟨by rw [← run]; exact watches, halted, severe⟩
    · rcases k.run with ⟨run', health'⟩ | ⟨again, halted', -⟩
      · exact .inr ⟨watches, run'.trans halted, health'.trans severe⟩
      · rw [halted] at again; cases again

theorem mapProbe (s : State) (n : Nat) (f : ProbeEntry → ProbeEntry) : s.MayHalt (s.mapProbe n f) :=
  of_same rfl rfl

theorem endAssignment (t : Tag) (n : Nat) (s : State) : s.MayHalt (endAssignment t n s) := of_same rfl rfl

theorem changeState (n : Nat) (new : ProbeState) (s : State) : s.MayHalt (changeState n new s) := by
  obtain ⟨-, -, -, timer, engine, -⟩ := changeState_frame n new s
  exact of_same timer engine

theorem timerStop (s : State) : s.MayHalt (timerStop s) := by
  have timer := timerStop_timer s
  generalize (Machine.timerStop s).timer.notStarted = indicator at timer
  have engine := timerStop_engine s
  constructor
  case run => rw [timer]; exact .inl ⟨rfl, rfl⟩
  all_goals simp only [timer, engine, implies_true]

theorem enterHalted {s : State} (watches : s.timer.run.watchesQuorum = true) :
    s.MayHalt (enterHalted s) := by
  obtain ⟨-, -, -, engine, -⟩ := enterHalted_frame s
  have timer := enterHalted_timer s
  constructor
  case run => rw [timer]; exact .inr ⟨watches, rfl, rfl⟩
  all_goals simp only [timer, engine, imp_self]

theorem quorumWatch (b : Bool) (s : State) : s.MayHalt (quorumWatch b s) := by
  unfold Machine.quorumWatch
  dsimp only
  split
  · next lost =>
    have halts := enterHalted (Bool.and_eq_true_iff.1 lost).1
    split
    · exact halts.trans (timerStop _)
    · exact halts
  · exact refl s

theorem leaveInStep (b : Bool) (n : Nat) (s : State) : s.MayHalt (leaveInStep b n s) :=
  (mapProbe s n _).trans (quorumWatch b _)

theorem addMiss (b : Bool) (n : Nat) (s : State) : s.MayHalt (addMiss b n s) := by
  unfold Machine.addMiss loseProbe
  dsimp only
  (repeat' split)
  · exact (mapProbe s n _).trans ((changeState n .lost _).trans (leaveInStep b n _))
  · exact (mapProbe s n _).trans (changeState n .lost _)
  · exact mapProbe s n _

theorem countMissing (p : Participant) (s : State) : s.MayHalt (countMissing p s) := by
  unfold Machine.countMissing
  split
  · exact addMiss false p.slot s
  · exact refl s

theorem atJudgement (t : Tag) (o : OpenStep) (s : State) : s.MayHalt (atJudgement t o s) := by
  have missed := foldl_keeps s.MayHalt (fun y p => Machine.countMissing p y)
    (fun y p h => h.trans (countMissing p y)) o.settled.participants s (refl s)
  exact foldl_keeps s.MayHalt _ (fun y (p : Participant) h => h.trans (endAssignment t p.slot y)) _ _ missed

theorem judgeClosed (t : Tag) (o : OpenStep) (s : State) : s.MayHalt (judgeClosed t o s) := by
  obtain ⟨-, -, -, timer, engine, -⟩ := judgeClosed_frame t o s
  exact of_same timer engine

end State.MayHalt

/-! ## The report of an empty table (R86) -/

/-- The run state after the report of an empty table (R30, R33, R36). -/
def RunState.drained : RunState → RunState
  | .pausing => .paused
  | .stopping => .stopped
  | r => r

theorem State.tableEmpty_iff (s : State) : s.tableEmpty = true ↔ ∀ k, s.openAt k = none := by
  rw [State.tableEmpty, List.all_eq_true]
  have slots : ∀ k : Fin 8, k ∈ tableSlots := by decide
  exact ⟨fun h k => Option.isNone_iff_eq_none.1 (h k (slots k)),
    fun h k _ => Option.isNone_iff_eq_none.2 (h k)⟩

/-- The report keeps the table and the time, opens no window, and moves the run of an empty table on. -/
structure State.Reported (s x : State) : Prop where
  table : x.engine.table = s.engine.table
  turns : x.engine.turns = s.engine.turns
  merged : s.engine.merged = none → x.engine.merged = none
  free : s.engine.free = none → x.engine.free = none
  fixtureTime : x.timer.fixtureTime = s.timer.fixtureTime
  sweepNumber : x.timer.sweepNumber = s.timer.sweepNumber
  health : x.timer.health = s.timer.health
  ended : s.timer.sweepActive = false → x.timer.sweepActive = false
  run : x.timer.run = if s.tableEmpty = true then s.timer.run.drained else s.timer.run

theorem State.Reported.paused {s : State} (empty : s.tableEmpty = true) (pausing : s.timer.run = .pausing) :
    s.Reported (enterPaused s) := by
  obtain ⟨-, -, -, engine, -⟩ := enterPaused_frame s
  obtain ⟨-, -, -, timer, -⟩ := parkAll_frame (s.setRun .paused)
  have timer : (enterPaused s).timer = { s.timer with run := .paused } := by
    rw [enterPaused, raise_timer, timer, State.setRun_timer]
  constructor
  case run => rw [timer, if_pos empty, pausing]; rfl
  all_goals simp only [timer, engine, imp_self]

theorem State.Reported.stopped {s : State} (empty : s.tableEmpty = true) (stopping : s.timer.run = .stopping) :
    s.Reported (enterStopped s) := by
  have timer := enterStopped_timer s
  have engine := enterStopped_engine s
  constructor
  case run => rw [timer, if_pos empty, stopping]; rfl
  all_goals simp only [timer, engine, implies_true]

theorem State.Reported.halted {s : State} (halted : s.timer.run = .halted) : s.Reported (timerStop s) := by
  have timer := timerStop_timer s
  generalize (Machine.timerStop s).timer.notStarted = indicator at timer
  have engine := timerStop_engine s
  constructor
  case run =>
    rw [timer, halted]
    exact (ite_self _).symm
  all_goals simp only [timer, engine, implies_true]

theorem State.Reported.kept {s : State} (h : s.tableEmpty = true → s.timer.run.drained = s.timer.run) :
    s.Reported s := by
  constructor
  case run =>
    split
    · next empty => exact (h empty).symm
    · rfl
  all_goals simp only [imp_self]

theorem reportEmpty_reported (s : State) : s.Reported (reportEmpty s) := by
  unfold reportEmpty
  split
  · next empty =>
    cases run : s.timer.run with
    | pausing => exact .paused empty run
    | stopping => exact .stopped empty run
    | halted => exact .halted run
    | stopped => exact .kept fun _ => by rw [run]; rfl
    | syncing => exact .kept fun _ => by rw [run]; rfl
    | running => exact .kept fun _ => by rw [run]; rfl
    | paused => exact .kept fun _ => by rw [run]; rfl
  · next others => exact .kept fun empty => absurd empty others

/-! ## A closure (R83) -/

theorem freeSlot_timer (k : Fin 8) (s : State) : (freeSlot k s).timer = s.timer := by
  unfold freeSlot
  dsimp only
  (repeat' split) <;> rfl

/-- An emptied slot keeps its turn, and the record of the windows only loses its member. -/
theorem freeSlot_engine (k : Fin 8) (s : State) :
    (freeSlot k s).engine.table = (s.setOpen k none).engine.table
      ∧ (freeSlot k s).engine.turns = s.engine.turns
      ∧ (s.engine.merged = none → (freeSlot k s).engine.merged = none)
      ∧ (freeSlot k s).engine.free = s.engine.free := by
  unfold freeSlot
  dsimp only
  split
  · next w opened =>
    have present : s.engine.merged ≠ none := by
      rw [show s.engine.merged = some w from opened]; exact Option.some_ne_none w
    split
    · exact ⟨rfl, rfl, fun none => absurd none present, rfl⟩
    · exact ⟨rfl, rfl, id, rfl⟩
  · exact ⟨rfl, rfl, id, rfl⟩

/-- The state in which a closure reports the table. -/
def beforeReport (k : Fin 8) (o : OpenStep) (s : State) : State :=
  freeSlot k (judgeClosed ⟨k, s.turn k⟩ o.settled (atJudgement ⟨k, s.turn k⟩ o s))

section
variable {k : Fin 8} {o : OpenStep} {s : State}

theorem closed_mayHalt (k : Fin 8) (o : OpenStep) (s : State) :
    s.MayHalt (judgeClosed ⟨k, s.turn k⟩ o.settled (atJudgement ⟨k, s.turn k⟩ o s)) :=
  (State.MayHalt.atJudgement _ o s).trans (.judgeClosed _ _ _)

theorem beforeReport_openAt (j : Fin 8) :
    (beforeReport k o s).openAt j = if k = j then none else s.openAt j := by
  obtain ⟨table, -⟩ := freeSlot_engine k (judgeClosed ⟨k, s.turn k⟩ o.settled (atJudgement ⟨k, s.turn k⟩ o s))
  rw [beforeReport, State.openAt_of_table table, State.openAt_setOpen,
    State.openAt_of_table (closed_mayHalt k o s).table]

variable (quiet : s.timer.run = .running → s.engine.merged = none ∧ s.engine.free = none)
include quiet

/-- A closure without a window in progress examines no head: a run that goes on RUNNING has no window. -/
theorem closeStep_of_quiet : closeStep k o s = reportEmpty (beforeReport k o s) := by
  have closed := closed_mayHalt k o s
  have timer := freeSlot_timer k (judgeClosed ⟨k, s.turn k⟩ o.settled (atJudgement ⟨k, s.turn k⟩ o s))
  obtain ⟨-, -, merged, free⟩ :=
    freeSlot_engine k (judgeClosed ⟨k, s.turn k⟩ o.settled (atJudgement ⟨k, s.turn k⟩ o s))
  rw [closeStep_eq]
  congr 1
  by_cases running : s.timer.run = .running
  · obtain ⟨noMerged, noFree⟩ := quiet running
    exact examine_of_no_windows (merged (closed.merged noMerged)) (free.trans (closed.free noFree))
  · refine examine_of_not_running ?_
    rw [timer]
    rcases closed.run with ⟨run, -⟩ | ⟨-, halted, -⟩
    · rw [run]; exact running
    · rw [halted]; decide

theorem closeStep_openAt (j : Fin 8) :
    (closeStep k o s).openAt j = if k = j then none else s.openAt j := by
  rw [closeStep_of_quiet quiet, State.openAt_of_table (reportEmpty_reported _).table, beforeReport_openAt]

theorem closeStep_turn (j : Fin 8) : (closeStep k o s).turn j = s.turn j := by
  obtain ⟨-, turns, -⟩ :=
    freeSlot_engine k (judgeClosed ⟨k, s.turn k⟩ o.settled (atJudgement ⟨k, s.turn k⟩ o s))
  rw [closeStep_of_quiet quiet, State.turn_of_turns (reportEmpty_reported _).turns, beforeReport,
    State.turn_of_turns turns, State.turn_of_turns (closed_mayHalt k o s).turns]

end

end Sys2Proof.Machine

/-! Reports (R45, R60 to R62, R81, R186): the frames whose fields do not check, the step that accepts a report, and
what an accepted report leaves when participants are still awaited. -/

namespace Sys2Proof.Machine

/-! ## The tag byte (12.1) -/

theorem Byte.msb_iff (b : Byte) : b.msb = true ↔ 128 ≤ b.toNat := by
  rw [BitVec.msb_eq_decide]
  simp

theorem Tag.ofByte_eq_none_iff (b : Byte) : Tag.ofByte b = none ↔ 128 ≤ b.toNat := by
  unfold Tag.ofByte
  by_cases high : b.msb = true
  · simp only [high, if_true, true_iff]
    exact (Byte.msb_iff b).1 high
  · simp only [high, Bool.false_eq_true, if_false, reduceCtorEq, false_iff]
    exact fun wrong => high ((Byte.msb_iff b).2 wrong)

theorem Tag.ofByte_toNat {b : Byte} {k : Tag} (h : Tag.ofByte b = some k) :
    b.toNat = 16 * k.slot.val + k.turn.toNat := by
  have below : b.toNat < 128 := by
    by_contra above
    rw [(Tag.ofByte_eq_none_iff b).2 (by omega)] at h
    cases h
  unfold Tag.ofByte at h
  split at h
  · cases h
  · cases h
    simp only [BitVec.toNat_setWidth]
    omega

theorem tagChecks_of_some {b : Byte} {k : Tag} (h : Tag.ofByte b = some k) : tagChecks b = true := by
  unfold Tag.ofByte at h
  unfold tagChecks
  split at h
  · cases h
  · next clear => simpa using clear

/-! ## Reports that do not check (R186) -/

theorem tagChecks_of_high {b : Byte} (h : 128 ≤ b.toNat) : tagChecks b = false := by
  rw [tagChecks, (Byte.msb_iff b).2 h]; rfl

theorem doneChecks_of_bad {tag result : Byte} (bad : 128 ≤ tag.toNat ∨ 1 < result.toNat) :
    doneChecks tag result = false := by
  unfold doneChecks
  rcases bad with high | beyond
  · rw [tagChecks_of_high high]; rfl
  · simp [beyond]

theorem readingChecks_of_bad {tag wireOff : Byte} (bad : 128 ≤ tag.toNat ∨ 1 < wireOff.toNat) :
    readingChecks tag wireOff = false := by
  unfold readingChecks
  rcases bad with high | beyond
  · rw [tagChecks_of_high high]; rfl
  · simp [beyond]

theorem contresChecks_of_bad {tag result position wireOff : Byte}
    (bad : 128 ≤ tag.toNat ∨ 1 < result.toNat ∨ 1 < wireOff.toNat ∨ (result = 1 ∧ 5 < position.toNat)) :
    contresChecks tag result position wireOff = false := by
  unfold contresChecks
  rcases bad with high | beyond | beyond | ⟨rfl, beyond⟩
  · rw [tagChecks_of_high high]; rfl
  · simp [beyond]
  · simp [beyond]
  · simp [beyond]

theorem receive_unchecked {n : Nat} {checks : Bool} (admits : ProbeState → Bool) (effect : State → State)
    {s : State} (up : s.port.resetLow = false) (bad : checks = false) :
    receive n checks admits effect s = discardFrame n s := by
  rw [bad]; exact receive_discarded n admits effect up

/-! ## Reports that check -/

theorem reportOf_done {port : Port} {tag result : Byte} {k : Tag} (h : Tag.ofByte tag = some k)
    (fits : result.toNat ≤ 1) :
    reportOf (.doneReport port tag result) = some (port, k, .drive (result == 1)) := by
  simp [reportOf, doneChecks, tagChecks_of_some h, fits, h]

theorem reportOf_readingReport {port : Port} {tag : Byte} {raw errors : Half} {wireOff : Byte} {k : Tag}
    (h : Tag.ofByte tag = some k) (fits : wireOff.toNat ≤ 1) :
    reportOf (.readingReport port tag raw errors wireOff)
      = some (port, k, .reading raw errors (wireOff == 1)) := by
  simp [reportOf, readingChecks, tagChecks_of_some h, fits, h]

theorem reportOf_contres {port : Port} {tag result position wireOff : Byte} {k : Tag}
    (h : Tag.ofByte tag = some k) (result_fits : result.toNat ≤ 1) (fits : wireOff.toNat ≤ 1)
    (place : result = 0 ∨ position.toNat ≤ 5) :
    reportOf (.contresReport port tag result position wireOff)
      = some (port, k, .contest (result == 1) position.toNat (wireOff == 1)) := by
  have places : (result.toNat == 0 || decide (position.toNat ≤ 5)) = true := by
    rcases place with rfl | low
    · rfl
    · simp [low]
  simp only [reportOf, contresChecks, tagChecks_of_some h, result_fits, fits, places, h]
  rfl

/-- Only an IN_STEP probe reports (R46). -/
theorem ProbeState.reports_iff (st : ProbeState) : st.reports = true ↔ st = .inStep := by
  cases st <;> simp [ProbeState.reports]

section
variable {c : Instr} {port : Port} {k : Tag} {r : Report} {s : State}

/-- A report from a probe that is not IN_STEP is stray (R46). -/
theorem exec_report_of_not_inStep (h : reportOf c = some (port, k, r)) (up : s.port.resetLow = false)
    (other : (s.probe (slotOf port)).state ≠ .inStep) :
    exec c s = .next (stray (slotOf port) (hearProbe (slotOf port) s)) := by
  have refuses : (s.probe (slotOf port)).state.reports = false :=
    Bool.eq_false_iff.2 fun reports => other ((ProbeState.reports_iff _).1 reports)
  have strays (checks : Bool) (p : Port) (tag : Byte) (r' : Report)
      (same : (if checks = true then (Tag.ofByte tag).map fun t => (p, t, r') else none)
        = some (port, k, r)) :
      receive (slotOf p) checks ProbeState.reports (takeTagged (slotOf p) tag r') s
        = stray (slotOf port) (hearProbe (slotOf port) s) := by
    obtain ⟨rfl, mapped⟩ := Option.ite_none_right_eq_some.mp same
    obtain ⟨t, -, pair⟩ := Option.map_eq_some_iff.mp mapped
    cases pair
    exact receive_stray _ _ _ up refuses
  unfold reportOf at h
  split at h
  · exact congrArg Host.Outcome.next (strays _ _ _ _ h)
  · exact congrArg Host.Outcome.next (strays _ _ _ _ h)
  · exact congrArg Host.Outcome.next (strays _ _ _ _ h)
  · cases h

/-- One that no open step accepts is stray too (R62). -/
theorem exec_report_of_none (h : reportOf c = some (port, k, r)) (up : s.port.resetLow = false)
    (refused : s.acceptor (slotOf port) k r = none) :
    exec c s = .next (stray (slotOf port) (hearProbe (slotOf port) s)) := by
  have same : (hearProbe (slotOf port) s).acceptor (slotOf port) k r = none := refused
  by_cases inStep : (s.probe (slotOf port)).state = .inStep
  · rw [exec_of_reportOf h up inStep, takeReport, same]
  · exact exec_report_of_not_inStep h up inStep

end

/-! ## The step that accepts a report (R60) -/

theorem carries_iff (a : Option Assignment) (k : Tag) :
    carries a k = true ↔ ∃ x, a = some x ∧ x.tag = k := by
  cases a with
  | none => simp [carries]
  | some x => simp [carries]

theorem Participant.awaits_iff (p : Participant) (n : Nat) (r : Report) :
    p.awaits n r = true ↔ p.slot = n ∧ p.state = .awaited ∧ p.role.reports r = true := by
  simp [Participant.awaits, and_assoc]

theorem State.acceptor_iff (s : State) (n : Nat) (k : Tag) (r : Report) (o : OpenStep) :
    s.acceptor n k r = some o ↔
      (s.probe n).state = .inStep ∧ s.turn k.slot = k.turn ∧ s.openAt k.slot = some o
      ∧ ((∃ a, (s.probe n).current = some a ∧ a.tag = k)
        ∨ (∃ a, (s.probe n).queued = some a ∧ a.tag = k))
      ∧ ∃ p ∈ o.participants, p.slot = n ∧ p.state = .awaited ∧ p.role.reports r = true := by
  have awaited (x : OpenStep) : (x.participants.any fun p => p.awaits n r) = true
      ↔ ∃ p ∈ x.participants, p.slot = n ∧ p.state = .awaited ∧ p.role.reports r = true := by
    simp only [List.any_eq_true, Participant.awaits_iff]
  unfold State.acceptor
  simp only [Option.ite_none_right_eq_some, Bool.and_eq_true, Bool.or_eq_true, beq_iff_eq, carries_iff]
  cases opened : s.openAt k.slot with
  | none => simp
  | some x =>
    simp only [Option.ite_none_right_eq_some, Option.some.injEq, awaited]
    constructor
    · rintro ⟨⟨⟨state, turn⟩, holds⟩, waits, rfl⟩
      exact ⟨state, turn, rfl, holds, waits⟩
    · rintro ⟨state, turn, rfl, holds, waits⟩
      exact ⟨⟨⟨state, turn⟩, holds⟩, waits, rfl⟩

/-! ## An accepted report (R61) -/

/-- The state in which an accepted report has been stored: the miss count is 0 and the assignment has ended. -/
def reportStored (port : Port) (k : Tag) (r : Report) (o : OpenStep) (s : State) : State :=
  endAssignment k (slotOf port)
    (((hearProbe (slotOf port) s).setOpen k.slot (some (o.receive (slotOf port) r))).mapProbe (slotOf port)
      fun e => { e with missCount := 0 })

theorem exec_accepted {c : Instr} {port : Port} {k : Tag} {r : Report} {o : OpenStep} {s : State}
    (h : reportOf c = some (port, k, r)) (up : s.port.resetLow = false)
    (accepts : s.acceptor (slotOf port) k r = some o) :
    exec c s = .next (if (o.receive (slotOf port) r).complete = true then
        closeStep k.slot (o.receive (slotOf port) r) (reportStored port k r o s)
      else examine (reportStored port k r o s)) := by
  have same : (hearProbe (slotOf port) s).acceptor (slotOf port) k r = some o := accepts
  rw [exec_of_reportOf h up (State.acceptor_eq_some accepts).1, takeReport, same]
  rfl

theorem ProbeEntry.endAssignment_missCount (e : ProbeEntry) (k : Tag) (policy : Policy) (misses : Nat) :
    ({ e with missCount := misses } : ProbeEntry).endAssignment k policy
      = { e.endAssignment k policy with missCount := misses } := by
  unfold ProbeEntry.endAssignment ProbeEntry.dropQueued
  dsimp only
  (repeat' split) <;> rfl

section
variable (port : Port) (k : Tag) (r : Report) (o : OpenStep) (s : State)

theorem reportStored_probe (n : Nat) :
    (reportStored port k r o s).probe n
      = if n = slotOf port then
          { (s.probe n).endAssignment k (s.params.policy n) with missCount := 0 }
        else s.probe n := by
  obtain ⟨low, high⟩ := slotOf_bounds port
  unfold reportStored endAssignment
  by_cases here : n = slotOf port
  · subst here
    rw [State.probe_mapProbe_same _ _ _ low high, State.probe_mapProbe_same _ _ _ low high,
      ProbeEntry.endAssignment_missCount, if_pos rfl]
    rfl
  · rw [State.probe_mapProbe, State.probe_mapProbe, if_neg (fun same => here same.1.symm),
      if_neg (fun same => here same.1.symm), if_neg here]
    rfl

theorem reportStored_openAt (j : Fin 8) :
    (reportStored port k r o s).openAt j
      = if k.slot = j then some (o.receive (slotOf port) r) else s.openAt j := by
  have table : (reportStored port k r o s).engine.table
      = ((hearProbe (slotOf port) s).setOpen k.slot (some (o.receive (slotOf port) r))).engine.table := rfl
  rw [State.openAt_of_table table, State.openAt_setOpen]
  rfl

theorem reportStored_turn (j : Fin 8) : (reportStored port k r o s).turn j = s.turn j := rfl

theorem reportStored_windows :
    (reportStored port k r o s).engine.merged = s.engine.merged
      ∧ (reportStored port k r o s).engine.free = s.engine.free :=
  ⟨rfl, rfl⟩

theorem reportStored_frame :
    (reportStored port k r o s).timer = s.timer ∧ (reportStored port k r o s).links = s.links
      ∧ (reportStored port k r o s).spot = s.spot ∧ (reportStored port k r o s).router = s.router
      ∧ (reportStored port k r o s).plans = s.plans ∧ (reportStored port k r o s).store = s.store
      ∧ (reportStored port k r o s).port = s.port :=
  ⟨rfl, rfl, rfl, rfl, rfl, rfl, rfl⟩

end

/-- Settles O46: a command whose fields check carries a report, which the one step that accepts it stores or closes. -/
theorem reportsAreAcceptedOrStray : Obligations.ReportsAreAcceptedOrStray := by
  unfold Obligations.ReportsAreAcceptedOrStray
  refine ⟨fun c port s up bad => ?discarded, fun tag => ⟨?named, fun k named => Tag.ofByte_toNat named⟩,
    fun c port tag r k s up tagged fields => ?taken⟩
  case discarded =>
    rw [← discardFrame_eq]
    rcases bad with ⟨tag, result, rfl, bad⟩ | ⟨tag, raw, errors, wireOff, rfl, bad⟩
      | ⟨tag, result, position, wireOff, rfl, bad⟩
    · exact congrArg Host.Outcome.next (receive_unchecked _ _ up (doneChecks_of_bad bad))
    · exact congrArg Host.Outcome.next (receive_unchecked _ _ up (readingChecks_of_bad bad))
    · exact congrArg Host.Outcome.next (receive_unchecked _ _ up (contresChecks_of_bad bad))
  case named =>
    rw [ne_eq, Tag.ofByte_eq_none_iff, Nat.not_le]
  case taken =>
    have report : reportOf c = some (port, k, r) := by
      rcases fields with ⟨result, rfl, fits, rfl⟩ | ⟨raw, errors, wireOff, rfl, fits, rfl⟩
        | ⟨result, position, wireOff, rfl, result_fits, fits, place, rfl⟩
      · exact reportOf_done tagged fits
      · exact reportOf_readingReport tagged fits
      · exact reportOf_contres tagged result_fits fits place
    refine ⟨fun o => s.acceptor_iff (slotOf port) k r o, exec_report_of_none report up, fun o accepts => ?_⟩
    have taken := exec_accepted report up accepts
    obtain ⟨timer, links, spot, router, plans, store, flags⟩ := reportStored_frame port k r o s
    by_cases done : (o.receive (slotOf port) r).complete = true
    · rw [if_pos done] at taken
      obtain ⟨-, -, -, closed⟩ :=
        closeStep_frame k.slot (o.receive (slotOf port) r) (reportStored port k r o s)
      obtain ⟨merged, free⟩ := reportStored_windows port k r o s
      refine ⟨_, taken, closed.trans store, fun awaits => absurd done (by simp [awaits]), fun _ quiet => ?_⟩
      have quietStored : (reportStored port k r o s).timer.run = .running →
          (reportStored port k r o s).engine.merged = none
            ∧ (reportStored port k r o s).engine.free = none := by
        rw [timer, merged, free]; exact quiet
      exact ⟨by rw [closeStep_openAt quietStored, if_pos rfl],
        by rw [closeStep_turn quietStored, reportStored_turn]⟩
    · rw [if_neg done] at taken
      obtain ⟨-, -, -, examinedPlans, examinedStore⟩ := examine_frame (reportStored port k r o s)
      obtain ⟨entries, -, table, -⟩ := examine_onlyStarts (reportStored port k r o s)
      have stored : (reportStored port k r o s).openAt k.slot = some (o.receive (slotOf port) r) := by
        rw [reportStored_openAt, if_pos rfl]
      obtain ⟨slot, turn⟩ := table k.slot (by rw [stored]; rfl)
      refine ⟨_, taken, examinedStore.trans store, fun _ => ⟨slot.trans stored, turn.trans rfl, ?missCount,
        examinedPlans.trans plans, fun idle => ?idle⟩, fun wrong => absurd wrong done⟩
      case missCount => rw [entries, reportStored_probe, if_pos rfl]
      case idle =>
        have notRunning : (reportStored port k r o s).timer.run ≠ .running := by rw [timer]; exact idle
        rw [examine_of_not_running notRunning]
        refine ⟨by rw [reportStored_probe, if_pos rfl], fun n other => by rw [reportStored_probe, if_neg other],
          fun j other => by rw [reportStored_openAt, if_neg (Ne.symm other)], timer, links, spot, router, flags⟩

end Sys2Proof.Machine

/-! The fixture-time limit (R21, R35, R36; log 26): the tick that takes fixture time to its limit, the sweep that ends,
and the closure of the open steps one after another, the last of which stops the run. -/

namespace Sys2Proof.Machine

/-! ## When the limit is reached -/

theorem State.deadlineWaits_eq_false (s : State) :
    s.deadlineWaits = false ↔ ∀ k o, s.openAt k = some o → s.timer.fixtureTime < o.deadline := by
  have slots : ∀ k : Fin 8, k ∈ tableSlots := by decide
  rw [State.deadlineWaits, List.any_eq_false]
  constructor
  · intro h k o opened
    have waits := h k (slots k)
    rw [opened] at waits
    simpa [State.deadlineReached] using waits
  · intro h k _
    cases opened : s.openAt k with
    | none => simp
    | some o => simpa [State.deadlineReached] using h k o opened

theorem State.limitReached_iff (s : State) :
    s.limitReached = true ↔ s.port.resetLow = false ∧ s.timerRuns = true ∧ s.timer.run ≠ .syncing
      ∧ s.timer.limitTaken = false ∧ 4294967294 ≤ s.timer.fixtureTime ∧ s.sweepStartDue = false
      ∧ s.markReached s.timer.nextStep = false
      ∧ ∀ k o, s.openAt k = some o → s.timer.fixtureTime < o.deadline := by
  have top : maxWord ≤ s.timer.fixtureTime + 1 ↔ 4294967294 ≤ s.timer.fixtureTime := by
    unfold maxWord; omega
  rw [← State.deadlineWaits_eq_false]
  simp only [State.limitReached, State.timeEventWaits, Bool.and_eq_true, Bool.not_eq_true', bne_iff_ne,
    decide_eq_true_eq, Bool.or_eq_false_iff, top, and_assoc]

/-! ## Closures at the limit -/

/-- At the limit no window is in progress, the sweep has ended, and the run drains or has stopped. -/
structure State.AtLimit (s : State) : Prop where
  merged : s.engine.merged = none
  free : s.engine.free = none
  ended : s.timer.sweepActive = false
  run : s.timer.run = .stopping ∨ s.timer.run = .halted ∨ s.timer.run = .stopped

/-- What the closures at the limit keep. -/
structure State.KeepsLimit (s x : State) : Prop where
  turns : x.engine.turns = s.engine.turns
  fixtureTime : x.timer.fixtureTime = s.timer.fixtureTime
  sweepNumber : x.timer.sweepNumber = s.timer.sweepNumber
  health : x.timer.health = s.timer.health

theorem State.KeepsLimit.refl (s : State) : s.KeepsLimit s := ⟨rfl, rfl, rfl, rfl⟩

theorem State.KeepsLimit.trans {s x y : State} (h : s.KeepsLimit x) (k : x.KeepsLimit y) : s.KeepsLimit y :=
  ⟨k.turns.trans h.turns, k.fixtureTime.trans h.fixtureTime, k.sweepNumber.trans h.sweepNumber,
    k.health.trans h.health⟩

theorem State.AtLimit.unwatched {s : State} (h : s.AtLimit) : s.timer.run.watchesQuorum = false := by
  rcases h.run with run | run | run <;> rw [run] <;> rfl

theorem State.AtLimit.quiet {s : State} (h : s.AtLimit) :
    s.timer.run = .running → s.engine.merged = none ∧ s.engine.free = none :=
  fun _ => ⟨h.merged, h.free⟩

/-- The report of the table at the limit. -/
theorem reportEmpty_atLimit {s : State} (merged : s.engine.merged = none) (free : s.engine.free = none)
    (ended : s.timer.sweepActive = false)
    (run : s.timer.run = .stopping ∨ s.timer.run = .halted ∨ s.timer.run = .stopped) :
    (reportEmpty s).AtLimit ∧ s.KeepsLimit (reportEmpty s) := by
  have reported := reportEmpty_reported s
  refine ⟨⟨reported.merged merged, reported.free free, reported.ended ended, ?_⟩,
    ⟨reported.turns, reported.fixtureTime, reported.sweepNumber, reported.health⟩⟩
  rw [reported.run]
  split
  · rcases run with run | run | run <;> simp [run, RunState.drained]
  · exact run

section
variable {k : Fin 8} {o : OpenStep} {s : State} (h : s.AtLimit)
include h

/-- Before its report a closure at the limit has left the run as it was. -/
theorem beforeReport_atLimit :
    (beforeReport k o s).AtLimit ∧ s.KeepsLimit (beforeReport k o s)
      ∧ (beforeReport k o s).timer.run = s.timer.run := by
  have closed := closed_mayHalt k o s
  obtain ⟨-, turns, merged, free⟩ :=
    freeSlot_engine k (judgeClosed ⟨k, s.turn k⟩ o.settled (atJudgement ⟨k, s.turn k⟩ o s))
  have timer := freeSlot_timer k (judgeClosed ⟨k, s.turn k⟩ o.settled (atJudgement ⟨k, s.turn k⟩ o s))
  obtain ⟨run, health⟩ := closed.run.resolve_right fun halts => by
    rw [h.unwatched] at halts; exact absurd halts.1 (by decide)
  unfold beforeReport
  refine ⟨⟨merged (closed.merged h.merged), free.trans (closed.free h.free), ?_, ?_⟩,
    ⟨turns.trans closed.turns, ?_, ?_, ?_⟩, ?_⟩
  · rw [timer]; exact closed.ended h.ended
  · rw [timer, run]; exact h.run
  · rw [timer]; exact closed.fixtureTime
  · rw [timer]; exact closed.sweepNumber
  · rw [timer]; exact health
  · rw [timer]; exact run

theorem closeStep_atLimit :
    (closeStep k o s).AtLimit ∧ s.KeepsLimit (closeStep k o s)
      ∧ (closeStep k o s).timer.run
        = if (closeStep k o s).tableEmpty = true then s.timer.run.drained else s.timer.run := by
  obtain ⟨before, kept, run⟩ := beforeReport_atLimit (k := k) (o := o) h
  obtain ⟨limit, reportKept⟩ := reportEmpty_atLimit before.merged before.free before.ended before.run
  have reported := reportEmpty_reported (beforeReport k o s)
  have empty := State.tableEmpty_of_table reported.table
  rw [closeStep_of_quiet h.quiet]
  refine ⟨limit, kept.trans reportKept, ?_⟩
  rw [reported.run, empty, run]

end

/-! ## The steps closed one after another -/

theorem freePick_mem {α : Type} (c : Nat) (x : α) (xs : List α) : freePick c x xs ∈ x :: xs := by
  cases xs with
  | nil => exact List.mem_singleton.2 rfl
  | cons y ys =>
    have inside : c % ((y :: ys).length + 1) < (x :: y :: ys).length := Nat.mod_lt _ (by simp)
    rw [freePick, List.getD_eq_getElem _ _ inside]
    exact List.getElem_mem inside

theorem State.mem_openSlots (s : State) (k : Fin 8) : k ∈ s.openSlots ↔ ∃ o, s.openAt k = some o := by
  have slots : ∀ k : Fin 8, k ∈ tableSlots := by decide
  rw [State.openSlots, List.mem_filter, Option.isSome_iff_exists]
  exact and_iff_right (slots k)

theorem State.tableEmpty_iff_openSlots (s : State) : s.tableEmpty = true ↔ s.openSlots = [] := by
  rw [State.tableEmpty_iff, List.eq_nil_iff_forall_not_mem]
  simp only [State.mem_openSlots, not_exists]
  exact ⟨fun h k o opened => Option.some_ne_none o (opened.symm.trans (h k)),
    fun h k => Option.eq_none_iff_forall_ne_some.2 (h k)⟩

/-- A closure leaves fewer steps open. -/
theorem openSlots_closeStep {k : Fin 8} {o : OpenStep} {s : State} (h : s.AtLimit) (opened : k ∈ s.openSlots) :
    (closeStep k o s).openSlots.length < s.openSlots.length := by
  have rest : (closeStep k o s).openSlots = s.openSlots.filter fun j => j ≠ k := by
    unfold State.openSlots
    rw [List.filter_filter]
    refine List.filter_congr fun j _ => ?_
    rw [closeStep_openAt h.quiet]
    by_cases same : k = j
    · simp [same]
    · simp [same, Ne.symm same]
  rw [rest, List.length_filter_lt_length_iff_exists]
  exact ⟨k, opened, by simp⟩

theorem closeAll_of_empty (fuel : Nat) {s : State} (none : s.openSlots = []) : closeAll fuel s = s := by
  cases fuel with
  | zero => rfl
  | succ fuel => rw [closeAll, none]

/-- The closures at the limit empty the table, and the last of them reports it. -/
theorem closeAll_atLimit (fuel : Nat) (s : State) (h : s.AtLimit) (room : s.openSlots.length ≤ fuel) :
    (closeAll fuel s).AtLimit ∧ s.KeepsLimit (closeAll fuel s) ∧ (closeAll fuel s).openSlots = []
      ∧ (s.openSlots ≠ [] → (closeAll fuel s).timer.run = s.timer.run.drained) := by
  induction fuel generalizing s with
  | zero =>
    have none : s.openSlots = [] := List.eq_nil_of_length_eq_zero (by omega)
    exact ⟨h, .refl s, none, fun some => absurd none some⟩
  | succ fuel ih =>
    cases slots : s.openSlots with
    | nil =>
      rw [closeAll_of_empty _ slots]
      exact ⟨h, .refl s, slots, fun some => absurd rfl some⟩
    | cons k ks =>
      have chosen := freePick_mem (Config.eventChoice s.freeCount) k ks
      rw [← slots] at chosen
      obtain ⟨o, opened⟩ := (s.mem_openSlots _).1 chosen
      have bumped : s.bump.AtLimit := ⟨h.merged, h.free, h.ended, h.run⟩
      have fewer := openSlots_closeStep (o := o) bumped chosen
      obtain ⟨limit, kept, run⟩ := closeStep_atLimit (k := freePick (Config.eventChoice s.freeCount) k ks)
        (o := o) bumped
      have unfolded : closeAll (fuel + 1) s
          = closeAll fuel (closeStep (freePick (Config.eventChoice s.freeCount) k ks) o s.bump) := by
        rw [closeAll, slots]
        dsimp only
        rw [opened]
      have sameSlots : s.bump.openSlots = s.openSlots := rfl
      rw [unfolded]
      generalize closeStep (freePick (Config.eventChoice s.freeCount) k ks) o s.bump = t
        at fewer limit kept run ⊢
      obtain ⟨limit', kept', empty, drained⟩ := ih t limit (by rw [sameSlots] at fewer; omega)
      refine ⟨limit', ⟨kept'.turns.trans kept.turns, kept'.fixtureTime.trans kept.fixtureTime,
        kept'.sweepNumber.trans kept.sweepNumber, kept'.health.trans kept.health⟩, empty, fun _ => ?_⟩
      by_cases last : t.openSlots = []
      · rw [closeAll_of_empty _ last, run, if_pos (t.tableEmpty_iff_openSlots.2 last)]
        rfl
      · rw [drained last, run, if_neg fun wrong => last (t.tableEmpty_iff_openSlots.1 wrong)]
        rfl

theorem State.openSlots_length (s : State) : s.openSlots.length ≤ 8 :=
  List.length_filter_le _ tableSlots

/-! ## The limit -/

/-- The state in which the run is moved towards STOPPED: the last tick has passed and the sweep has ended. -/
def limitBegun (s : State) : State :=
  let ended := endSweep (raise .run (tick s))
  ended.withTimer { ended.timer with limitTaken := true }

theorem limitEvent_eq (s : State) : limitEvent s = closeAll 8 (limitRun (limitBegun s)) := rfl

theorem tick_timer_at_limit {s : State} (up : s.port.resetLow = false) (runs : s.timerRuns = true)
    (high : 4294967294 ≤ s.timer.fixtureTime) :
    (s.timer.fixtureTime ≤ 4294967295 → (tick s).timer.fixtureTime = 4294967295)
      ∧ (tick s).timer.run = s.timer.run ∧ (tick s).timer.health = s.timer.health
      ∧ (tick s).timer.sweepNumber = s.timer.sweepNumber := by
  by_cases below : s.timer.fixtureTime < 4294967295
  · rw [tick_timer_of_ticks up ⟨runs, below⟩, SweepTimer.tickSweep_eq]
    exact ⟨fun _ => Nat.le_antisymm below (Nat.succ_le_succ high), rfl, rfl, rfl⟩
  · rw [tick_timer_of_stopped up fun ticks => below ticks.2]
    exact ⟨fun low => Nat.le_antisymm low (Nat.not_lt.1 below), rfl, rfl, rfl⟩

theorem limitBegun_timer (s : State) :
    (limitBegun s).timer = { (tick s).timer with
      notStarted := (endSweep (raise .run (tick s))).timer.notStarted, sweepActive := false,
      sweepEndDue := false, limitTaken := true } := by
  have timer : (limitBegun s).timer = { (endSweep (raise .run (tick s))).timer with limitTaken := true } := rfl
  rw [timer, endSweep_timer, raise_timer]

theorem limitBegun_engine (s : State) :
    (limitBegun s).engine = { s.engine with merged := none, free := none } := by
  obtain ⟨-, -, engine, -⟩ := tick_frame s
  have same : (limitBegun s).engine = (endSweep (raise .run (tick s))).engine := rfl
  rw [same, endSweep_engine, raise_engine, engine]

/-- What the limit makes of the run before the open steps are closed (R35). -/
theorem limitRun_cases (s : State) :
    limitRun s = s ∧ s.timer.run ≠ .running ∧ s.timer.run ≠ .pausing
      ∨ limitRun s = reportEmpty (s.setRun .stopping) ∧ (s.timer.run = .running ∨ s.timer.run = .pausing) := by
  unfold limitRun
  cases run : s.timer.run with
  | running => exact .inr ⟨rfl, .inl rfl⟩
  | pausing => exact .inr ⟨rfl, .inr rfl⟩
  | stopped => exact .inl ⟨rfl, by decide, by decide⟩
  | syncing => exact .inl ⟨rfl, by decide, by decide⟩
  | stopping => exact .inl ⟨rfl, by decide, by decide⟩
  | halted => exact .inl ⟨rfl, by decide, by decide⟩
  | paused => exact .inl ⟨rfl, by decide, by decide⟩

/-- The run states in which time runs, but for SYNCING (R21). -/
theorem State.timerRuns_cases {s : State} (runs : s.timerRuns = true) (notSyncing : s.timer.run ≠ .syncing) :
    s.timer.run = .running ∨ s.timer.run = .pausing ∨ s.timer.run = .stopping
      ∨ (s.timer.run = .halted ∧ s.tableEmpty = false) := by
  unfold State.timerRuns at runs
  cases run : s.timer.run with
  | running => exact .inl rfl
  | pausing => exact .inr (.inl rfl)
  | stopping => exact .inr (.inr (.inl rfl))
  | halted => exact .inr (.inr (.inr ⟨rfl, by simpa [run] using runs⟩))
  | syncing => exact absurd run notSyncing
  | stopped => simp [run] at runs
  | paused => simp [run] at runs

section
variable {s : State} (runs : s.timerRuns = true) (notSyncing : s.timer.run ≠ .syncing)
  (merged : s.engine.merged = none) (free : s.engine.free = none) (ended : s.timer.sweepActive = false)
include runs notSyncing merged free ended

/-- The run moved towards STOPPED, and STOPPED at once when no step is open (R35). -/
theorem limitRun_atLimit :
    (limitRun s).AtLimit ∧ s.KeepsLimit (limitRun s) ∧ (limitRun s).openSlots = s.openSlots
      ∧ (s.timer.run = .running ∨ s.timer.run = .pausing →
        (limitRun s).timer.run = if s.openSlots = [] then .stopped else .stopping)
      ∧ (s.timer.run = .stopping ∨ s.timer.run = .halted → (limitRun s).timer.run = s.timer.run) := by
  rcases limitRun_cases s with ⟨same, notRunning, notPausing⟩ | ⟨drains, running⟩
  · rw [same]
    have run := ((State.timerRuns_cases runs notSyncing).resolve_left notRunning).resolve_left notPausing
    refine ⟨⟨merged, free, ended, ?_⟩, .refl s, rfl,
      fun wrong => absurd wrong (not_or.2 ⟨notRunning, notPausing⟩), fun _ => rfl⟩
    exact run.imp_right fun halted => .inl halted.1
  · have reported := reportEmpty_reported (s.setRun .stopping)
    obtain ⟨limit, kept⟩ := reportEmpty_atLimit (s := s.setRun .stopping) merged free ended (.inl rfl)
    rw [drains]
    refine ⟨limit, ⟨kept.turns, kept.fixtureTime, kept.sweepNumber, kept.health⟩, ?_, fun _ => ?_,
      fun other => ?_⟩
    · unfold State.openSlots
      refine List.filter_congr fun k _ => ?_
      rw [State.openAt_of_table reported.table]
      rfl
    · have empty : (s.setRun .stopping).tableEmpty = true ↔ s.openSlots = [] := s.tableEmpty_iff_openSlots
      rw [reported.run]
      by_cases none : s.openSlots = []
      · rw [if_pos (empty.2 none), if_pos none]; rfl
      · rw [if_neg (fun wrong => none (empty.1 wrong)), if_neg none]; rfl
    · rcases running with run | run <;> rcases other with stop | stop <;> rw [run] at stop <;> cases stop

end

theorem limitBegun_tableEmpty (s : State) : (limitBegun s).tableEmpty = s.tableEmpty :=
  State.tableEmpty_of_table (by rw [limitBegun_engine])

section
variable {s : State} (up : s.port.resetLow = false) (runs : s.timerRuns = true)
  (notSyncing : s.timer.run ≠ .syncing) (high : 4294967294 ≤ s.timer.fixtureTime)
include up runs notSyncing high

theorem limitEvent_outcome :
    (limitEvent s).AtLimit ∧ (limitBegun s).KeepsLimit (limitEvent s) ∧ (limitEvent s).openSlots = []
      ∧ (s.timer.run = .running ∨ s.timer.run = .pausing → (limitEvent s).timer.run = .stopped)
      ∧ (s.timer.run = .stopping → s.tableEmpty = false → (limitEvent s).timer.run = .stopped)
      ∧ (s.timer.run = .halted → (limitEvent s).timer.run = .halted) := by
  obtain ⟨-, run, -⟩ := tick_timer_at_limit up runs high
  have timer := limitBegun_timer s
  have sameRun : (limitBegun s).timer.run = s.timer.run := by rw [timer]; exact run
  have sameEmpty := limitBegun_tableEmpty s
  have begunRuns : (limitBegun s).timerRuns = true := by
    rw [State.timerRuns, sameRun, sameEmpty]; exact runs
  have openIff : (limitBegun s).openSlots = [] ↔ s.tableEmpty = true := by
    rw [← State.tableEmpty_iff_openSlots, sameEmpty]
  obtain ⟨limit, kept, slots, drains, stays⟩ := limitRun_atLimit begunRuns (by rw [sameRun]; exact notSyncing)
    (by rw [limitBegun_engine]) (by rw [limitBegun_engine]) (by rw [timer])
  obtain ⟨closed, keptClosed, empty, drained⟩ := closeAll_atLimit 8 _ limit (State.openSlots_length _)
  rw [sameRun] at drains stays
  rw [slots] at drained
  rw [limitEvent_eq]
  refine ⟨closed, kept.trans keptClosed, empty, fun moving => ?_, fun stopping isOpen => ?_, fun halted => ?_⟩
  · by_cases none : (limitBegun s).openSlots = []
    · rw [closeAll_of_empty _ (slots.trans none), drains moving, if_pos none]
    · rw [drained none, drains moving, if_neg none]; rfl
  · have some : (limitBegun s).openSlots ≠ [] := fun none => by
      rw [openIff.1 none] at isOpen; cases isOpen
    rw [drained some, stays (.inl stopping), stopping]; rfl
  · by_cases none : (limitBegun s).openSlots = []
    · rw [closeAll_of_empty _ (slots.trans none), stays (.inr halted), halted]
    · rw [drained none, stays (.inr halted), halted]; rfl

theorem limitEvent_fixtureTime (low : s.timer.fixtureTime ≤ 4294967295) :
    (limitEvent s).timer.fixtureTime = 4294967295 := by
  obtain ⟨-, kept, -⟩ := limitEvent_outcome up runs notSyncing high
  obtain ⟨time, -⟩ := tick_timer_at_limit up runs high
  rw [kept.fixtureTime, limitBegun_timer]
  exact time low

theorem limitEvent_kept :
    (limitEvent s).timer.sweepNumber = s.timer.sweepNumber ∧ (limitEvent s).timer.health = s.timer.health
      ∧ ∀ k, (limitEvent s).turn k = s.turn k := by
  obtain ⟨-, kept, -⟩ := limitEvent_outcome up runs notSyncing high
  obtain ⟨-, -, health, number⟩ := tick_timer_at_limit up runs high
  refine ⟨?_, ?_, fun k => State.turn_of_turns ?_ k⟩
  · rw [kept.sweepNumber, limitBegun_timer]; exact number
  · rw [kept.health, limitBegun_timer]; exact health
  · rw [kept.turns, limitBegun_engine]

end

theorem limitEvent_isSet_run (s : State) : (limitEvent s).port.isSet .run = true := by
  have moved : ∀ x : State, x.port.isSet .run = true → (limitRun x).port.isSet .run = true := by
    intro x set
    rcases limitRun_cases x with ⟨same, -⟩ | ⟨drains, -⟩
    · rw [same]; exact set
    · rw [drains]; exact (State.Grows.reportEmpty _).2 .run set
  rw [limitEvent_eq]
  refine (State.Grows.closeAll 8 _).2 .run (moved _ ?_)
  exact (State.Grows.endSweep _).2 .run (raise_isSet ..)

/-- Settles O55: the run and the table by the closures at the limit, the flag by its raise at the tick. -/
theorem fixtureTimeLimitEndsTheRun : Obligations.FixtureTimeLimitEndsTheRun := by
  unfold Obligations.FixtureTimeLimitEndsTheRun
  refine fun s => ⟨s.limitReached_iff, fun reached => ?taken, fun early => ?kept⟩
  case kept => simp only [exec, execFixtureTimeLimit, early, Bool.false_eq_true, if_false]
  case taken =>
    obtain ⟨up, runs, notSyncing, -, high, -⟩ := s.limitReached_iff.1 reached
    obtain ⟨limit, -, empty, moving, stopping, halted⟩ := limitEvent_outcome up runs notSyncing high
    obtain ⟨number, health, turns⟩ := limitEvent_kept up runs notSyncing high
    have closed := (limitEvent s).tableEmpty_iff.1 ((limitEvent s).tableEmpty_iff_openSlots.2 empty)
    have clock : (limitEvent s).clock = (tick s).clock := by rw [limitEvent_eq]; simp [limitBegun]
    have store : (limitEvent s).store = s.store := by rw [limitEvent_eq]; simp [limitBegun]
    refine ⟨limitEvent s, ?_, limitEvent_isSet_run s, fun k => ⟨closed k, turns k⟩, limit.merged, limit.free,
      limitEvent_fixtureTime up runs notSyncing high, number, limit.ended, health, clock.trans (tick_clock up),
      moving, stopping, halted, store⟩
    simp only [exec, execFixtureTimeLimit, reached, if_true]

end Sys2Proof.Machine

/-! Misses (R51, R52, R83): the PROBE flag of a probe that is lost, and what the closure of a step with distinct
participants makes of each of their entries. -/

namespace Sys2Proof.Machine

/-! ## A probe is lost -/

/-- A miss at the limit loses a SYNCING or IN_STEP probe, which raises PROBE (R51, R56). -/
theorem addMiss_isSet_probe (b : Bool) {n : Nat} {s : State} (low : 1 ≤ n) (high : n ≤ 18)
    (state : (s.probe n).state = .syncing ∨ (s.probe n).state = .inStep)
    (limit : s.params.missLimit.toNat ≤ satInc 8 (s.probe n).missCount) :
    (addMiss b n s).port.isSet .probe = true := by
  have counted : (s.mapProbe n fun e => { e with missCount := satInc 8 e.missCount }).probe n
      = { s.probe n with missCount := satInc 8 (s.probe n).missCount } :=
    State.probe_mapProbe_same _ _ _ low high
  have notLost : (s.probe n).state ≠ .lost := by
    rcases state with is | is <;> rw [is] <;> decide
  have raised : (changeState n .lost (s.mapProbe n fun e => { e with missCount := satInc 8 e.missCount })).port.isSet
      .probe = true := changeState_isSet_probe (by rw [counted]; exact notLost)
  unfold addMiss loseProbe
  dsimp only
  rw [counted, if_pos ⟨state, limit⟩]
  split
  · exact (State.Grows.leaveInStep ..).2 .probe raised
  · exact raised

/-! ## One participant -/

/-- A participant moves no entry but its own, whatever slot it names. -/
theorem countMissing_probe_of_any (p : Participant) (m : Nat) (s : State) :
    (countMissing p s).probe m
      = if p.slot = m ∧ p.state = .missing ∧ (s.probe m).state = .inStep then
          (s.probe m).missed s.params.missLimit.toNat (s.params.policy m)
        else s.probe m := by
  by_cases slot : 1 ≤ p.slot ∧ p.slot ≤ 18
  · exact countMissing_probe p m s slot.1 slot.2
  · have absent : (s.probe p.slot).state ≠ .inStep := by
      rw [State.probe_of_beyond s slot]
      exact fun wrong => nomatch wrong
    have same : countMissing p s = s := if_neg fun wrong => absent wrong.2
    rw [same, if_neg]
    rintro ⟨rfl, -, state⟩
    exact absent state

theorem endAssignment_probe (t : Tag) (n m : Nat) (s : State) :
    (endAssignment t n s).probe m
      = if n = m ∧ 1 ≤ m ∧ m ≤ 18 then (s.probe m).endAssignment t (s.params.policy n) else s.probe m := by
  rw [endAssignment, State.probe_mapProbe]

theorem Participant.settle_slot (p : Participant) : p.settle.slot = p.slot := by
  unfold Participant.settle
  split <;> rfl

theorem Participant.settle_missing (p : Participant) : p.settle.state = .missing ↔ p.state ≠ .received := by
  unfold Participant.settle
  cases state : p.state <;> simp [state]

theorem Participant.settle_settle (p : Participant) : p.settle.settle = p.settle := by
  refine if_neg ?_
  unfold Participant.settle
  split
  · exact fun wrong => nomatch wrong
  · next other => exact other

theorem OpenStep.settled_settled (o : OpenStep) : o.settled.settled = o.settled := by
  unfold OpenStep.settled
  dsimp only
  rw [List.map_map]
  congr 1
  exact List.map_congr_left fun p _ => Participant.settle_settle p

theorem OpenStep.settled_complete (o : OpenStep) : o.settled.complete = true := by
  rw [OpenStep.complete, List.all_eq_true]
  intro p mem
  obtain ⟨q, -, rfl⟩ := List.mem_map.1 mem
  unfold Participant.settle
  split
  · rfl
  · next other => simpa using other

/-! ## The participants of a step -/

/-- A fold over participants, each of which touches its own slot alone, leaves the other slots. -/
theorem foldl_participants_other {f : Participant → State → State}
    (own : ∀ p t m, p.slot ≠ m → (f p t).probe m = t.probe m) (n : Nat) (ps : List Participant)
    (absent : ∀ p ∈ ps, p.slot ≠ n) (s : State) :
    (ps.foldl (fun t p => f p t) s).probe n = s.probe n := by
  induction ps generalizing s with
  | nil => rfl
  | cons p ps ih =>
    rw [List.foldl_cons, ih (fun q mem => absent q (List.mem_cons_of_mem _ mem)),
      own p s n (absent p (List.mem_cons_self ..))]

/-- Over distinct participants the slot of each is touched once. -/
theorem foldl_participants_own {f : Participant → State → State} {F : ProbeEntry → ProbeEntry} {s : State}
    {ps : List Participant} {p : Participant} (plans : ∀ q t, (f q t).plans = t.plans)
    (own : ∀ q t m, q.slot ≠ m → (f q t).probe m = t.probe m)
    (here : ∀ t, t.plans = s.plans → (f p t).probe p.slot = F (t.probe p.slot))
    (nodup : (ps.map Participant.slot).Nodup) (mem : p ∈ ps) :
    (ps.foldl (fun t q => f q t) s).probe p.slot = F (s.probe p.slot) := by
  obtain ⟨before, after, rfl⟩ := List.append_of_mem mem
  rw [List.map_append, List.map_cons, List.nodup_append, List.nodup_cons] at nodup
  obtain ⟨-, ⟨later, -⟩, apart⟩ := nodup
  have earlier : ∀ q ∈ before, q.slot ≠ p.slot := fun q inside =>
    apart q.slot (List.mem_map_of_mem inside) p.slot (List.mem_cons_self ..)
  have behind : ∀ q ∈ after, q.slot ≠ p.slot := fun q inside same =>
    later (same ▸ List.mem_map_of_mem inside)
  have kept := foldl_keeps (fun t : State => t.plans = s.plans) (fun t q => f q t)
    (fun t q h => (plans q t).trans h) before s rfl
  rw [List.foldl_append, List.foldl_cons, foldl_participants_other own _ after behind, here _ kept,
    foldl_participants_other own _ before earlier]

/-- The entry of a probe after the miss of its participant, if it has one, is counted (R51). -/
def ProbeEntry.counted (e : ProbeEntry) (p : Participant) (limit : Nat) (policy : Policy) : ProbeEntry :=
  if p.state ≠ .received ∧ e.state = .inStep then e.missed limit policy else e

section
variable (t : Tag) (o : OpenStep) (s : State)

/-- The misses of a step's participants, counted in their order. -/
def missesCounted : State := o.settled.participants.foldl (fun s p => countMissing p s) s

theorem atJudgement_eq :
    atJudgement t o s
      = o.settled.participants.foldl (fun s p => endAssignment t p.slot s) (missesCounted o s) := rfl

theorem missesCounted_plans : (missesCounted o s).plans = s.plans :=
  foldl_keeps (fun x : State => x.plans = s.plans) _
    (fun x (p : Participant) h => by
      obtain ⟨-, -, -, -, plans, -⟩ := countMissing_frame p x
      exact plans.trans h) _ _ rfl

theorem countMissing_other (p : Participant) (x : State) (m : Nat) (other : p.slot ≠ m) :
    (countMissing p x).probe m = x.probe m := by
  rw [countMissing_probe_of_any, if_neg fun wrong => other wrong.1]

theorem endAssignment_other (p : Participant) (x : State) (m : Nat) (other : p.slot ≠ m) :
    (endAssignment t p.slot x).probe m = x.probe m := by
  rw [endAssignment_probe, if_neg fun wrong => other wrong.1]

variable {o}

theorem settled_absent {n : Nat} (absent : ∀ p ∈ o.participants, p.slot ≠ n) :
    ∀ p ∈ o.settled.participants, p.slot ≠ n := by
  intro p mem
  obtain ⟨q, inside, rfl⟩ := List.mem_map.1 mem
  rw [Participant.settle_slot]
  exact absent q inside

theorem settled_nodup (nodup : (o.participants.map Participant.slot).Nodup) :
    (o.settled.participants.map Participant.slot).Nodup := by
  have same : o.settled.participants.map Participant.slot = o.participants.map Participant.slot := by
    rw [OpenStep.settled, List.map_map]
    exact List.map_congr_left fun p _ => Participant.settle_slot p
  rw [same]; exact nodup

/-- No entry of another slot moves up to the judgement. -/
theorem atJudgement_probe_other {n : Nat} (absent : ∀ p ∈ o.participants, p.slot ≠ n) :
    (atJudgement t o s).probe n = s.probe n := by
  have others := settled_absent absent
  rw [atJudgement_eq, foldl_participants_other (fun p x m => endAssignment_other t p x m) n _ others,
    missesCounted, foldl_participants_other countMissing_other n _ others]

section
variable {p : Participant} (nodup : (o.participants.map Participant.slot).Nodup) (mem : p ∈ o.participants)
  (low : 1 ≤ p.slot) (high : p.slot ≤ 18)
include nodup mem

theorem missesCounted_probe :
    (missesCounted o s).probe p.slot
      = (s.probe p.slot).counted p s.params.missLimit.toNat (s.params.policy p.slot) := by
  have settledMem : p.settle ∈ o.settled.participants := List.mem_map_of_mem mem
  have h := foldl_participants_own (f := countMissing) (s := s) (p := p.settle)
    (F := fun e => e.counted p s.params.missLimit.toNat (s.params.policy p.slot))
    (fun q x => by obtain ⟨-, -, -, -, plans, -⟩ := countMissing_frame q x; exact plans)
    countMissing_other
    (fun x plans => by
      rw [countMissing_probe_of_any, State.params_of_plans plans, ProbeEntry.counted]
      simp only [Participant.settle_slot, Participant.settle_missing, true_and])
    (settled_nodup nodup) settledMem
  rw [Participant.settle_slot] at h
  exact h

include low high

/-- The entry of a participant at the judgement: its miss is counted and its assignment has ended. -/
theorem atJudgement_probe :
    (atJudgement t o s).probe p.slot
      = ((s.probe p.slot).counted p s.params.missLimit.toNat (s.params.policy p.slot)).endAssignment t
          (s.params.policy p.slot) := by
  have settledMem : p.settle ∈ o.settled.participants := List.mem_map_of_mem mem
  have h := foldl_participants_own (f := fun q x => endAssignment t q.slot x) (s := missesCounted o s)
    (p := p.settle) (F := fun e => e.endAssignment t (s.params.policy p.slot))
    (fun q x => rfl) (fun q x m => endAssignment_other t q x m)
    (fun x plans => by
      rw [endAssignment_probe, Participant.settle_slot, if_pos ⟨rfl, low, high⟩,
        State.params_of_plans (plans.trans (missesCounted_plans o s))])
    (settled_nodup nodup) settledMem
  rw [Participant.settle_slot, missesCounted_probe s nodup mem] at h
  exact h

/-- The loss of a participant's probe raises PROBE as its miss is counted. -/
theorem missesCounted_isSet_probe (missing : p.state ≠ .received) (state : (s.probe p.slot).state = .inStep)
    (limit : s.params.missLimit.toNat ≤ satInc 8 (s.probe p.slot).missCount) :
    (missesCounted o s).port.isSet .probe = true := by
  have settledMem : p.settle ∈ o.settled.participants := List.mem_map_of_mem mem
  have distinct := settled_nodup nodup
  unfold missesCounted
  obtain ⟨before, after, split⟩ := List.append_of_mem settledMem
  rw [split, List.map_append, List.map_cons, List.nodup_append] at distinct
  obtain ⟨-, -, apart⟩ := distinct
  have earlier : ∀ q ∈ before, q.slot ≠ p.slot := fun q inside => by
    rw [← p.settle_slot]
    exact apart q.slot (List.mem_map_of_mem inside) p.settle.slot (List.mem_cons_self ..)
  have same := foldl_participants_other countMissing_other p.slot before earlier s
  have plans := foldl_keeps (fun x : State => x.plans = s.plans) (fun x p => countMissing p x)
    (fun x q h => by obtain ⟨-, -, -, -, kept, -⟩ := countMissing_frame q x; exact kept.trans h) before s rfl
  rw [split, List.foldl_append, List.foldl_cons]
  generalize before.foldl (fun x q => countMissing q x) s = x at same plans
  have counts : countMissing p.settle x = addMiss false p.slot x := by
    have misses : p.settle.state = .missing ∧ (x.probe p.settle.slot).state = .inStep := by
      rw [Participant.settle_slot, Participant.settle_missing, same]
      exact ⟨missing, state⟩
    rw [countMissing, if_pos misses, Participant.settle_slot]
  have set := addMiss_isSet_probe false (n := p.slot) (s := x) low high (by rw [same]; exact .inr state)
    (by rw [same, State.params_of_plans plans]; exact limit)
  rw [← counts] at set
  exact foldl_keeps (fun y : State => y.port.isSet .probe = true) (fun y q => countMissing q y)
    (fun y q h => (State.Grows.countMissing q y).2 .probe h) after _ set

end

theorem atJudgement_port : (atJudgement t o s).port = (missesCounted o s).port :=
  foldl_frame State.port (fun x (p : Participant) => endAssignment t p.slot x)
    (fun x p => by obtain ⟨-, -, -, -, -, -, -, -, -, -, port⟩ := endAssignment_frame t p.slot x; exact port) _ _

end

/-- A lost probe holds no assignment, so none ends. -/
theorem ProbeEntry.endAssignment_of_none {e : ProbeEntry} (t : Tag) (policy : Policy) (current : e.current = none)
    (queued : e.queued = none) : e.endAssignment t policy = e := by
  unfold ProbeEntry.endAssignment
  rw [current, queued]
  rfl

end Sys2Proof.Machine

/-! A deadline (R81 to R83): the closure it takes, the links, the Spot Queue and the entries that it moves. -/

namespace Sys2Proof.Machine

theorem exec_deadline_of_late {k : Fin 8} {turn : BitVec 4} {s : State}
    (late : s.openAt k = none ∨ s.turn k ≠ turn) : exec (.deadline k turn) s = .next s := by
  simp only [exec, execDeadline, deadlineEvent]
  rcases late with gone | other
  · rw [gone]
  · split
    · simp [other]
    · rfl

theorem exec_deadline_of_early {k : Fin 8} {turn : BitVec 4} {o : OpenStep} {s : State}
    (opened : s.openAt k = some o) (early : s.timer.fixtureTime < o.deadline) :
    exec (.deadline k turn) s = .next s := by
  simp only [exec, execDeadline, deadlineEvent, opened]
  simp [State.deadlineReached, early]

theorem exec_deadline_of_reached {k : Fin 8} {o : OpenStep} {s : State} (opened : s.openAt k = some o)
    (up : s.port.resetLow = false) (reached : o.deadline ≤ s.timer.fixtureTime) :
    exec (.deadline k (s.turn k)) s = .next (closeStep k o s) := by
  simp only [exec, execDeadline, deadlineEvent, opened]
  simp [State.deadlineReached, up, reached]

/-! ## The closure in a RUNNING part with no window open -/

/-- A closure settles its step first, so that closing the settled step is the same. -/
theorem closeStep_settled (k : Fin 8) (o : OpenStep) (s : State) :
    closeStep k o.settled s = closeStep k o s := by
  unfold closeStep
  rw [OpenStep.settled_settled]

theorem atJudgement_settled (t : Tag) (o : OpenStep) (s : State) :
    atJudgement t o.settled s = atJudgement t o s := by
  unfold atJudgement
  rw [OpenStep.settled_settled]

section
variable {k : Fin 8} {o : OpenStep} {s : State} (running : s.timer.run = .running)
  (merged : s.engine.merged = none) (free : s.engine.free = none)
include running merged free

theorem closeStep_running :
    let t := closeStep k o s
    t.plans = s.plans
      ∧ s.closureMovesLinks t o.settled (s.closureFinding o.settled)
      ∧ s.closureMovesSpot t ⟨k, s.turn k⟩ o.settled (s.closureFinding o.settled)
      ∧ t.port = (judgeClosed ⟨k, s.turn k⟩ o.settled (atJudgement ⟨k, s.turn k⟩ o s)).port := by
  have asBefore := State.JudgesAs.refl k merged free running
  obtain ⟨links, spot, port, -, -, -, plans, -⟩ := closeStep_of_judgesAs asBefore o.settled_complete
  have judges := asBefore.atJudgement ⟨k, s.turn k⟩ o.settled
  have finding := judges.closureFinding o.settled
  rw [closeStep_settled] at links spot port plans
  rw [atJudgement_settled] at judges finding port
  rw [atJudgement_settled] at links spot
  dsimp only
  refine ⟨plans, ?_, ?_, port⟩
  · rw [← finding]; exact judges.closureMovesLinks (judgeClosed_movesLinks _ _ links)
  · rw [← finding]; exact judges.closureMovesSpot (judgeClosed_movesSpot _ _ spot port)

/-- Behind the judgement no entry moves. -/
theorem closeStep_running_probe (n : Nat) :
    (closeStep k o s).probe n = (atJudgement ⟨k, s.turn k⟩ o s).probe n := by
  have closed := closed_mayHalt k o s
  obtain ⟨-, -, -, timer, registry, -⟩ :=
    freeSlot_frame k (judgeClosed ⟨k, s.turn k⟩ o.settled (atJudgement ⟨k, s.turn k⟩ o s))
  obtain ⟨-, -, -, -, -, judged, -⟩ :=
    judgeClosed_frame ⟨k, s.turn k⟩ o.settled (atJudgement ⟨k, s.turn k⟩ o s)
  have before : (beforeReport k o s).probe n = (atJudgement ⟨k, s.turn k⟩ o s).probe n :=
    State.probe_of_registry (registry.trans judged) n
  have watched : (beforeReport k o s).timer.run = .running ∨ (beforeReport k o s).timer.run = .halted := by
    rw [beforeReport, timer]
    rcases closed.run with ⟨run, -⟩ | ⟨-, halted, -⟩
    · exact .inl (run.trans running)
    · exact .inr halted
  rw [closeStep_of_quiet fun _ => ⟨merged, free⟩, ← before]
  rcases reportEmpty_of_watched watched with same | ⟨-, stopped⟩
  · rw [same]
  · rw [stopped, timerStop_probe]

theorem closeStep_isSet_probe {p : Participant} (nodup : (o.participants.map Participant.slot).Nodup)
    (mem : p ∈ o.participants) (low : 1 ≤ p.slot) (high : p.slot ≤ 18) (missing : p.state ≠ .received)
    (state : (s.probe p.slot).state = .inStep)
    (limit : s.params.missLimit.toNat ≤ satInc 8 (s.probe p.slot).missCount) :
    (closeStep k o s).port.isSet .probe = true := by
  obtain ⟨-, -, -, port⟩ := closeStep_running (k := k) (o := o) running merged free
  rw [port]
  refine (State.Grows.judgeClosed ..).2 .probe ?_
  rw [atJudgement_port]
  exact missesCounted_isSet_probe s nodup mem low high missing state limit

/-! ## A talker that does not report (R105) -/

/-- Without a report of its talker a DRIVEN step is VOID_TALKER, which no quiet check and no verdict follows. -/
theorem closeStep_voidTalker (driven : o.form = .driven) (present : o.withdrawn = false)
    (defined : s.linkDefined o.testLink = true) (generation : (s.link o.testLink).definedIn ≤ o.generation)
    (talker : ∃ p ∈ o.participants, p.role = .talker ∧ p.state = .awaited ∧ p.report = none) :
    (closeStep k o s).link o.testLink = { s.link o.testLink with
        void := satInc 16777215 (s.link o.testLink).void,
        lastObservation := some ⟨s.timer.sweepNumber, .voidTalker, none⟩ }
      ∧ ∀ id, id ≠ o.testLink → (closeStep k o s).link id = s.link id := by
  obtain ⟨p, mem, role, awaited, silent⟩ := talker
  have failed : talkerFailed o.settled.participants = true := by
    rw [talkerFailed_iff]
    refine ⟨p.settle, List.mem_map_of_mem mem, ?_, ?_⟩
    · rw [Participant.settle, if_pos awaited]; exact role
    · rw [Participant.settle, if_pos awaited]
      dsimp only
      rw [silent]
      exact Option.some_ne_none _ |>.symm
  have finding : s.closureFinding o.settled = ⟨.voidTalker, none, none⟩ :=
    (State.closureFinding_of_driven (o := o.settled)
      ((s.redefined_eq_false _ _).2 ⟨defined, generation⟩) driven).trans (State.judgeDriven_of_talker failed)
  obtain ⟨-, ⟨others, -, judged, -⟩, -⟩ := closeStep_running (k := k) (o := o) running merged free
  rw [finding] at others judged
  have unchecked (id : Nat) : ¬ ((o.settled.form = .driven ∧ TestOutcome.voidTalker ≠ .voidTalker)
      ∧ ∃ q ∈ o.settled.participants, q.role = .quiet ∧ q.quietLink = some id) :=
    fun wrong => wrong.1.2 rfl
  refine ⟨?_, fun id other => others id (unchecked id) other⟩
  have own := judged (unchecked _) (by decide) present
  rw [LinkRecord.judged_of_void] at own
  · exact own
  · rfl

end

theorem ProbeEntry.missed_of_limit {e : ProbeEntry} {limit : Nat} {policy : Policy} (state : e.state = .inStep)
    (reached : limit ≤ satInc 8 e.missCount) :
    e.missed limit policy
      = { ({ e with missCount := satInc 8 e.missCount } : ProbeEntry).clearAssignments policy with
          state := .lost } := by
  unfold ProbeEntry.missed
  dsimp only
  rw [if_pos ⟨.inr state, reached⟩, if_pos state]
  unfold ProbeEntry.clearAssignments ProbeEntry.dropQueued
  dsimp only
  split <;> rfl

theorem ProbeEntry.missed_below {e : ProbeEntry} {limit : Nat} {policy : Policy}
    (below : satInc 8 e.missCount < limit) :
    e.missed limit policy = { e with missCount := satInc 8 e.missCount } := by
  unfold ProbeEntry.missed
  dsimp only
  exact if_neg fun wrong => by omega

/-- Settles O54: the closure of the settled step, its links and Spot Queue by the judgement in the state before it, its
participants' entries by the fold over them. -/
theorem deadlineClosesTheStep : Obligations.DeadlineClosesTheStep := by
  unfold Obligations.DeadlineClosesTheStep
  refine fun k turn s => ⟨fun o opened same up reached quiet => ?closes, fun late => exec_deadline_of_late late,
    fun o opened early => exec_deadline_of_early opened early⟩
  subst same
  obtain ⟨-, -, -, store⟩ := closeStep_frame k o s
  refine ⟨closeStep k o s, exec_deadline_of_reached opened up reached, ?empties, fun j other => ?others,
    fun j => closeStep_turn quiet j, store, fun running driven present defined generation talker => ?talker,
    fun running => ?running⟩
  case empties => rw [closeStep_openAt quiet, if_pos rfl]
  case others => rw [closeStep_openAt quiet, if_neg (Ne.symm other)]
  case talker =>
    obtain ⟨merged, free⟩ := quiet running
    obtain ⟨own, rest⟩ :=
      closeStep_voidTalker (k := k) running merged free driven present defined generation talker
    exact ⟨own, rest, (closeStep_running running merged free).1⟩
  case running =>
    obtain ⟨merged, free⟩ := quiet running
    obtain ⟨plans, links, spot, -⟩ := closeStep_running (k := k) (o := o) running merged free
    refine ⟨plans, links, spot, fun n absent => ?absent, fun nodup p mem low high =>
      ⟨p.state ≠ .received ∧ (s.probe p.slot).state = .inStep,
        if p.state ≠ .received ∧ (s.probe p.slot).state = .inStep then
          { s.probe p.slot with missCount := satInc 8 (s.probe p.slot).missCount }
        else s.probe p.slot, Iff.rfl, fun missed => if_pos missed, fun kept => if_neg kept,
        fun missed limit => ⟨?lost, ?flag⟩, fun below => ?below⟩⟩
    case absent => rw [closeStep_running_probe running merged free, atJudgement_probe_other _ s absent]
    case lost =>
      rw [if_pos missed] at limit ⊢
      rw [closeStep_running_probe running merged free, atJudgement_probe _ s nodup mem low high,
        ProbeEntry.counted, if_pos missed, ProbeEntry.missed_of_limit missed.2 limit]
      obtain ⟨current, queued, -⟩ := ProbeEntry.clearAssignments_fields
        { s.probe p.slot with missCount := satInc 8 (s.probe p.slot).missCount } (s.params.policy p.slot)
      exact ProbeEntry.endAssignment_of_none _ _ current queued
    case flag =>
      rw [if_pos missed] at limit
      exact closeStep_isSet_probe running merged free nodup mem low high missed.1 missed.2 limit
    case below =>
      rw [closeStep_running_probe running merged free, atJudgement_probe _ s nodup mem low high,
        ProbeEntry.counted]
      by_cases missed : p.state ≠ .received ∧ (s.probe p.slot).state = .inStep
      · have few := below.resolve_left (not_not_intro missed)
        rw [if_pos missed] at few
        rw [if_pos missed, if_pos missed, ProbeEntry.missed_below few]
      · rw [if_neg missed, if_neg missed]

end Sys2Proof.Machine

/-! What follows a message that has changed its sender (R38, R54, R134): a capture loses a probe that has left
SYNCING, an exit from IN_STEP clears the assignments and is watched for the quorum, and the heads are examined. -/

namespace Sys2Proof.Machine

/-! ## A capture loses its probe (R134) -/

theorem endCapture_probe (s : State) (m : Nat) : (endCapture s).probe m = s.probe m := by
  unfold endCapture
  dsimp only
  split <;> rfl

theorem endCapture_portState (s : State) (m : Nat) : (endCapture s).portState m = s.portState m := by
  unfold endCapture
  dsimp only
  split <;> rfl

theorem leaveSyncing_probe (n : Nat) (s : State) (m : Nat) : (leaveSyncing n s).probe m = s.probe m := by
  unfold leaveSyncing
  split
  · rw [finishCapture_eq_endCapture, endCapture_probe]; rfl
  · rfl

theorem leaveSyncing_portState (n : Nat) (s : State) (m : Nat) :
    (leaveSyncing n s).portState m = s.portState m := by
  unfold leaveSyncing
  split
  · rw [finishCapture_eq_endCapture, endCapture_portState]; rfl
  · rfl

theorem leaveSyncing_of_unawaited {n : Nat} {s : State} (h : s.registry.session.awaits n = false) :
    leaveSyncing n s = s :=
  if_neg (Bool.eq_false_iff.1 h)

/-- What a capture becomes, at the end `t` of a message, when the probe of slot `n` has left SYNCING: its entry has
LEFT_SYNCING, and the capture ends unless another entry is outstanding. -/
structure State.CaptureLost (s t : State) (n : Nat) : Prop where
  captures : t.registry.session.captures = s.registry.session.captures.map fun c =>
    if c.slot = n then ⟨c.slot, false, some (.failed .leftSyncing)⟩ else c
  selection : t.registry.session.selection = s.registry.session.selection
  goesOn : (∃ c ∈ s.registry.session.captures, c.slot ≠ n ∧ c.outstanding = true) →
    t.registry.session.state = .capturing ∧ t.registry.session.deadline = s.registry.session.deadline
  ends : (∀ c ∈ s.registry.session.captures, c.slot ≠ n → c.outstanding = false) →
    t.registry.session.state = .held ∧ t.registry.session.deadline = none ∧ t.port.isSet .cal = true

theorem State.CaptureLost.congr {s s' t t' : State} {n : Nat} (h : s.CaptureLost t n)
    (before : s'.registry.session = s.registry.session) (after : t'.registry.session = t.registry.session)
    (flag : t.port.isSet .cal = true → t'.port.isSet .cal = true) : s'.CaptureLost t' n where
  captures := by rw [before, after]; exact h.captures
  selection := by rw [before, after]; exact h.selection
  goesOn := by rw [before, after]; exact h.goesOn
  ends := by
    rw [before, after]
    intro last
    obtain ⟨held, deadline, cal⟩ := h.ends last
    exact ⟨held, deadline, flag cal⟩

theorem leaveSyncing_captureLost {n : Nat} {s : State} (awaited : s.registry.session.awaits n = true) :
    s.CaptureLost (leaveSyncing n s) n := by
  have waiting := State.fillCapture_waiting s n (.failed .leftSyncing)
  have taken : leaveSyncing n s = endCapture (s.fillCapture n (.failed .leftSyncing)) := if_pos awaited
  rw [taken]
  by_cases others : ∃ c ∈ s.registry.session.captures, c.slot ≠ n ∧ c.outstanding = true
  · have outstanding : ¬ ∀ c ∈ s.registry.session.captures, c.slot ≠ n → c.outstanding = false := by
      simpa using others
    rw [endCapture_of_waiting (waiting.2 others)]
    exact ⟨rfl, rfl, fun _ => ⟨(Session.awaits_iff.1 awaited).1, rfl⟩, fun last => absurd last outstanding⟩
  · rw [endCapture_of_ended (Bool.eq_false_iff.2 (mt waiting.1 others))]
    exact ⟨rfl, rfl, fun outstanding => absurd outstanding others, fun _ => ⟨rfl, rfl, raise_isSet ..⟩⟩

/-! ## The registry through an exit from IN_STEP -/

theorem quorumWatch_session (b : Bool) (s : State) :
    (quorumWatch b s).registry.session = s.registry.session := by
  obtain ⟨-, -, -, -, halted, -⟩ := enterHalted_frame s
  unfold quorumWatch
  dsimp only
  (repeat' split)
  · rw [timerStop, parkAll_session]
    obtain ⟨-, -, -, ended, -⟩ := endSweep_frame (enterHalted s)
    rw [ended, halted]
  · rw [halted]
  · rfl

theorem leaveInStep_session (b : Bool) (n : Nat) (s : State) :
    (leaveInStep b n s).registry.session = s.registry.session := by
  rw [leaveInStep, quorumWatch_session]
  rfl

theorem examine_session (s : State) : (examine s).registry.session = s.registry.session := by
  obtain ⟨-, -, -, -, -, session⟩ := examine_onlyStarts s
  exact session

/-- Cleared assignments move no field of an entry but the two assignments and the policy. -/
theorem ProbeEntry.clearAssignments_eq (e : ProbeEntry) (policy : Policy) :
    e.clearAssignments policy = { e with
      current := none, queued := none, policy := (e.clearAssignments policy).policy } := by
  unfold ProbeEntry.clearAssignments ProbeEntry.dropQueued
  split
  · rfl
  · next empty =>
    have queued : e.queued = none := by simpa using empty
    rw [← queued]

/-! ## The change of a probe -/

section
variable (n : Nat) (before : ProbeEntry) (s : State)

/-- The state once a capture has lost a probe that left SYNCING. -/
def captureChecked : State :=
  if before.state = .syncing ∧ (s.probe n).state ≠ .syncing then leaveSyncing n s else s

theorem captureChecked_probe (m : Nat) : (captureChecked n before s).probe m = s.probe m := by
  unfold captureChecked
  split
  · exact leaveSyncing_probe n s m
  · rfl

theorem captureChecked_portState (m : Nat) : (captureChecked n before s).portState m = s.portState m := by
  unfold captureChecked
  split
  · exact leaveSyncing_portState n s m
  · rfl

theorem captureChecked_frame :
    (captureChecked n before s).timer = s.timer ∧ (captureChecked n before s).engine = s.engine
      ∧ (captureChecked n before s).links = s.links ∧ (captureChecked n before s).spot = s.spot
      ∧ (captureChecked n before s).router = s.router ∧ (captureChecked n before s).plans = s.plans
      ∧ (captureChecked n before s).store = s.store := by
  unfold captureChecked
  split
  · obtain ⟨-, -, -, timer, engine, links, spot, router, plans, store⟩ := leaveSyncing_frame n s
    exact ⟨timer, engine, links, spot, router, plans, store⟩
  · exact ⟨rfl, rfl, rfl, rfl, rfl, rfl, rfl⟩

variable {n before s}

theorem captureChecked_of_kept (h : before.state ≠ .syncing ∨ (s.probe n).state = .syncing) :
    captureChecked n before s = s :=
  if_neg fun wrong => h.elim (fun other => other wrong.1) wrong.2

/-- An exit from IN_STEP (R54). -/
theorem probeChanged_of_exit (inStep : before.state = .inStep) (out : (s.probe n).state ≠ .inStep) :
    probeChanged n before s = examine (leaveInStep false n s) := by
  have notSyncing : before.state ≠ .syncing := by rw [inStep]; decide
  unfold probeChanged
  dsimp only
  rw [if_pos (.inl ⟨inStep, out⟩), if_pos ⟨inStep, out⟩, if_neg fun wrong => notSyncing wrong.1]

/-- Any other change: the heads are examined when the power flags have changed. -/
theorem probeChanged_of_no_exit (h : before.state ≠ .inStep ∨ (s.probe n).state = .inStep) :
    probeChanged n before s = captureChecked n before s
      ∨ probeChanged n before s = examine (captureChecked n before s) := by
  have noExit : ¬ (before.state = .inStep ∧ (s.probe n).state ≠ .inStep) :=
    fun wrong => h.elim (fun other => other wrong.1) wrong.2
  unfold probeChanged
  dsimp only
  rw [if_neg noExit]
  split
  · exact .inr rfl
  · exact .inl rfl

variable (n before s)

/-- A case split on the change that leaves it as one of three known states. -/
theorem probeChanged_cases :
    (before.state = .inStep ∧ (s.probe n).state ≠ .inStep
        ∧ probeChanged n before s = examine (leaveInStep false n s))
      ∨ ((before.state ≠ .inStep ∨ (s.probe n).state = .inStep)
        ∧ (probeChanged n before s = captureChecked n before s
          ∨ probeChanged n before s = examine (captureChecked n before s))) := by
  by_cases exit : before.state = .inStep ∧ (s.probe n).state ≠ .inStep
  · exact .inl ⟨exit.1, exit.2, probeChanged_of_exit exit.1 exit.2⟩
  · have noExit : before.state ≠ .inStep ∨ (s.probe n).state = .inStep := by
      by_cases inStep : before.state = .inStep
      · exact .inr (not_not.1 fun out => exit ⟨inStep, out⟩)
      · exact .inl inStep
    exact .inr ⟨noExit, probeChanged_of_no_exit noExit⟩

/-- No entry changes but in its assignments and its policy. -/
theorem probeChanged_probe (m : Nat) :
    (probeChanged n before s).probe m = { s.probe m with
      current := ((probeChanged n before s).probe m).current
      queued := ((probeChanged n before s).probe m).queued
      policy := ((probeChanged n before s).probe m).policy } := by
  rcases probeChanged_cases n before s with ⟨-, -, exit⟩ | ⟨-, same | examined⟩
  · obtain ⟨entries, -⟩ := examine_onlyStarts (leaveInStep false n s)
    rw [exit, entries, leaveInStep_probe]
    split
    · rw [ProbeEntry.clearAssignments_eq]
    · rfl
  · rw [same, captureChecked_probe]
  · obtain ⟨entries, -⟩ := examine_onlyStarts (captureChecked n before s)
    rw [examined, entries, captureChecked_probe]

theorem probeChanged_session :
    (probeChanged n before s).registry.session = (captureChecked n before s).registry.session := by
  rcases probeChanged_cases n before s with ⟨inStep, -, exit⟩ | ⟨-, same | examined⟩
  · rw [exit, examine_session, leaveInStep_session,
      captureChecked_of_kept (.inl (by rw [inStep]; decide))]
  · rw [same]
  · rw [examined, examine_session]

theorem captureChecked_grows_probeChanged : (captureChecked n before s).Grows (probeChanged n before s) := by
  rcases probeChanged_cases n before s with ⟨inStep, -, exit⟩ | ⟨-, same | examined⟩
  · rw [exit, captureChecked_of_kept (.inl (by rw [inStep]; decide))]
    exact (State.Grows.leaveInStep ..).trans (.examine _)
  · rw [same]; exact .refl _
  · rw [examined]; exact .examine _

variable {n before s}

/-- A probe that is not IN_STEP after the change holds what it held, or nothing when it was. -/
theorem probeChanged_probe_own (low : 1 ≤ n) (high : n ≤ 18) (out : (s.probe n).state ≠ .inStep) :
    (probeChanged n before s).probe n
      = if before.state = .inStep then (s.probe n).clearAssignments (s.params.policy n) else s.probe n := by
  rcases probeChanged_cases n before s with ⟨inStep, -, exit⟩ | ⟨noExit, rest⟩
  · obtain ⟨-, others, -⟩ := examine_onlyStarts (leaveInStep false n s)
    have left : (leaveInStep false n s).probe n = (s.probe n).clearAssignments (s.params.policy n) := by
      rw [leaveInStep_probe, if_pos ⟨rfl, low, high⟩]
    rw [exit, (others n (by rw [left, ProbeEntry.clearAssignments_eq]; exact out)).1, left, if_pos inStep]
  · rw [if_neg (noExit.resolve_right out)]
    rcases rest with same | examined
    · rw [same, captureChecked_probe]
    · obtain ⟨-, others, -⟩ := examine_onlyStarts (captureChecked n before s)
      rw [examined, (others n (by rw [captureChecked_probe]; exact out)).1, captureChecked_probe]

/-- The capture of a probe that has left SYNCING, at the end of the message. -/
theorem probeChanged_captureLost (syncing : before.state = .syncing) (left : (s.probe n).state ≠ .syncing)
    (awaited : s.registry.session.awaits n = true) : s.CaptureLost (probeChanged n before s) n := by
  have checked : captureChecked n before s = leaveSyncing n s := if_pos ⟨syncing, left⟩
  refine (leaveSyncing_captureLost awaited).congr rfl ?_ ?_
  · rw [probeChanged_session, checked]
  · rw [← checked]; exact (captureChecked_grows_probeChanged n before s).2 .cal

theorem probeChanged_session_kept
    (h : before.state ≠ .syncing ∨ (s.probe n).state = .syncing ∨ s.registry.session.awaits n = false) :
    (probeChanged n before s).registry.session = s.registry.session := by
  rw [probeChanged_session]
  by_cases left : before.state = .syncing ∧ (s.probe n).state ≠ .syncing
  · have unawaited := (h.resolve_left (not_not_intro left.1)).resolve_left left.2
    rw [captureChecked, if_pos left, leaveSyncing_of_unawaited unawaited]
  · rw [captureChecked, if_neg left]

/-! ## With the run STOPPED -/

section
variable (stopped : s.timer.run = .stopped)
include stopped

/-- With the run STOPPED neither the quorum nor a head is looked at. -/
theorem probeChanged_of_stopped :
    probeChanged n before s = captureChecked n before s
      ∨ probeChanged n before s = s.mapProbe n fun e => e.clearAssignments (s.params.policy n) := by
  have idle (x : State) (timer : x.timer = s.timer) : examine x = x :=
    examine_of_not_running (by rw [timer, stopped]; decide)
  obtain ⟨timer, -⟩ := captureChecked_frame n before s
  rcases probeChanged_cases n before s with ⟨-, -, exit⟩ | ⟨-, same | examined⟩
  · have unwatched : leaveInStep false n s = s.mapProbe n fun e => e.clearAssignments (s.params.policy n) :=
      quorumWatch_of_not_watched _
        (s := s.mapProbe n fun e => e.clearAssignments (s.params.policy n)) (by
          have run : (s.mapProbe n fun e => e.clearAssignments (s.params.policy n)).timer.run = .stopped := stopped
          rw [run]; rfl)
    rw [exit, unwatched, idle (s.mapProbe n _) rfl]
    exact .inr rfl
  · exact .inl same
  · rw [examined, idle _ timer]
    exact .inl rfl

theorem probeChanged_frame_stopped :
    (probeChanged n before s).timer = s.timer ∧ (probeChanged n before s).engine = s.engine
      ∧ (probeChanged n before s).links = s.links ∧ (probeChanged n before s).spot = s.spot
      ∧ (probeChanged n before s).router = s.router
      ∧ (∀ m, (probeChanged n before s).portState m = s.portState m)
      ∧ ∀ m, m ≠ n → (probeChanged n before s).probe m = s.probe m := by
  rcases probeChanged_of_stopped (n := n) (before := before) stopped with same | cleared
  · obtain ⟨timer, engine, links, spot, router, -⟩ := captureChecked_frame n before s
    rw [same]
    exact ⟨timer, engine, links, spot, router, captureChecked_portState n before s,
      fun m _ => captureChecked_probe n before s m⟩
  · rw [cleared]
    refine ⟨rfl, rfl, rfl, rfl, rfl, fun _ => rfl, fun m other => ?_⟩
    rw [State.probe_mapProbe, if_neg fun wrong => other wrong.1.symm]

theorem probeChanged_port_stopped (kept : before.state ≠ .syncing ∨ (s.probe n).state = .syncing) :
    (probeChanged n before s).port = s.port := by
  rcases probeChanged_of_stopped (n := n) (before := before) stopped with same | cleared
  · rw [same, captureChecked_of_kept kept]
  · rw [cleared]; rfl

end
end

end Sys2Proof.Machine

/-! HELLO (R47, R54, R134, R176): the entry it registers, the SETUP it calls for, and the capture that loses the
probe. -/

namespace Sys2Proof.Machine

theorem codeChecks_iff (code : Byte) : codeChecks code = true ↔ code.toNat ≤ 31 := by
  simp [codeChecks]

theorem codeChecks_of_beyond {code : Byte} (beyond : 31 < code.toNat) : codeChecks code = false := by
  rw [← Bool.not_eq_true, codeChecks_iff]; omega

/-! ## The entry registered -/

/-- The Probe Table behind the fields of a HELLO. -/
def helloNoted (n : Nat) (serial : Word) (code power : Byte) (s : State) : State :=
  (hearProbe n s).mapProbe n fun e => e.registered n (s.params.policy n) serial code power

/-- The state in which a HELLO has made its sender UNCONFIGURED and has called for SETUP. -/
def helloRegistered (n : Nat) (serial : Word) (code power : Byte) (s : State) : State :=
  helloSetup n (changeState n .unconfigured (helloNoted n serial code power s))

theorem exec_hello_of_checked (port : Port) (serial : Word) {code : Byte} (power : Byte) {s : State}
    (up : s.port.resetLow = false) (checks : code.toNat ≤ 31) :
    exec (.hello port serial code power) s
      = .next (probeChanged (slotOf port) (s.probe (slotOf port))
          (helloRegistered (slotOf port) serial code power s)) :=
  congrArg Host.Outcome.next (by
    rw [(codeChecks_iff code).2 checks, receive_admitted _ _ _ up rfl]
    rfl)

theorem exec_hello_of_beyond (port : Port) (serial : Word) {code : Byte} (power : Byte) {s : State}
    (up : s.port.resetLow = false) (beyond : 31 < code.toNat) :
    exec (.hello port serial code power) s = .next (discardFrame (slotOf port) s) :=
  congrArg Host.Outcome.next (by rw [codeChecks_of_beyond beyond, receive_discarded _ _ _ up])

theorem helloSetup_probe (n m : Nat) (s : State) :
    (helloSetup n s).probe m
      = if n = m ∧ 1 ≤ m ∧ m ≤ 18 then { s.probe m with setupOutstanding := true } else s.probe m := by
  unfold helloSetup
  split
  · rw [State.withStore_probe, State.probe_mapProbe]
  · exact sendSetup_probe n m s

theorem helloSetup_session (n : Nat) (s : State) :
    (helloSetup n s).registry.session = s.registry.session := by
  unfold helloSetup
  split <;> rfl

/-- The SETUP is sent to the slot's port alone, outside start-up. -/
theorem helloSetup_portState (n m : Nat) (s : State) :
    (helloSetup n s).portState m
      = if s.starting = false ∧ n = m ∧ 1 ≤ m ∧ m ≤ 18 then
          (s.portState m).hand (.setup (s.params.policy n) s.params.parkMode)
        else s.portState m := by
  unfold helloSetup
  split
  · next starting => rw [if_neg (by simp [starting])]; rfl
  · next set =>
    rw [sendSetup_portState]
    simp [set]

/-- During start-up it is held back. -/
theorem helloSetup_store (n : Nat) (s : State) :
    (helloSetup n s).store
      = if s.starting = true then { s.store with held := s.store.held ++ [.setup n] } else s.store := by
  unfold helloSetup
  split <;> rfl

section
variable (n : Nat) (serial : Word) (code power : Byte) (s : State)

theorem helloRegistered_frame :
    (helloRegistered n serial code power s).timer = s.timer
      ∧ (helloRegistered n serial code power s).engine = s.engine
      ∧ (helloRegistered n serial code power s).links = s.links
      ∧ (helloRegistered n serial code power s).spot = s.spot
      ∧ (helloRegistered n serial code power s).plans = s.plans := by
  obtain ⟨-, -, -, timer, engine, links, spot, -, plans, -⟩ :=
    helloSetup_frame n (changeState n .unconfigured (helloNoted n serial code power s))
  obtain ⟨-, -, -, timer', engine', links', spot', plans', -⟩ :=
    changeState_frame n .unconfigured (helloNoted n serial code power s)
  exact ⟨timer.trans timer', engine.trans engine', links.trans links', spot.trans spot', plans.trans plans'⟩

theorem helloRegistered_session :
    (helloRegistered n serial code power s).registry.session = s.registry.session := by
  rw [helloRegistered, helloSetup_session, changeState_session]
  rfl

theorem helloRegistered_other (m : Nat) (other : m ≠ n) :
    (helloRegistered n serial code power s).probe m = s.probe m := by
  have apart : ¬ (n = m ∧ 1 ≤ m ∧ m ≤ 18) := fun wrong => other wrong.1.symm
  rw [helloRegistered, helloSetup_probe, if_neg apart, changeState_probe, if_neg apart, helloNoted,
    State.probe_mapProbe, if_neg apart, hearProbe_probe]

theorem helloNoted_probe {n : Nat} (low : 1 ≤ n) (high : n ≤ 18) :
    (helloNoted n serial code power s).probe n
      = (s.probe n).registered n (s.params.policy n) serial code power := by
  rw [helloNoted, State.probe_mapProbe_same _ _ _ low high, hearProbe_probe]

/-- The entry of the sender (R47): what HELLO does not name is kept, and the assignments are dropped. -/
theorem helloRegistered_probe {n : Nat} (low : 1 ≤ n) (high : n ≤ 18) :
    ∃ policy, (helloRegistered n serial code power s).probe n = { s.probe n with
      state := .unconfigured, serial := some serial, geoCode := some code, codeMismatch := code.toNat != n,
      codeChanged := false, mainPower := power.getLsbD 0, auxPower := power.getLsbD 1, fault := none,
      current := none, queued := none, outstanding := none, syncCount := 0, missCount := 0,
      setupOutstanding := true, policy := policy } := by
  refine ⟨((s.probe n).clearAssignments (s.params.policy n)).policy, ?_⟩
  rw [helloRegistered, helloSetup_probe, if_pos ⟨rfl, low, high⟩, changeState_probe,
    if_pos ⟨rfl, low, high⟩, helloNoted_probe _ _ _ _ low high, ProbeEntry.registered,
    ProbeEntry.clearAssignments_eq]
  rfl

/-- The entry of the sender at the end of the message. -/
theorem hello_probe {n : Nat} (low : 1 ≤ n) (high : n ≤ 18) (before : ProbeEntry) :
    ∃ policy, (probeChanged n before (helloRegistered n serial code power s)).probe n = { s.probe n with
      state := .unconfigured, serial := some serial, geoCode := some code, codeMismatch := code.toNat != n,
      codeChanged := false, mainPower := power.getLsbD 0, auxPower := power.getLsbD 1, fault := none,
      current := none, queued := none, outstanding := none, syncCount := 0, missCount := 0,
      setupOutstanding := true, policy := policy } := by
  obtain ⟨policy, entry⟩ := helloRegistered_probe serial code power s low high
  have out : ((helloRegistered n serial code power s).probe n).state ≠ .inStep := by
    rw [entry]; exact fun wrong => nomatch wrong
  rw [probeChanged_probe_own low high out]
  split
  · rw [ProbeEntry.clearAssignments_eq, entry]
    exact ⟨_, rfl⟩
  · exact ⟨policy, entry⟩

theorem helloRegistered_portState_other (m : Nat) (other : m ≠ n) :
    (helloRegistered n serial code power s).portState m = s.portState m := by
  have heard : (helloNoted n serial code power s).portState m = (hearProbe n s).portState m := rfl
  rw [helloRegistered, helloSetup_portState, if_neg fun wrong => other wrong.2.1.symm, changeState_portState,
    heard, hearProbe_portState, if_neg fun wrong => other wrong.1.symm]

theorem helloRegistered_portState {n : Nat} (low : 1 ≤ n) (high : n ≤ 18) :
    (helloRegistered n serial code power s).portState n
      = if s.starting = false then
          { s.portState n with lastFrame := some .probe }.hand (.setup (s.params.policy n) s.params.parkMode)
        else { s.portState n with lastFrame := some .probe } := by
  have heard : (helloNoted n serial code power s).portState n = (hearProbe n s).portState n := rfl
  obtain ⟨-, -, -, -, -, -, -, plans, store⟩ :=
    changeState_frame n .unconfigured (helloNoted n serial code power s)
  have starting : (changeState n .unconfigured (helloNoted n serial code power s)).starting = s.starting := by
    rw [State.starting, store]; rfl
  have params : (changeState n .unconfigured (helloNoted n serial code power s)).params = s.params :=
    State.params_of_plans plans
  have own : n = n ∧ 1 ≤ n ∧ n ≤ 18 := ⟨rfl, low, high⟩
  rw [helloRegistered, helloSetup_portState, changeState_portState, heard, hearProbe_portState, if_pos own,
    starting, params]
  simp only [low, high, and_self, and_true]

theorem helloRegistered_store :
    (helloRegistered n serial code power s).store
      = if s.starting = true then { s.store with held := s.store.held ++ [.setup n] } else s.store := by
  obtain ⟨-, -, -, -, -, -, -, -, store⟩ :=
    changeState_frame n .unconfigured (helloNoted n serial code power s)
  have starting : (changeState n .unconfigured (helloNoted n serial code power s)).starting = s.starting := by
    rw [State.starting, store]; rfl
  rw [helloRegistered, helloSetup_store, starting, store]
  rfl

/-! ## The PROBE record (R56) -/

section
variable {n : Nat} {serial code power s} (low : 1 ≤ n) (high : n ≤ 18)
include low high

theorem helloNoted_probe_state : ((helloNoted n serial code power s).probe n).state = (s.probe n).state := by
  rw [helloNoted_probe _ _ _ _ low high, ProbeEntry.registered, ProbeEntry.clearAssignments_eq]

theorem helloRegistered_of_unconfigured (same : (s.probe n).state = .unconfigured) :
    (helloRegistered n serial code power s).router = s.router
      ∧ (helloRegistered n serial code power s).port = s.port := by
  have kept : changeState n .unconfigured (helloNoted n serial code power s)
      = helloNoted n serial code power s :=
    changeState_of_same ((helloNoted_probe_state low high).trans same)
  obtain ⟨-, -, -, -, -, -, -, router, -, port⟩ := helloSetup_frame n (helloNoted n serial code power s)
  rw [helloRegistered, kept]
  exact ⟨router, port⟩

theorem helloRegistered_of_change (other : (s.probe n).state ≠ .unconfigured) :
    (helloRegistered n serial code power s).port.isSet .probe = true
      ∧ (helloRegistered n serial code power s).router
        = (hand { ResultRecord.blank .probe s.timer.sweepNumber s.timer.sweepTime with
            slot := some n, newState := some .unconfigured } s).router := by
  have changes : ((helloNoted n serial code power s).probe n).state ≠ .unconfigured := by
    rw [helloNoted_probe_state low high]; exact other
  obtain ⟨-, -, -, -, -, -, -, router, -, port⟩ :=
    helloSetup_frame n (changeState n .unconfigured (helloNoted n serial code power s))
  refine ⟨?_, ?_⟩
  · rw [helloRegistered, port]
    exact changeState_isSet_probe changes
  · rw [helloRegistered, router, changeState, if_neg changes]
    exact hand_router_congr _ rfl rfl

end
end

/-- Settles O43: the entry and the SETUP of the registration, then what follows the change of a probe. -/
theorem helloRegistersTheProbe : Obligations.HelloRegistersTheProbe := by
  unfold Obligations.HelloRegistersTheProbe
  refine fun port serial code power s up => ⟨fun checks => ?taken, fun beyond => ?discarded⟩
  case discarded => rw [exec_hello_of_beyond port serial power up beyond, discardFrame_eq]
  case taken =>
    obtain ⟨low, high⟩ := slotOf_bounds port
    obtain ⟨policy, entry⟩ := hello_probe serial code power s low high (s.probe (slotOf port))
    obtain ⟨timer, engine, links, spot, plans⟩ := helloRegistered_frame (slotOf port) serial code power s
    have session := helloRegistered_session (slotOf port) serial code power s
    obtain ⟨-, -, -, keptPlans, keptStore⟩ := probeChanged_frame (slotOf port) (s.probe (slotOf port))
      (helloRegistered (slotOf port) serial code power s)
    obtain ⟨policyNow, registered⟩ := helloRegistered_probe serial code power s low high
    have notSyncing :
        ((helloRegistered (slotOf port) serial code power s).probe (slotOf port)).state ≠ .syncing := by
      rw [registered]; exact fun wrong => nomatch wrong
    refine ⟨_, exec_hello_of_checked port serial power up checks, by rw [entry], by rw [entry], by rw [entry],
      by rw [entry], by rw [entry], by rw [entry], by rw [entry], by rw [entry], by rw [entry], by rw [entry],
      by rw [entry], by rw [entry], by rw [entry], by rw [entry], by rw [entry], by rw [entry], by rw [entry],
      keptPlans.trans plans, fun syncing awaited => ?lost, fun kept => ?session, fun stopped => ?stopped⟩
    case lost =>
      have lost := (probeChanged_captureLost syncing notSyncing (by rw [session]; exact awaited)).congr
        (s' := s) session.symm rfl id
      exact ⟨lost.captures, lost.selection, lost.goesOn, lost.ends⟩
    case session =>
      refine (probeChanged_session_kept ?_).trans session
      rw [session]
      exact kept.imp_right .inr
    case stopped =>
      have stays : (helloRegistered (slotOf port) serial code power s).timer.run = .stopped := by
        rw [timer]; exact stopped
      obtain ⟨timer', engine', links', spot', router', ports, others⟩ :=
        probeChanged_frame_stopped (n := slotOf port) (before := s.probe (slotOf port)) stays
      refine ⟨timer'.trans timer, engine'.trans engine, links'.trans links, spot'.trans spot,
        fun n other => ⟨?_, ?_⟩, fun set => ⟨?_, ?_⟩, fun starting => ⟨?_, ?_⟩, fun changes => ⟨?_, ?_⟩,
        fun same => ⟨?_, ?_⟩⟩
      · rw [others n other, helloRegistered_other _ _ _ _ _ n other]
      · rw [ports, helloRegistered_portState_other _ _ _ _ _ n other]
      · rw [keptStore, helloRegistered_store, if_neg (by simp [set])]
      · rw [ports, helloRegistered_portState _ _ _ _ low high, if_pos set]
      · rw [keptStore, helloRegistered_store, if_pos starting]
      · rw [ports, helloRegistered_portState _ _ _ _ low high, if_neg (by simp [starting])]
      · exact (probeChanged_grows ..).2 .probe (helloRegistered_of_change low high changes).1
      · rw [router', (helloRegistered_of_change low high changes).2]
      · rw [router', (helloRegistered_of_unconfigured low high same).1]
      · have notFromSyncing : (s.probe (slotOf port)).state ≠ .syncing := by rw [same]; decide
        rw [probeChanged_port_stopped stays (.inl notFromSyncing),
          (helloRegistered_of_unconfigured low high same).2]

end Sys2Proof.Machine

/-! The quorum (R36, R38): what a halt raises and sends, and when the comparison halts the run. -/

namespace Sys2Proof.Machine

/-! ## Entry into HALTED (R36) -/

theorem enterHalted_isSet_run (s : State) : (enterHalted s).port.isSet .run = true := raise_isSet ..

theorem enterHalted_isSet_health {s : State} (other : s.timer.health ≠ .severe) :
    (enterHalted s).port.isSet .health = true := by
  have raised : (setHealth .severe s).port.isSet .health = true := by
    rw [setHealth_isSet]
    simp [other]
  exact (State.Grows.raise .run ((setHealth .severe s).setRun .halted)).2 .health raised

theorem enterHalted_tableEmpty (s : State) : (enterHalted s).tableEmpty = s.tableEmpty := by
  obtain ⟨-, -, -, engine, -⟩ := enterHalted_frame s
  exact State.tableEmpty_of_table (by rw [engine])

theorem enterHalted_registry (s : State) : (enterHalted s).registry = s.registry := by
  obtain ⟨-, -, -, -, registry, -⟩ := enterHalted_frame s
  exact registry

theorem enterHalted_plans (s : State) : (enterHalted s).plans = s.plans := by
  obtain ⟨-, -, -, -, -, -, -, -, plans, -⟩ := enterHalted_frame s
  exact plans

/-- PARK at the timer's stop reaches every probe that is not ABSENT (R36, R39). -/
theorem timerStop_portState (s : State) {n : Nat} (low : 1 ≤ n) (high : n ≤ 18) :
    (timerStop s).portState n
      = if (s.probe n).state = .absent then s.portState n
        else (s.portState n).hand (.park s.params.parkMode) := by
  obtain ⟨-, -, -, registry, -, plans, -⟩ := endSweep_frame s
  rw [timerStop, parkAll_portState, State.probe_of_registry registry, State.portState_of_registry registry,
    State.params_of_plans plans]
  by_cases absent : (s.probe n).state = .absent <;> simp [absent, low, high]

/-! ## The comparison (R38) -/

theorem RunState.watchesQuorum_iff (r : RunState) : r.watchesQuorum = true ↔ r = .running ∨ r = .pausing := by
  cases r <;> simp [RunState.watchesQuorum]

section
variable {s : State} (watches : s.timer.run = .running ∨ s.timer.run = .pausing)

theorem quorumWatch_of_quorate {b : Bool} (quorate : s.params.quorum.toNat ≤ s.inStepCount) :
    quorumWatch b s = s := by
  have kept : s.quorumLost = false := by simpa [State.quorumLost] using quorate
  simp [quorumWatch, kept]

include watches

variable (lost : s.inStepCount < s.params.quorum.toNat)
include lost

theorem quorumWatch_of_lost (b : Bool) :
    quorumWatch b s
      = if b = false ∧ s.tableEmpty = true then timerStop (enterHalted s) else enterHalted s := by
  have watched : s.timer.run.watchesQuorum = true := (RunState.watchesQuorum_iff _).2 watches
  have few : s.quorumLost = true := by simpa [State.quorumLost] using lost
  unfold quorumWatch
  dsimp only
  rw [watched, few, enterHalted_tableEmpty]
  simp

theorem quorumWatch_halts (b : Bool) :
    (quorumWatch b s).timer.run = .halted ∧ (quorumWatch b s).timer.health = .severe
      ∧ (quorumWatch b s).port.isSet .run = true
      ∧ (s.timer.health ≠ .severe → (quorumWatch b s).port.isSet .health = true) := by
  rw [quorumWatch_of_lost watches lost]
  split
  · rw [timerStop_timer, enterHalted_timer]
    exact ⟨rfl, rfl, (State.Grows.timerStop _).2 .run (enterHalted_isSet_run s),
      fun other => (State.Grows.timerStop _).2 .health (enterHalted_isSet_health other)⟩
  · rw [enterHalted_timer]
    exact ⟨rfl, rfl, enterHalted_isSet_run s, enterHalted_isSet_health⟩

theorem quorumWatch_stops (empty : s.tableEmpty = true) :
    (quorumWatch false s).timer.sweepActive = false ∧ (quorumWatch false s).engine.merged = none
      ∧ (quorumWatch false s).engine.free = none
      ∧ ∀ n, 1 ≤ n → n ≤ 18 → (quorumWatch false s).portState n
          = if (s.probe n).state = .absent then s.portState n
            else (s.portState n).hand (.park s.params.parkMode) := by
  rw [quorumWatch_of_lost watches lost, if_pos ⟨rfl, empty⟩]
  refine ⟨by rw [timerStop_timer], by rw [timerStop_engine], by rw [timerStop_engine], fun n low high => ?_⟩
  rw [timerStop_portState _ low high, State.probe_of_registry (enterHalted_registry s),
    State.portState_of_registry (enterHalted_registry s), State.params_of_plans (enterHalted_plans s)]

end

end Sys2Proof.Machine

/-! STATUS (R36, R38, R53, R54, R134): the entry it notes, the fault that takes a probe out of IN_STEP, and the quorum
that is compared then. -/

namespace Sys2Proof.Machine

/-- The state in which a STATUS has been noted, before what follows the change of the probe. -/
def statusNoted (n : Nat) (power fault code : Byte) (s : State) : State :=
  (hearProbe n s).mapProbe n fun e => e.noted power fault code

def statusTaken (n : Nat) (power fault code : Byte) (s : State) : State :=
  if fault = 0 then statusNoted n power fault code s
  else changeState n .faulted (statusNoted n power fault code s)

theorem ProbeState.configured_iff (st : ProbeState) : st.configured = true ↔ st ≠ .absent := by
  cases st <;> simp [ProbeState.configured]

section
variable (port : Port) (power fault : Byte) {code : Byte} {s : State} (up : s.port.resetLow = false)
include up

theorem exec_status_of_checked (checks : code.toNat ≤ 31) (present : (s.probe (slotOf port)).state ≠ .absent) :
    exec (.statusReport port power fault code) s
      = .next (probeChanged (slotOf port) (s.probe (slotOf port))
          (statusTaken (slotOf port) power fault code s)) :=
  congrArg Host.Outcome.next (by
    rw [(codeChecks_iff code).2 checks, receive_admitted _ _ _ up ((ProbeState.configured_iff _).2 present)]
    rfl)

theorem exec_status_of_absent (checks : code.toNat ≤ 31) (absent : (s.probe (slotOf port)).state = .absent) :
    exec (.statusReport port power fault code) s
      = .next (stray (slotOf port) (hearProbe (slotOf port) s)) :=
  congrArg Host.Outcome.next (by
    rw [(codeChecks_iff code).2 checks, receive_stray _ _ _ up (by rw [absent]; rfl)])

theorem exec_status_of_beyond (beyond : 31 < code.toNat) :
    exec (.statusReport port power fault code) s = .next (discardFrame (slotOf port) s) :=
  congrArg Host.Outcome.next (by rw [codeChecks_of_beyond beyond, receive_discarded _ _ _ up])

end

/-! ## The entry noted -/

section
variable (n : Nat) (power fault code : Byte) (s : State)

theorem statusTaken_frame :
    (statusTaken n power fault code s).timer = s.timer ∧ (statusTaken n power fault code s).engine = s.engine
      ∧ (statusTaken n power fault code s).links = s.links ∧ (statusTaken n power fault code s).spot = s.spot
      ∧ (statusTaken n power fault code s).plans = s.plans
      ∧ (statusTaken n power fault code s).store = s.store := by
  unfold statusTaken
  split
  · exact ⟨rfl, rfl, rfl, rfl, rfl, rfl⟩
  · obtain ⟨-, -, -, timer, engine, links, spot, plans, store⟩ :=
      changeState_frame n .faulted (statusNoted n power fault code s)
    exact ⟨timer, engine, links, spot, plans, store⟩

theorem statusTaken_session :
    (statusTaken n power fault code s).registry.session = s.registry.session := by
  unfold statusTaken
  split
  · rfl
  · rw [changeState_session]; rfl

theorem statusTaken_portState (m : Nat) :
    (statusTaken n power fault code s).portState m = (hearProbe n s).portState m := by
  unfold statusTaken
  split
  · rfl
  · rw [changeState_portState]; rfl

theorem statusTaken_other (m : Nat) (other : m ≠ n) :
    (statusTaken n power fault code s).probe m = s.probe m := by
  have apart : ¬ (n = m ∧ 1 ≤ m ∧ m ≤ 18) := fun wrong => other wrong.1.symm
  have noted : (statusNoted n power fault code s).probe m = s.probe m := by
    rw [statusNoted, State.probe_mapProbe, if_neg apart, hearProbe_probe]
  unfold statusTaken
  split
  · exact noted
  · rw [changeState_probe, if_neg apart, noted]

theorem statusTaken_of_noFault :
    (statusTaken n power 0 code s).router = s.router ∧ (statusTaken n power 0 code s).port = s.port :=
  ⟨rfl, rfl⟩

variable {n} (low : 1 ≤ n) (high : n ≤ 18)
include low high

/-- The entry of the sender (R53). -/
theorem statusTaken_probe :
    (statusTaken n power fault code s).probe n = { s.probe n with
      mainPower := power.getLsbD 0
      auxPower := power.getLsbD 1
      codeChanged := (s.probe n).codeChanged || (s.probe n).geoCode != some code
      fault := if fault = 0 then (s.probe n).fault else some fault
      state := if fault = 0 then (s.probe n).state else .faulted } := by
  have noted : (statusNoted n power fault code s).probe n = (s.probe n).noted power fault code := by
    rw [statusNoted, State.probe_mapProbe_same _ _ _ low high, hearProbe_probe]
  unfold statusTaken
  split
  · next none =>
    rw [noted, ProbeEntry.noted, if_pos none]
    rfl
  · next faults =>
    rw [changeState_probe, if_pos ⟨rfl, low, high⟩, noted, ProbeEntry.noted, if_neg faults]
    rfl

theorem statusTaken_isSet_probe (faults : fault ≠ 0) (other : (s.probe n).state ≠ .faulted) :
    (statusTaken n power fault code s).port.isSet .probe = true := by
  have noted : ((statusNoted n power fault code s).probe n).state = (s.probe n).state := by
    rw [statusNoted, State.probe_mapProbe_same _ _ _ low high, hearProbe_probe]; rfl
  rw [statusTaken, if_neg faults]
  exact changeState_isSet_probe (by rw [noted]; exact other)

end

/-! ## A fault of an IN_STEP probe (R38, R54) -/

/-- The state in which the quorum is compared when an IN_STEP probe has faulted. -/
def faultCleared (n : Nat) (power fault code : Byte) (s : State) : State :=
  (statusTaken n power fault code s).mapProbe n fun e =>
    e.clearAssignments ((statusTaken n power fault code s).params.policy n)

section
variable {n : Nat} (power code : Byte) {fault : Byte} {s : State} (low : 1 ≤ n) (high : n ≤ 18)
  (faults : fault ≠ 0)
include low high faults

theorem statusTaken_faulted : ((statusTaken n power fault code s).probe n).state = .faulted := by
  rw [statusTaken_probe power fault code s low high]
  exact if_neg faults

theorem status_exit (inStep : (s.probe n).state = .inStep) :
    probeChanged n (s.probe n) (statusTaken n power fault code s)
      = examine (quorumWatch false (faultCleared n power fault code s)) :=
  probeChanged_of_exit inStep (by rw [statusTaken_faulted power code low high faults]; decide)

theorem faultCleared_state (m : Nat) :
    ((faultCleared n power fault code s).probe m).state
      = if m = n then .faulted else (s.probe m).state := by
  rw [faultCleared, State.probe_mapProbe]
  by_cases own : m = n
  · subst own
    rw [if_pos ⟨rfl, low, high⟩, if_pos rfl, ProbeEntry.clearAssignments_eq]
    exact statusTaken_faulted power code low high faults
  · rw [if_neg fun wrong => own wrong.1.symm, if_neg own, statusTaken_other _ _ _ _ _ m own]

theorem faultCleared_inStepCount :
    (faultCleared n power fault code s).inStepCount
      = s.active.planSlots.countP (fun m => m != n && (s.probe m).state == .inStep) := by
  obtain ⟨-, -, -, -, plans, -⟩ := statusTaken_frame n power fault code s
  have active : (faultCleared n power fault code s).active = s.active :=
    congrArg PlanMemory.active plans
  rw [State.inStepCount, active]
  refine List.countP_congr fun m _ => ?_
  rw [faultCleared_state power code low high faults]
  by_cases own : m = n <;> simp [own]

end

theorem faultCleared_frame (n : Nat) (power fault code : Byte) (s : State) :
    (faultCleared n power fault code s).timer = s.timer
      ∧ (faultCleared n power fault code s).engine = s.engine
      ∧ (faultCleared n power fault code s).plans = s.plans
      ∧ ∀ m, (faultCleared n power fault code s).portState m = (hearProbe n s).portState m := by
  obtain ⟨timer, engine, -, -, plans, -⟩ := statusTaken_frame n power fault code s
  refine ⟨timer, engine, plans, fun m => ?_⟩
  rw [faultCleared, State.portState_mapProbe, statusTaken_portState]

section
variable {n : Nat} (power code : Byte) {fault : Byte} {s : State} (low : 1 ≤ n) (high : n ≤ 18)
  (faults : fault ≠ 0) (inStep : (s.probe n).state = .inStep)
  (watches : s.timer.run = .running ∨ s.timer.run = .pausing)
include low high faults inStep watches

/-- The halt of a run whose quorum the fault has broken (R36, R38). -/
theorem status_halts
    (lost : s.active.planSlots.countP (fun m => m != n && (s.probe m).state == .inStep)
      < s.params.quorum.toNat) :
    let t := probeChanged n (s.probe n) (statusTaken n power fault code s)
    t.timer.run = .halted ∧ t.timer.health = .severe ∧ t.port.isSet .run = true
      ∧ (s.timer.health ≠ .severe → t.port.isSet .health = true)
      ∧ (s.tableEmpty = true → t.timer.sweepActive = false ∧ t.engine.merged = none ∧ t.engine.free = none
        ∧ ∀ m, 1 ≤ m → m ≤ 18 → t.portState m =
            if (s.probe m).state = .absent then s.portState m
            else ((hearProbe n s).portState m).hand (.park s.params.parkMode)) := by
  obtain ⟨timer, engine, plans, ports⟩ := faultCleared_frame n power fault code s
  have count := faultCleared_inStepCount (s := s) power code low high faults
  have states := faultCleared_state (s := s) power code low high faults
  have params : (faultCleared n power fault code s).params = s.params := State.params_of_plans plans
  have empty : (faultCleared n power fault code s).tableEmpty = s.tableEmpty :=
    State.tableEmpty_of_table (by rw [engine])
  have watched : (faultCleared n power fault code s).timer.run = .running
      ∨ (faultCleared n power fault code s).timer.run = .pausing := by rw [timer]; exact watches
  have few : (faultCleared n power fault code s).inStepCount
      < (faultCleared n power fault code s).params.quorum.toNat := by rw [count, params]; exact lost
  obtain ⟨halted, severe, run, health⟩ := quorumWatch_halts watched few false
  have stops := quorumWatch_stops watched few
  rw [timer] at health
  dsimp only
  rw [status_exit power code low high faults inStep, examine_of_not_running (by rw [halted]; decide)]
  refine ⟨halted, severe, run, health, fun none => ?_⟩
  obtain ⟨active, merged, free, parked⟩ := stops (by rw [empty]; exact none)
  refine ⟨active, merged, free, fun m lowM highM => ?_⟩
  rw [parked m lowM highM, states, ports, params]
  by_cases own : m = n
  · subst own
    rw [if_pos rfl, if_neg (by decide), inStep, if_neg (by decide)]
  · have unheard : (hearProbe n s).portState m = s.portState m := by
      rw [hearProbe_portState, if_neg fun wrong => own wrong.1.symm]
    rw [if_neg own, unheard]

omit watches in
/-- A quorum that holds leaves the run and the health as they were. -/
theorem status_goesOn
    (quorate : s.params.quorum.toNat
      ≤ s.active.planSlots.countP (fun m => m != n && (s.probe m).state == .inStep)) :
    let t := probeChanged n (s.probe n) (statusTaken n power fault code s)
    t.timer.run = s.timer.run ∧ t.timer.health = s.timer.health := by
  obtain ⟨timer, -, plans, -⟩ := faultCleared_frame n power fault code s
  have count := faultCleared_inStepCount (s := s) power code low high faults
  have params : (faultCleared n power fault code s).params = s.params := State.params_of_plans plans
  obtain ⟨-, -, -, -, examined, -⟩ := examine_onlyStarts (faultCleared n power fault code s)
  dsimp only
  rw [status_exit power code low high faults inStep,
    quorumWatch_of_quorate (by rw [count, params]; exact quorate), examined, timer]
  exact ⟨rfl, rfl⟩

end

/-- Settles O45: the entry noted, the capture and the quorum that follow the change of the probe. -/
theorem statusUpdatesTheProbe : Obligations.StatusUpdatesTheProbe := by
  unfold Obligations.StatusUpdatesTheProbe
  refine fun port power fault code s up => ⟨fun checks present => ?taken,
    fun checks absent => exec_status_of_absent port power fault up checks absent, fun beyond => ?discarded⟩
  case discarded => rw [exec_status_of_beyond port power fault up beyond, discardFrame_eq]
  case taken =>
    obtain ⟨low, high⟩ := slotOf_bounds port
    obtain ⟨timer, engine, links, spot, plans, store⟩ := statusTaken_frame (slotOf port) power fault code s
    have session := statusTaken_session (slotOf port) power fault code s
    have noted := statusTaken_probe power fault code s low high
    have entry := probeChanged_probe (slotOf port) (s.probe (slotOf port))
      (statusTaken (slotOf port) power fault code s) (slotOf port)
    rw [noted] at entry
    obtain ⟨-, -, -, keptPlans, keptStore⟩ := probeChanged_frame (slotOf port) (s.probe (slotOf port))
      (statusTaken (slotOf port) power fault code s)
    refine ⟨_, exec_status_of_checked port power fault up checks present, by rw [entry], by rw [entry],
      by rw [entry], by rw [entry], by rw [entry], fun none => ⟨?_, ?_⟩, fun faults => ⟨?_, ?_, fun inStep => ?cleared⟩,
      fun faults syncing awaited => ?lost, fun kept => ?session,
      fun faults inStep watches => ⟨_, rfl, fun lost => ?halts, fun quorate => ?goesOn⟩,
      keptPlans.trans plans, keptStore.trans store, fun stopped => ?stopped⟩
    · rw [entry]; exact if_pos none
    · rw [entry]; exact if_pos none
    · rw [entry]; exact if_neg faults
    · rw [entry]; exact if_neg faults
    case cleared =>
      have out : ((statusTaken (slotOf port) power fault code s).probe (slotOf port)).state ≠ .inStep := by
        rw [statusTaken_faulted power code low high faults]; decide
      rw [probeChanged_probe_own low high out, if_pos inStep, ProbeEntry.clearAssignments_eq]
      exact ⟨rfl, rfl⟩
    case lost =>
      have left : ((statusTaken (slotOf port) power fault code s).probe (slotOf port)).state ≠ .syncing := by
        rw [statusTaken_faulted power code low high faults]; decide
      have lost := (probeChanged_captureLost syncing left (by rw [session]; exact awaited)).congr
        (s' := s) session.symm rfl id
      exact ⟨lost.captures, lost.selection, lost.goesOn, lost.ends⟩
    case session =>
      refine (probeChanged_session_kept ?_).trans session
      rw [session, noted]
      rcases kept with none | other | unawaited
      · by_cases syncing : (s.probe (slotOf port)).state = .syncing
        · exact .inr (.inl ((if_pos none).trans syncing))
        · exact .inl syncing
      · exact .inl other
      · exact .inr (.inr unawaited)
    case halts => exact status_halts power code low high faults inStep watches lost
    case goesOn => exact status_goesOn power code low high faults inStep quorate
    case stopped =>
      have stays : (statusTaken (slotOf port) power fault code s).timer.run = .stopped := by
        rw [timer]; exact stopped
      obtain ⟨timer', engine', links', spot', router', -, others⟩ :=
        probeChanged_frame_stopped (n := slotOf port) (before := s.probe (slotOf port)) stays
      refine ⟨fun n other => ?_, timer'.trans timer, engine'.trans engine, links'.trans links, spot'.trans spot,
        fun none => ⟨?_, ?_⟩, fun faults other => ?_⟩
      · rw [others n other, statusTaken_other _ _ _ _ _ n other]
      · subst none
        exact router'.trans (statusTaken_of_noFault ..).1
      · subst none
        have kept : (s.probe (slotOf port)).state ≠ .syncing
            ∨ ((statusTaken (slotOf port) power 0 code s).probe (slotOf port)).state = .syncing := by
          rw [noted]
          by_cases syncing : (s.probe (slotOf port)).state = .syncing
          · exact .inr (by simpa using syncing)
          · exact .inl syncing
        exact (probeChanged_port_stopped stays kept).trans (statusTaken_of_noFault ..).2
      · exact (probeChanged_grows ..).2 .probe (statusTaken_isSet_probe power fault code s low high faults other)

end Sys2Proof.Machine

/-! A sweep start up to its judgements (R22 to R27, R37, R38, R163): the old sweep ends, a pending apply is installed,
the counters advance, and the run is judged by the state in which the sweep start is taken. -/

namespace Sys2Proof.Machine

/-! ## The installation (R38, R163) -/

/-- The state in which the counters of the new sweep are set. -/
def sweepPlanned (s : State) : State := installAtSweepStart (endSweep s)

/-- The newly installed quorum is not met, where it is watched (R38). -/
def State.haltsAtInstall (s : State) : Prop :=
  s.plans.applyPending = true ∧ (s.timer.run = .running ∨ s.timer.run = .pausing)
    ∧ (planResumed s).inStepCount < (planResumed s).params.quorum.toNat

section
variable {s : State}

theorem planResumed_timer_eq (s : State) :
    (planResumed s).timer = { s.timer with
      notStarted := (endSweep s).timer.notStarted, sweepActive := false, sweepEndDue := false } := by
  rw [planResumed_timer, endSweep_timer]

theorem planResumed_engine (s : State) :
    (planResumed s).engine = { s.engine with merged := none, free := none } := by
  obtain ⟨-, -, -, -, engine, -⟩ := installPending_frame (endSweep s)
  rw [planResumed, engine, endSweep_engine]

theorem planResumed_inStepCount (s : State) :
    (planResumed s).inStepCount
      = (planResumed s).active.planSlots.countP fun n => (s.probe n).state == .inStep := by
  refine List.countP_congr fun n _ => ?_
  rw [planResumed_probe]

theorem installAtSweepStart_of_pending (pending : s.plans.applyPending = true) :
    sweepPlanned s = quorumWatch true (planResumed s) :=
  if_pos (by rw [endSweep_plans]; exact pending)

theorem installAtSweepStart_of_released (released : s.plans.applyPending = false) :
    sweepPlanned s = planResumed s := by
  have none : (endSweep s).plans.applyPending = false := by rw [endSweep_plans, released]
  rw [planResumed, installPending_of_none _ none]
  exact if_neg (Bool.eq_false_iff.1 none)

theorem sweepPlanned_of_halt (h : s.haltsAtInstall) : sweepPlanned s = enterHalted (planResumed s) := by
  obtain ⟨pending, watches, lost⟩ := h
  have watched : (planResumed s).timer.run = .running ∨ (planResumed s).timer.run = .pausing := by
    rw [planResumed_timer_eq]; exact watches
  rw [installAtSweepStart_of_pending pending, quorumWatch_of_lost watched lost, if_neg fun wrong => nomatch wrong.1]

theorem sweepPlanned_of_kept (h : ¬ s.haltsAtInstall) : sweepPlanned s = planResumed s := by
  by_cases pending : s.plans.applyPending = true
  · rw [installAtSweepStart_of_pending pending]
    by_cases watches : s.timer.run = .running ∨ s.timer.run = .pausing
    · exact quorumWatch_of_quorate (Nat.le_of_not_lt fun lost => h ⟨pending, watches, lost⟩)
    · refine quorumWatch_of_not_watched true (Bool.eq_false_iff.2 fun watched => watches ?_)
      rw [planResumed_timer_eq] at watched
      exact (RunState.watchesQuorum_iff _).1 watched
  · exact installAtSweepStart_of_released (by simpa using pending)

theorem sweepPlanned_frame (s : State) :
    (sweepPlanned s).registry = (planResumed s).registry ∧ (sweepPlanned s).plans = (planResumed s).plans
      ∧ (sweepPlanned s).engine = (planResumed s).engine := by
  by_cases halts : s.haltsAtInstall
  · obtain ⟨-, -, -, engine, -⟩ := enterHalted_frame (planResumed s)
    rw [sweepPlanned_of_halt halts]
    exact ⟨enterHalted_registry _, enterHalted_plans _, engine⟩
  · rw [sweepPlanned_of_kept halts]
    exact ⟨rfl, rfl, rfl⟩

theorem sweepPlanned_isSet_apply (pending : s.plans.applyPending = true) :
    (sweepPlanned s).port.isSet .apply = true := by
  have installed : (planResumed s).port.isSet .apply = true :=
    installPending_apply (endSweep s) (by rw [endSweep_plans, pending])
  rw [installAtSweepStart_of_pending pending]
  exact (State.Grows.quorumWatch true _).2 .apply installed

end

/-! ## The counters and the judgements (R22 to R27, R37) -/

/-- The timer behind the judgements of a sweep start: the next sweep, at sweep time 0. -/
def SweepTimer.nextSweep (t : SweepTimer) (run : RunState) (health : Health) (pattern : Nat) : SweepTimer :=
  { t with
    run := run, health := health, pattern := pattern, sweepNumber := t.sweepNumber + 1, sweepTime := 0,
    sweepActive := true, sweepEndDue := false, nextStep := 0, notStarted := false }

/-- The state in which the judgements are made. -/
def sweepAdvanced (s : State) : State := advance s.timer.run (sweepPlanned s)

/-- The state in which the marks of the old sweep are settled. -/
def sweepJudged (s : State) : State := clearIndicator (sweepJudgement s.timer.run (sweepAdvanced s))

section
variable (s : State)

theorem sweepJudged_frame :
    (sweepJudged s).registry = (planResumed s).registry ∧ (sweepJudged s).plans = (planResumed s).plans
      ∧ (sweepJudged s).engine = { s.engine with merged := none, free := none } := by
  obtain ⟨-, -, -, engine, registry, -, -, -, plans, -⟩ := sweepJudgement_frame s.timer.run (sweepAdvanced s)
  obtain ⟨registry', plans', engine'⟩ := sweepPlanned_frame s
  exact ⟨registry.trans registry', plans.trans plans',
    (engine.trans engine').trans (planResumed_engine s)⟩

theorem sweepPlanned_grows : (sweepPlanned s).Grows (sweepJudged s) := by
  have judged : (sweepAdvanced s).Grows (sweepJudgement s.timer.run (sweepAdvanced s)) :=
    .sweepJudgement _ _
  exact (State.Grows.withTimer _ _).trans (judged.trans (.withTimer _ _))

theorem sweepAdvanced_params : (sweepAdvanced s).params = (planResumed s).params :=
  State.params_of_plans (sweepPlanned_frame s).2.1

theorem sweepAdvanced_active : (sweepAdvanced s).active = (planResumed s).active :=
  congrArg PlanMemory.active (sweepPlanned_frame s).2.1

theorem sweepAdvanced_probe (n : Nat) : (sweepAdvanced s).probe n = (planResumed s).probe n :=
  State.probe_of_registry (sweepPlanned_frame s).1 n

theorem sweepAdvanced_inStepCount : (sweepAdvanced s).inStepCount = (planResumed s).inStepCount := by
  rw [State.inStepCount, sweepAdvanced_active]
  refine List.countP_congr fun n _ => ?_
  rw [sweepAdvanced_probe]

variable {s}

/-- Without a halt at the installation the counters alone have moved. -/
theorem sweepAdvanced_timer (kept : ¬ s.haltsAtInstall) :
    (sweepAdvanced s).timer = { s.timer.nextSweep s.timer.run s.timer.health
        (nextPattern s.timer.run s.timer.pattern (planResumed s).params.patternPeriod.toNat) with
      notStarted := (endSweep s).timer.notStarted } := by
  have timer := planResumed_timer_eq s
  rw [sweepAdvanced, advance, sweepPlanned_of_kept kept, State.withTimer_timer, timer]
  rfl

theorem not_haltsAtInstall_of_run (h : s.timer.run ≠ .running) (h' : s.timer.run ≠ .pausing) :
    ¬ s.haltsAtInstall :=
  fun halts => halts.2.1.elim h h'

theorem sweepJudged_timer :
    (sweepJudged s).timer
      = { (sweepJudgement s.timer.run (sweepAdvanced s)).timer with notStarted := false } := rfl

theorem sweepJudged_port :
    (sweepJudged s).port = (sweepJudgement s.timer.run (sweepAdvanced s)).port := rfl

/-- The halt at the installation is the only judgement of its sweep start. -/
theorem sweepJudged_of_halt (halts : s.haltsAtInstall) :
    (sweepJudged s).timer = s.timer.nextSweep .halted .severe
        (stepPattern s.timer.pattern (planResumed s).params.patternPeriod.toNat)
      ∧ (sweepJudged s).port.isSet .run = true
      ∧ (s.timer.health ≠ .severe → (sweepJudged s).port.isSet .health = true) := by
  have planned := sweepPlanned_of_halt halts
  obtain ⟨-, watches, -⟩ := halts
  have timer : (sweepAdvanced s).timer = { s.timer.nextSweep .halted .severe
        (stepPattern s.timer.pattern (planResumed s).params.patternPeriod.toNat) with
      notStarted := (endSweep s).timer.notStarted } := by
    have notSyncing : s.timer.run ≠ .syncing := by
      rcases watches with run | run <;> rw [run] <;> decide
    have params : (enterHalted (planResumed s)).params = (planResumed s).params :=
      State.params_of_plans (enterHalted_plans _)
    rw [sweepAdvanced, advance, planned, State.withTimer_timer, params, enterHalted_timer,
      planResumed_timer_eq, nextPattern, if_neg notSyncing]
    rfl
  have judged : sweepJudgement s.timer.run (sweepAdvanced s) = sweepAdvanced s := by
    rcases watches with run | run
    · rw [run]
      exact if_neg (by rw [timer]; exact fun wrong => nomatch wrong)
    · rw [run]; rfl
  have port : (sweepAdvanced s).port = (enterHalted (planResumed s)).port := by
    rw [sweepAdvanced, planned]; rfl
  rw [sweepJudged_timer, sweepJudged_port, judged, timer, port]
  refine ⟨rfl, enterHalted_isSet_run _, fun other => enterHalted_isSet_health ?_⟩
  rw [planResumed_timer_eq]; exact other

/-! ### Taken in SYNCING (R27) -/

section
variable (syncing : s.timer.run = .syncing)
include syncing

theorem sweepAdvanced_timer_syncing :
    (sweepAdvanced s).timer = { s.timer.nextSweep .syncing s.timer.health 0 with
      notStarted := (endSweep s).timer.notStarted } := by
  rw [sweepAdvanced_timer (not_haltsAtInstall_of_run (by rw [syncing]; decide) (by rw [syncing]; decide)),
    syncing]
  rfl

theorem sweepJudged_enters
    (h : (planResumed s).inStepCount = (planResumed s).active.planSlots.length
      ∨ ((planResumed s).params.syncSweeps.toNat ≤ (s.timer.sweepNumber + 1).toNat
        ∧ (planResumed s).params.quorum.toNat ≤ (planResumed s).inStepCount)) :
    (sweepJudged s).timer = s.timer.nextSweep .running s.timer.health 0
      ∧ (sweepJudged s).port.isSet .run = true := by
  have timer := sweepAdvanced_timer_syncing syncing
  obtain ⟨enters, -⟩ := syncJudgement_cases (sweepAdvanced s)
  rw [sweepAdvanced_inStepCount, sweepAdvanced_active, sweepAdvanced_params, timer] at enters
  have judged : sweepJudgement s.timer.run (sweepAdvanced s) = enterRunning (sweepAdvanced s) := by
    rw [syncing]; exact enters h
  rw [sweepJudged_timer, sweepJudged_port, judged, enterRunning, raise_timer, State.setRun_timer, timer]
  exact ⟨rfl, raise_isSet ..⟩

variable (someOut : (planResumed s).inStepCount ≠ (planResumed s).active.planSlots.length)
include someOut

theorem sweepJudged_waits
    (early : (s.timer.sweepNumber + 1).toNat < (planResumed s).params.syncSweeps.toNat) :
    (sweepJudged s).timer = s.timer.nextSweep .syncing s.timer.health 0 := by
  have timer := sweepAdvanced_timer_syncing syncing
  obtain ⟨-, waits, -⟩ := syncJudgement_cases (sweepAdvanced s)
  rw [sweepAdvanced_inStepCount, sweepAdvanced_active, sweepAdvanced_params, timer] at waits
  have judged : sweepJudgement s.timer.run (sweepAdvanced s) = sweepAdvanced s := by
    rw [syncing]; exact waits someOut early
  rw [sweepJudged_timer, judged, timer]
  rfl

theorem sweepJudged_gives_up
    (late : (planResumed s).params.syncSweeps.toNat ≤ (s.timer.sweepNumber + 1).toNat)
    (lost : (planResumed s).inStepCount < (planResumed s).params.quorum.toNat) :
    (sweepJudged s).timer = s.timer.nextSweep .halted .severe
        (stepPattern 0 (planResumed s).params.patternPeriod.toNat)
      ∧ (sweepJudged s).port.isSet .run = true
      ∧ (s.timer.health ≠ .severe → (sweepJudged s).port.isSet .health = true) := by
  have timer := sweepAdvanced_timer_syncing syncing
  obtain ⟨-, -, halts⟩ := syncJudgement_cases (sweepAdvanced s)
  rw [sweepAdvanced_inStepCount, sweepAdvanced_active, sweepAdvanced_params, timer] at halts
  have judged : sweepJudgement s.timer.run (sweepAdvanced s) = haltSyncing (sweepAdvanced s) := by
    rw [syncing]; exact halts someOut late lost
  rw [sweepJudged_timer, sweepJudged_port, judged, haltSyncing_timer, timer, sweepAdvanced_params]
  refine ⟨rfl, enterHalted_isSet_run _, fun other => enterHalted_isSet_health ?_⟩
  rw [State.withTimer_timer, timer]
  exact other

end

/-! ### Taken in RUNNING (R37) -/

/-- Closing the windows sets the not-started indicator exactly when a step is still pending (R37, R76). -/
theorem closeWindows_notStarted (s : State) :
    (closeWindows s).timer.notStarted = (s.timer.notStarted || !s.pendingSteps.isEmpty) := by
  have fold : ∀ (ps : List PendingStep) (x : State),
      (ps.foldl (fun x p => notStarted p.index p.entry .windowClosed x) x).timer.notStarted
        = (x.timer.notStarted || !ps.isEmpty) := by
    intro ps
    induction ps with
    | nil => intro x; simp
    | cons p ps ih => intro x; rw [List.foldl_cons, ih, notStarted_timer]; simp
  obtain ⟨-, -, -, timer, -⟩ := discardWindows_frame
    (s.pendingSteps.foldl (fun x p => notStarted p.index p.entry .windowClosed x) s)
  rw [closeWindows, timer, fold]

theorem endSweep_notStarted (s : State) :
    (endSweep s).timer.notStarted = (s.timer.notStarted || !s.pendingSteps.isEmpty) :=
  closeWindows_notStarted s

theorem planProbeMissing_iff (s : State) :
    (sweepAdvanced s).planProbeMissing = true
      ↔ ∃ n ∈ (planResumed s).active.planSlots, (s.probe n).state ≠ .inStep
          ∨ (s.probe n).mainPower = false ∨ (s.probe n).auxPower = false := by
  have missing (n : Nat) : (((sweepAdvanced s).probe n).state != .inStep
        || !((sweepAdvanced s).probe n).powered) = true
      ↔ (s.probe n).state ≠ .inStep ∨ (s.probe n).mainPower = false ∨ (s.probe n).auxPower = false := by
    rw [sweepAdvanced_probe, planResumed_probe, ProbeEntry.powered]
    simp only [Bool.or_eq_true, bne_iff_ne, Bool.not_eq_true', Bool.and_eq_false_iff]
  rw [State.planProbeMissing, sweepAdvanced_active, List.any_eq_true]
  simp only [missing]

/-- The health that a sweep start taken in RUNNING finds (R37). -/
theorem sweepJudged_recomputes (running : s.timer.run = .running) (kept : ¬ s.haltsAtInstall) {health : Health}
    (found : health
      = if (sweepAdvanced s).planProbeMissing = true then .degraded
        else if s.timer.notStarted = true ∨ s.pendingSteps ≠ [] then .warn else .clear) :
    (sweepJudged s).timer = s.timer.nextSweep .running health
        (stepPattern s.timer.pattern (planResumed s).params.patternPeriod.toNat)
      ∧ (health ≠ s.timer.health → (sweepJudged s).port.isSet .health = true) := by
  have timer := sweepAdvanced_timer kept
  have indicator : (sweepAdvanced s).timer.notStarted = true ↔ s.timer.notStarted = true ∨ s.pendingSteps ≠ [] := by
    rw [timer, endSweep_notStarted]
    simp
  have judged : sweepJudgement s.timer.run (sweepAdvanced s) = setHealth health (sweepAdvanced s) := by
    have recomputed : sweepJudgement .running (sweepAdvanced s) = recomputeHealth (sweepAdvanced s) :=
      if_pos (by rw [timer]; exact running)
    rw [running, recomputed, recomputeHealth, found]
    simp only [indicator]
  rw [sweepJudged_timer, sweepJudged_port, judged, setHealth_timer, timer, nextPattern,
    if_neg (by rw [running]; decide), running]
  refine ⟨rfl, fun changed => ?_⟩
  have before : (sweepAdvanced s).timer.health = s.timer.health := by rw [timer]; rfl
  rw [setHealth_isSet, before]
  simp [changed.symm]

/-- In any other state the sweep start judges nothing. -/
theorem sweepJudged_of_unjudged (notSyncing : s.timer.run ≠ .syncing) (notRunning : s.timer.run ≠ .running)
    (kept : ¬ s.haltsAtInstall) :
    (sweepJudged s).timer = s.timer.nextSweep s.timer.run s.timer.health
      (stepPattern s.timer.pattern (planResumed s).params.patternPeriod.toNat) := by
  have judged : sweepJudgement s.timer.run (sweepAdvanced s) = sweepAdvanced s := by
    unfold sweepJudgement
    split
    · next run => exact absurd run notSyncing
    · next run => exact absurd run notRunning
    · rfl
  rw [sweepJudged_timer, judged, sweepAdvanced_timer kept, nextPattern, if_neg notSyncing]
  rfl

end

end Sys2Proof.Machine

/-! The marks of the old sweep at a sweep start (R50 to R52): each slot's mark is settled once, and a loss may halt the
run but never stops its timer there (R36). -/

namespace Sys2Proof.Machine

/-! ## What the settling of the marks keeps -/

/-- From `s` to `x` the entries change, and the run may be halted; no other field of the timer moves. -/
structure State.Settles (s x : State) : Prop where
  engine : x.engine = s.engine
  timer : x.timer = { s.timer with run := x.timer.run, health := x.timer.health }
  ports : ∀ m, x.portState m = s.portState m
  session : x.registry.session = s.registry.session
  grows : s.Grows x
  run : s.MayHalt x

namespace State.Settles

variable {s x y : State}

theorem refl (s : State) : s.Settles s := ⟨rfl, rfl, fun _ => rfl, rfl, .refl s, .refl s⟩

theorem trans (h : s.Settles x) (k : x.Settles y) : s.Settles y where
  engine := k.engine.trans h.engine
  timer := by rw [k.timer, h.timer]
  ports m := (k.ports m).trans (h.ports m)
  session := k.session.trans h.session
  grows := h.grows.trans k.grows
  run := h.run.trans k.run

theorem mapProbe (s : State) (n : Nat) (f : ProbeEntry → ProbeEntry) : s.Settles (s.mapProbe n f) :=
  ⟨rfl, rfl, fun _ => rfl, rfl, .mapProbe n f s, .mapProbe s n f⟩

theorem changeState (n : Nat) (new : ProbeState) (s : State) : s.Settles (changeState n new s) := by
  obtain ⟨-, -, -, timer, engine, -⟩ := changeState_frame n new s
  exact ⟨engine, by rw [timer], fun m => changeState_portState n m new s, changeState_session n new s,
    .changeState n new s, .changeState n new s⟩

/-- At a sweep start the quorum halts the run and leaves the timer's stop to the end of the event (R36). -/
theorem quorumWatch (s : State) : s.Settles (quorumWatch true s) := by
  have halts : Machine.quorumWatch true s = s ∨ Machine.quorumWatch true s = enterHalted s := by
    unfold Machine.quorumWatch
    dsimp only
    split
    · exact .inr (if_neg (by simp))
    · exact .inl rfl
  obtain ⟨-, -, -, engine, registry, -⟩ := enterHalted_frame s
  refine ⟨?_, ?_, fun m => ?_, ?_, .quorumWatch true s, .quorumWatch true s⟩ <;> rcases halts with same | halted
  · rw [same]
  · rw [halted, engine]
  · rw [same]
  · rw [halted, enterHalted_timer]
  · rw [same]
  · rw [halted, State.portState_of_registry registry]
  · rw [same]
  · rw [halted, registry]

theorem addMiss (n : Nat) (s : State) : s.Settles (addMiss true n s) := by
  unfold Machine.addMiss loseProbe
  dsimp only
  (repeat' split)
  · exact (mapProbe s n _).trans ((changeState n .lost _).trans ((mapProbe _ n _).trans (quorumWatch _)))
  · exact (mapProbe s n _).trans (changeState n .lost _)
  · exact mapProbe s n _

theorem settleMark (counts : Bool) (n : Nat) (s : State) : s.Settles (settleMark counts n s) := by
  unfold Machine.settleMark
  dsimp only
  (repeat' split)
  · exact refl s
  · exact (mapProbe s n _).trans (addMiss n _)
  · exact mapProbe s n _

theorem settleMarks (counts : Bool) (s : State) : s.Settles (settleMarks counts s) :=
  foldl_keeps s.Settles _ (fun x n h => h.trans (settleMark counts n x)) allSlots s (refl s)

end State.Settles

/-! ## The entry behind the settling -/

/-- The mark of an entry counts as a miss (R51). -/
def ProbeEntry.misses (e : ProbeEntry) (counts : Bool) : Prop :=
  counts = true ∧ e.outstanding ≠ none ∧ (e.state = .syncing ∨ e.state = .inStep)

section
variable (counts : Bool) (limit : Nat) (policy : Policy) (e : ProbeEntry)

theorem ProbeEntry.missed_marks :
    (e.missed limit policy).outstanding = e.outstanding ∧ (e.missed limit policy).syncCount = e.syncCount := by
  unfold ProbeEntry.missed
  dsimp only
  (repeat' split)
  · rw [ProbeEntry.clearAssignments_eq]; exact ⟨rfl, rfl⟩
  · exact ⟨rfl, rfl⟩
  · exact ⟨rfl, rfl⟩

theorem ProbeEntry.settled_outstanding : (e.settled counts limit policy).outstanding = none := by
  unfold ProbeEntry.settled
  dsimp only
  split
  · next answered => simpa using answered
  · split
    · rw [(ProbeEntry.missed_marks limit policy _).1]
    · rfl

theorem ProbeEntry.settled_syncCount :
    (e.settled counts limit policy).syncCount
      = if e.state = .syncing ∧ e.outstanding ≠ none then 0 else e.syncCount := by
  unfold ProbeEntry.settled
  dsimp only
  split
  · next answered =>
    have mark : e.outstanding = none := by simpa using answered
    rw [if_neg fun wrong => wrong.2 mark]
  · next waits =>
    have mark : e.outstanding ≠ none := by simpa using waits
    simp only [mark, ne_eq, not_false_eq_true, and_true]
    split
    · rw [(ProbeEntry.missed_marks limit policy _).2]
    · rfl

end

section
variable {counts : Bool} (limit : Nat) (policy : Policy) {e : ProbeEntry}

/-- A mark that is answered, or not counted, leaves the state, the miss count and the assignments. -/
theorem ProbeEntry.settled_of_kept (h : ¬ e.misses counts) :
    (e.settled counts limit policy).state = e.state ∧ (e.settled counts limit policy).missCount = e.missCount
      ∧ (e.settled counts limit policy).current = e.current
      ∧ (e.settled counts limit policy).queued = e.queued := by
  unfold ProbeEntry.settled
  split
  · exact ⟨rfl, rfl, rfl, rfl⟩
  · next some =>
    have mark : e.outstanding ≠ none := by simpa using some
    dsimp only
    rw [if_neg fun wrong => h ⟨wrong.1, mark, wrong.2⟩]
    exact ⟨rfl, rfl, rfl, rfl⟩

theorem ProbeEntry.settled_of_misses (h : e.misses counts) :
    e.settled counts limit policy
      = ({ e with outstanding := none, syncCount := if e.state = .syncing then 0 else e.syncCount }
          : ProbeEntry).missed limit policy := by
  obtain ⟨counted, mark, state⟩ := h
  unfold ProbeEntry.settled
  rw [if_neg (by simpa using mark)]
  exact if_pos ⟨counted, state⟩

variable {limit policy} (h : e.misses counts)
include h

theorem ProbeEntry.settled_missCount : (e.settled counts limit policy).missCount = satInc 8 e.missCount := by
  rw [ProbeEntry.settled_of_misses limit policy h, ProbeEntry.missed_missCount]

theorem ProbeEntry.settled_lost (reached : limit ≤ satInc 8 e.missCount) :
    (e.settled counts limit policy).state = .lost
      ∧ (e.state = .inStep → (e.settled counts limit policy).current = none
        ∧ (e.settled counts limit policy).queued = none) := by
  have ⟨_, _, state⟩ := h
  rw [ProbeEntry.settled_of_misses limit policy h]
  refine ⟨?_, fun inStep => ?_⟩
  · rw [ProbeEntry.missed_state]; exact if_pos ⟨state, reached⟩
  · rw [ProbeEntry.missed_of_limit, ProbeEntry.clearAssignments_eq]
    · exact ⟨rfl, rfl⟩
    · exact inStep
    · exact reached

theorem ProbeEntry.settled_below (below : satInc 8 e.missCount < limit) :
    (e.settled counts limit policy).state = e.state ∧ (e.settled counts limit policy).current = e.current
      ∧ (e.settled counts limit policy).queued = e.queued := by
  rw [ProbeEntry.settled_of_misses limit policy h, ProbeEntry.missed_below]
  · exact ⟨rfl, rfl, rfl⟩
  · exact below

end

/-! ## No loss -/

/-- No unanswered mark takes its probe to the miss limit. -/
def State.losesNone (s : State) : Prop :=
  ∀ n, 1 ≤ n → n ≤ 18 → (s.probe n).outstanding ≠ none →
    (s.probe n).state = .syncing ∨ (s.probe n).state = .inStep →
    satInc 8 (s.probe n).missCount < s.params.missLimit.toNat

/-- A miss below the limit is counted and nothing else. -/
theorem addMiss_of_below (b : Bool) {n : Nat} {s : State} (low : 1 ≤ n) (high : n ≤ 18)
    (below : satInc 8 (s.probe n).missCount < s.params.missLimit.toNat) :
    addMiss b n s = s.mapProbe n fun e => { e with missCount := satInc 8 e.missCount } := by
  have counted : ((s.mapProbe n fun e => { e with missCount := satInc 8 e.missCount }).probe n).missCount
      = satInc 8 (s.probe n).missCount := by rw [State.probe_mapProbe_same _ _ _ low high]
  have params : (s.mapProbe n fun e => { e with missCount := satInc 8 e.missCount }).params = s.params := rfl
  unfold addMiss
  dsimp only
  rw [counted, params]
  exact if_neg fun wrong => by omega

theorem settleMark_of_none (counts : Bool) {n : Nat} {s : State} (none : (s.probe n).outstanding = none) :
    settleMark counts n s = s :=
  if_pos (by rw [none]; rfl)

section
variable (counts : Bool) {n : Nat} {s : State} (low : 1 ≤ n) (high : n ≤ 18) (kept : s.losesNone)
include low high kept

/-- Without a loss the mark of a slot is settled in its entry. -/
theorem settleMark_timer : (settleMark counts n s).timer = s.timer := by
  by_cases mark : (s.probe n).outstanding = none
  · rw [settleMark_of_none counts mark]
  · unfold settleMark
    dsimp only
    rw [if_neg (by simpa using mark)]
    split
    · next misses =>
      have state : (s.probe n).state = .syncing ∨ (s.probe n).state = .inStep := by
        simp only [Bool.and_eq_true, Bool.or_eq_true, beq_iff_eq] at misses
        exact misses.2
      rw [addMiss_of_below true low high]
      · rfl
      · rw [State.probe_mapProbe_same _ _ _ low high]
        exact kept n low high mark state
    · rfl

/-- A settled mark is no longer outstanding, so that it cannot be missed again. -/
theorem settleMark_losesNone : (settleMark counts n s).losesNone := by
  intro m lowM highM mark state
  have plans : (settleMark counts n s).plans = s.plans := by
    obtain ⟨-, -, -, -, plans, -⟩ := settleMark_frame counts n s
    exact plans
  rw [settleMark_probe counts n m s low high] at mark state ⊢
  rw [State.params_of_plans plans]
  by_cases own : n = m
  · rw [if_pos own] at mark
    exact absurd (ProbeEntry.settled_outstanding ..) mark
  · rw [if_neg own] at mark state ⊢
    exact kept m lowM highM mark state

end

theorem settleMarks_timer_of_losesNone (counts : Bool) {s : State} (kept : s.losesNone) :
    (settleMarks counts s).timer = s.timer := by
  have all : ∀ (l : List Nat), (∀ n ∈ l, 1 ≤ n ∧ n ≤ 18) → ∀ x : State, x.losesNone →
      (l.foldl (fun x n => settleMark counts n x) x).timer = x.timer := by
    intro l
    induction l with
    | nil => intro _ x _; rfl
    | cons n l ih =>
      intro slots x none
      obtain ⟨low, high⟩ := slots n (List.mem_cons_self ..)
      rw [List.foldl_cons, ih (fun m mem => slots m (List.mem_cons_of_mem _ mem)) _
        (settleMark_losesNone counts low high none), settleMark_timer counts low high none]
  exact all allSlots (fun n mem => (mem_allSlots n).1 mem) s kept

/-! ## A loss -/

/-- The settling of the marks of other slots leaves an entry as it is. -/
theorem foldl_settleMark_other (counts : Bool) (n : Nat) (l : List Nat)
    (others : ∀ m ∈ l, (1 ≤ m ∧ m ≤ 18) ∧ m ≠ n) (s : State) :
    (l.foldl (fun x m => settleMark counts m x) s).probe n = s.probe n := by
  induction l generalizing s with
  | nil => rfl
  | cons m l ih =>
    obtain ⟨⟨low, high⟩, other⟩ := others m (List.mem_cons_self ..)
    rw [List.foldl_cons, ih (fun k mem => others k (List.mem_cons_of_mem _ mem)),
      settleMark_probe counts m n s low high, if_neg other]

/-- A probe that a missed mark takes to the miss limit is lost, which raises PROBE (R51, R56). -/
theorem settleMarks_isSet_probe {n : Nat} {s : State} (low : 1 ≤ n) (high : n ≤ 18)
    (mark : (s.probe n).outstanding ≠ none) (state : (s.probe n).state = .syncing ∨ (s.probe n).state = .inStep)
    (limit : s.params.missLimit.toNat ≤ satInc 8 (s.probe n).missCount) :
    (settleMarks true s).port.isSet .probe = true := by
  obtain ⟨before, after, slots⟩ := List.append_of_mem ((mem_allSlots n).2 ⟨low, high⟩)
  have distinct := allSlots_nodup
  rw [slots, List.nodup_append] at distinct
  obtain ⟨-, -, apart⟩ := distinct
  have earlier : ∀ m ∈ before, (1 ≤ m ∧ m ≤ 18) ∧ m ≠ n := fun m mem =>
    ⟨(mem_allSlots m).1 (by rw [slots]; exact List.mem_append_left _ mem),
      apart m mem n (List.mem_cons_self ..)⟩
  have same := foldl_settleMark_other true n before earlier s
  have plans := foldl_keeps (fun x : State => x.plans = s.plans) (fun x m => settleMark true m x)
    (fun x m h => by obtain ⟨-, -, -, -, kept, -⟩ := settleMark_frame true m x; exact kept.trans h) before s rfl
  unfold settleMarks
  rw [slots, List.foldl_append, List.foldl_cons]
  generalize before.foldl (fun x m => settleMark true m x) s = x at same plans
  have misses : (true && ((x.probe n).state == .syncing || (x.probe n).state == .inStep)) = true := by
    rw [same]; simpa using state
  have raised : (settleMark true n x).port.isSet .probe = true := by
    unfold settleMark
    dsimp only
    rw [if_neg (by rw [same]; simpa using mark), if_pos misses]
    refine addMiss_isSet_probe true low high ?_ ?_
    · rw [State.probe_mapProbe_same _ _ _ low high, same]; exact state
    · rw [State.probe_mapProbe_same _ _ _ low high, same]
      exact (State.params_of_plans plans ▸ limit)
  exact foldl_keeps (fun y : State => y.port.isSet .probe = true) (fun y m => settleMark true m y)
    (fun y m h => (State.Settles.settleMark true m y).grows.2 .probe h) after _ raised

end Sys2Proof.Machine

/-! SWEEP_START (R22 to R27, R36 to R38, R48 to R52, R163): the judged sweep has its marks settled and its MARKs sent,
and a halted run with no step open has its timer stopped. -/

namespace Sys2Proof.Machine

/-! ## The counters in every case -/

/-- A sweep start taken in SYNCING does not give the synchronisation up (R27). -/
def State.syncHolds (s : State) : Prop :=
  (planResumed s).inStepCount = (planResumed s).active.planSlots.length
    ∨ (s.timer.sweepNumber + 1).toNat < (planResumed s).params.syncSweeps.toNat
    ∨ (planResumed s).params.quorum.toNat ≤ (planResumed s).inStepCount

/-- The counters and the pattern of the new sweep, whatever the judgement (R22 to R25; log 16). -/
theorem sweepJudged_counters (s : State) :
    ∃ run health pattern, (sweepJudged s).timer = s.timer.nextSweep run health pattern
      ∧ (s.timer.run = .syncing ∧ s.syncHolds → pattern = 0)
      ∧ (¬ (s.timer.run = .syncing ∧ s.syncHolds) →
        pattern = stepPattern (if s.timer.run = .syncing then 0 else s.timer.pattern)
          (planResumed s).params.patternPeriod.toNat) := by
  by_cases syncing : s.timer.run = .syncing
  · by_cases enters : (planResumed s).inStepCount = (planResumed s).active.planSlots.length
        ∨ ((planResumed s).params.syncSweeps.toNat ≤ (s.timer.sweepNumber + 1).toNat
          ∧ (planResumed s).params.quorum.toNat ≤ (planResumed s).inStepCount)
    · have holds : s.syncHolds := enters.imp_right fun quorate => .inr quorate.2
      exact ⟨_, _, _, (sweepJudged_enters syncing enters).1, fun _ => rfl,
        fun wrong => absurd ⟨syncing, holds⟩ wrong⟩
    · obtain ⟨someOut, notQuorate⟩ := not_or.1 enters
      by_cases early : (s.timer.sweepNumber + 1).toNat < (planResumed s).params.syncSweeps.toNat
      · exact ⟨_, _, _, sweepJudged_waits syncing someOut early, fun _ => rfl,
          fun wrong => absurd ⟨syncing, .inr (.inl early)⟩ wrong⟩
      · have late := Nat.le_of_not_lt early
        have lost := Nat.lt_of_not_le fun quorate => notQuorate ⟨late, quorate⟩
        refine ⟨_, _, _, (sweepJudged_gives_up syncing someOut late lost).1, fun holds => ?_,
          fun _ => by rw [if_pos syncing]⟩
        rcases holds.2 with all | early' | quorate
        · exact absurd all someOut
        · exact absurd early' early
        · exact absurd ⟨late, quorate⟩ notQuorate
  · have other : ¬ (s.timer.run = .syncing ∧ s.syncHolds) := fun wrong => syncing wrong.1
    rw [if_neg syncing]
    by_cases halts : s.haltsAtInstall
    · exact ⟨_, _, _, (sweepJudged_of_halt halts).1, fun wrong => absurd wrong other, fun _ => rfl⟩
    · by_cases running : s.timer.run = .running
      · exact ⟨_, _, _, (sweepJudged_recomputes running halts rfl).1, fun wrong => absurd wrong other,
          fun _ => rfl⟩
      · exact ⟨_, _, _, sweepJudged_of_unjudged syncing running halts, fun wrong => absurd wrong other,
          fun _ => rfl⟩

/-! ## The marks settled -/

/-- The state in which the MARKs of the new sweep are sent. -/
def marksSettled (s : State) : State := settleMarks s.timer.run.countsMisses (sweepJudged s)

theorem RunState.countsMisses_iff (r : RunState) : r.countsMisses = true ↔ r = .syncing ∨ r = .running := by
  cases r <;> simp [RunState.countsMisses]

section
variable (s : State)

theorem marksSettled_settles : (sweepJudged s).Settles (marksSettled s) :=
  .settleMarks s.timer.run.countsMisses (sweepJudged s)

theorem marksSettled_engine : (marksSettled s).engine = { s.engine with merged := none, free := none } := by
  obtain ⟨-, -, engine⟩ := sweepJudged_frame s
  exact (marksSettled_settles s).engine.trans engine

theorem marksSettled_plans : (marksSettled s).plans = (planResumed s).plans := by
  obtain ⟨-, plans, -⟩ := sweepJudged_frame s
  exact (settleMarks_plans (sweepJudged s) s.timer.run.countsMisses).trans plans

theorem sweepJudged_params : (sweepJudged s).params = (planResumed s).params := by
  obtain ⟨-, plans, -⟩ := sweepJudged_frame s
  exact State.params_of_plans plans

theorem sweepJudged_probe (n : Nat) : (sweepJudged s).probe n = (planResumed s).probe n := by
  obtain ⟨registry, -⟩ := sweepJudged_frame s
  exact State.probe_of_registry registry n

/-- The timer of the new sweep, but for the run state and the health. -/
theorem marksSettled_timer :
    ∃ pattern, (marksSettled s).timer
        = s.timer.nextSweep (marksSettled s).timer.run (marksSettled s).timer.health pattern
      ∧ (s.timer.run = .syncing ∧ s.syncHolds → pattern = 0)
      ∧ (¬ (s.timer.run = .syncing ∧ s.syncHolds) →
        pattern = stepPattern (if s.timer.run = .syncing then 0 else s.timer.pattern)
          (planResumed s).params.patternPeriod.toNat) := by
  obtain ⟨run, health, pattern, judged, holds, fails⟩ := sweepJudged_counters s
  have settled := (marksSettled_settles s).timer
  rw [judged] at settled
  exact ⟨pattern, settled, holds, fails⟩

variable {s}

/-- The run is not halted by a loss: none occurs, or the quorum is not watched, or no miss is counted. -/
theorem marksSettled_run
    (h : (sweepJudged s).losesNone ∨ (sweepJudged s).timer.run.watchesQuorum = false
      ∨ s.timer.run.countsMisses = false) :
    (marksSettled s).timer.run = (sweepJudged s).timer.run
      ∧ (marksSettled s).timer.health = (sweepJudged s).timer.health := by
  rcases h with none | unwatched | uncounted
  · rw [marksSettled, settleMarks_timer_of_losesNone _ none]
    exact ⟨rfl, rfl⟩
  · refine (marksSettled_settles s).run.run.resolve_right fun halts => ?_
    rw [unwatched] at halts
    exact absurd halts.1 (by decide)
  · obtain ⟨timer, -⟩ := settleMarks_uncounted (sweepJudged s)
    rw [marksSettled, uncounted, timer]
    exact ⟨rfl, rfl⟩

variable (s)

theorem marksSettled_probe {n : Nat} (low : 1 ≤ n) (high : n ≤ 18) :
    (marksSettled s).probe n
      = ((planResumed s).probe n).settled s.timer.run.countsMisses
          (planResumed s).params.missLimit.toNat ((planResumed s).params.policy n) := by
  rw [marksSettled, settleMarks_probe, if_pos ⟨low, high⟩, sweepJudged_probe, sweepJudged_params]

theorem marksSettled_portState (n : Nat) : (marksSettled s).portState n = (planResumed s).portState n := by
  obtain ⟨registry, -⟩ := sweepJudged_frame s
  rw [(marksSettled_settles s).ports, State.portState_of_registry registry]

/-! ## The MARKs, and the timer's stop (R36, R49) -/

theorem sweepStart_eq_stop : sweepStart s = stopIfHalted (sendMarks (marksSettled s)) := rfl

theorem marksSent_frame :
    (sendMarks (marksSettled s)).timer = (marksSettled s).timer
      ∧ (sendMarks (marksSettled s)).engine = { s.engine with merged := none, free := none }
      ∧ (sendMarks (marksSettled s)).plans = (planResumed s).plans := by
  obtain ⟨-, -, -, timer, engine, -, -, -, plans, -⟩ := sendMarks_frame (marksSettled s)
  exact ⟨timer, engine.trans (marksSettled_engine s), plans.trans (marksSettled_plans s)⟩

/-- The run is halted with no step open at the end of the sweep start. -/
def State.stopsAtSweepStart (s : State) : Prop :=
  (marksSettled s).timer.run = .halted ∧ s.tableEmpty = true

theorem marksSent_tableEmpty : (sendMarks (marksSettled s)).tableEmpty = s.tableEmpty := by
  obtain ⟨-, engine, -⟩ := marksSent_frame s
  exact State.tableEmpty_of_table (by rw [engine])

variable {s}

theorem sweepStart_of_stop (h : s.stopsAtSweepStart) :
    sweepStart s = timerStop (sendMarks (marksSettled s)) := by
  obtain ⟨halted, empty⟩ := h
  obtain ⟨timer, -⟩ := marksSent_frame s
  rw [sweepStart_eq_stop, stopIfHalted, timer, marksSent_tableEmpty, halted, empty]
  rfl

theorem sweepStart_of_run (h : ¬ s.stopsAtSweepStart) : sweepStart s = sendMarks (marksSettled s) := by
  obtain ⟨timer, -⟩ := marksSent_frame s
  rw [sweepStart_eq_stop, stopIfHalted, timer, marksSent_tableEmpty]
  refine if_neg fun wrong => h ?_
  simpa [State.stopsAtSweepStart] using wrong

theorem timerStop_timer_of_no_window {x : State} (closed : x.engine.merged = none) :
    (timerStop x).timer = { x.timer with sweepActive := false, sweepEndDue := false } := by
  rw [timerStop_of_none (State.pendingSteps_of_no_window closed)]
  obtain ⟨-, -, -, timer, -⟩ := parkAll_frame
    ((x.withEngine { x.engine with merged := none, free := none }).withTimer
      { x.timer with sweepActive := false, sweepEndDue := false })
  rw [timer]
  rfl

/-- The timer at the end: active, unless the halted run's timer has been stopped. -/
theorem sweepStart_timer :
    ((s.stopsAtSweepStart → (sweepStart s).timer = { (marksSettled s).timer with
        sweepActive := false, sweepEndDue := false })
      ∧ (¬ s.stopsAtSweepStart → (sweepStart s).timer = (marksSettled s).timer)) := by
  obtain ⟨timer, engine, -⟩ := marksSent_frame s
  refine ⟨fun stops => ?_, fun goes => ?_⟩
  · rw [sweepStart_of_stop stops, timerStop_timer_of_no_window (by rw [engine]), timer]
  · rw [sweepStart_of_run goes, timer]

variable (s)

theorem sweepStart_counters :
    (sweepStart s).timer.run = (marksSettled s).timer.run
      ∧ (sweepStart s).timer.health = (marksSettled s).timer.health
      ∧ (sweepStart s).timer.sweepNumber = s.timer.sweepNumber + 1 ∧ (sweepStart s).timer.sweepTime = 0
      ∧ (sweepStart s).timer.fixtureTime = s.timer.fixtureTime ∧ (sweepStart s).timer.notStarted = false
      ∧ (sweepStart s).timer.pattern = (marksSettled s).timer.pattern
      ∧ ((sweepStart s).timer.sweepActive = false ↔ s.stopsAtSweepStart) := by
  obtain ⟨pattern, timer, -⟩ := marksSettled_timer s
  generalize (marksSettled s).timer.run = run at timer
  generalize (marksSettled s).timer.health = health at timer
  obtain ⟨stopped, running⟩ := sweepStart_timer (s := s)
  by_cases stops : s.stopsAtSweepStart
  · rw [stopped stops, timer]
    exact ⟨rfl, rfl, rfl, rfl, rfl, rfl, rfl, fun _ => stops, fun _ => rfl⟩
  · rw [running stops, timer]
    exact ⟨rfl, rfl, rfl, rfl, rfl, rfl, rfl, fun wrong => (nomatch wrong), fun wrong => absurd wrong stops⟩

theorem sweepStart_engine : (sweepStart s).engine = { s.engine with merged := none, free := none } := by
  obtain ⟨-, engine, -⟩ := marksSent_frame s
  by_cases stops : s.stopsAtSweepStart
  · rw [sweepStart_of_stop stops, timerStop_engine, engine]
  · rw [sweepStart_of_run stops, engine]

theorem sweepStart_plans : (sweepStart s).plans = (planResumed s).plans := by
  obtain ⟨-, -, plans⟩ := marksSent_frame s
  by_cases stops : s.stopsAtSweepStart
  · obtain ⟨-, -, -, -, kept, -⟩ := timerStop_frame (sendMarks (marksSettled s))
    rw [sweepStart_of_stop stops, kept, plans]
  · rw [sweepStart_of_run stops, plans]

theorem timerStop_session (x : State) : (timerStop x).registry.session = x.registry.session := by
  obtain ⟨-, -, -, registry, -⟩ := endSweep_frame x
  rw [timerStop, parkAll_session, registry]

theorem sweepStart_session : (sweepStart s).registry.session = s.registry.session := by
  have marked : (sendMarks (marksSettled s)).registry.session = s.registry.session := by
    obtain ⟨registry, -⟩ := sweepJudged_frame s
    rw [sendMarks_session, (marksSettled_settles s).session, registry, planResumed, installPending_session,
      endSweep_registry]
  by_cases stops : s.stopsAtSweepStart
  · rw [sweepStart_of_stop stops, timerStop_session, marked]
  · rw [sweepStart_of_run stops, marked]

theorem marksSettled_grows : (marksSettled s).Grows (sweepStart s) := by
  by_cases stops : s.stopsAtSweepStart
  · rw [sweepStart_of_stop stops]
    exact (State.Grows.sendMarks _).trans (.timerStop _)
  · rw [sweepStart_of_run stops]
    exact .sendMarks _

theorem sweepJudged_grows : (sweepJudged s).Grows (sweepStart s) :=
  (marksSettled_settles s).grows.trans (marksSettled_grows s)

/-! ## The entries and the ports -/

section
variable {n : Nat} (low : 1 ≤ n) (high : n ≤ 18)
include low high

/-- The entry of a probe: its old mark is settled, and the new one is outstanding where MARK is sent. -/
theorem sweepStart_probe :
    (sweepStart s).probe n = { (marksSettled s).probe n with
      outstanding := if ((marksSettled s).probe n).state.marked = true then
        some (sweepStart s).timer.sweepNumber else none } := by
  obtain ⟨-, -, number, -⟩ := sweepStart_counters s
  obtain ⟨pattern, timer, -⟩ := marksSettled_timer s
  have sent : (marksSettled s).timer.sweepNumber = s.timer.sweepNumber + 1 := by rw [timer]; rfl
  have cleared : ((marksSettled s).probe n).outstanding = none := by
    rw [marksSettled_probe s low high, ProbeEntry.settled_outstanding]
  have marked : (sweepStart s).probe n = (sendMarks (marksSettled s)).probe n := by
    by_cases stops : s.stopsAtSweepStart
    · rw [sweepStart_of_stop stops, timerStop_probe]
    · rw [sweepStart_of_run stops]
  rw [marked, sendMarks_probe, number, sent]
  by_cases marks : ((marksSettled s).probe n).state.marked = true
  · rw [if_pos ⟨⟨low, high⟩, marks⟩, if_pos marks]
  · rw [if_neg fun wrong => marks wrong.2, if_neg marks, ← cleared]

theorem sweepStart_probe_state : ((sweepStart s).probe n).state = ((marksSettled s).probe n).state := by
  rw [sweepStart_probe s low high]

/-- A probe is ABSENT behind the settling when it was before. -/
theorem marksSettled_absent_iff :
    ((marksSettled s).probe n).state = .absent ↔ (s.probe n).state = .absent := by
  have before : ((planResumed s).probe n).state = (s.probe n).state := by rw [planResumed_probe]
  rw [marksSettled_probe s low high]
  by_cases misses : ((planResumed s).probe n).misses s.timer.run.countsMisses
  · have present : (s.probe n).state ≠ .absent := by
      obtain ⟨-, -, syncing | inStep⟩ := misses
      · rw [← before, syncing]; decide
      · rw [← before, inStep]; decide
    rcases Nat.lt_or_ge (satInc 8 ((planResumed s).probe n).missCount)
        (planResumed s).params.missLimit.toNat with below | reached
    · rw [(ProbeEntry.settled_below misses below).1, before]
    · rw [(ProbeEntry.settled_lost misses reached).1]
      exact ⟨fun wrong => (nomatch wrong), fun wrong => absurd wrong present⟩
  · rw [(ProbeEntry.settled_of_kept _ _ misses).1, before]

/-- The port of a slot: MARK behind the SETUP of the installation, and PARK behind it when the timer stops. -/
theorem sweepStart_portState :
    ∃ marked, marked = (if ((sweepStart s).probe n).state.marked = true then
          ((planResumed s).portState n).hand (.mark (sweepStart s).timer.sweepNumber
            (wireTime (sweepStart s).timer.fixtureTime) (BitVec.ofNat 8 (sweepStart s).timer.pattern))
        else (planResumed s).portState n)
      ∧ (sweepStart s).portState n
        = if (sweepStart s).timer.run = .halted ∧ s.tableEmpty = true ∧ (s.probe n).state ≠ .absent then
            marked.hand (.park (planResumed s).params.parkMode)
          else marked := by
  obtain ⟨run, -, number, -, time, -, pattern, -⟩ := sweepStart_counters s
  obtain ⟨-, -, plans⟩ := marksSent_frame s
  obtain ⟨period, timer, -⟩ := marksSettled_timer s
  have sentNumber : (marksSettled s).timer.sweepNumber = (sweepStart s).timer.sweepNumber := by
    rw [number, timer, SweepTimer.nextSweep]
  have sentTime : (marksSettled s).timer.fixtureTime = (sweepStart s).timer.fixtureTime := by
    rw [time, timer, SweepTimer.nextSweep]
  have sent : (sendMarks (marksSettled s)).portState n
      = if ((sweepStart s).probe n).state.marked = true then
          ((planResumed s).portState n).hand (.mark (sweepStart s).timer.sweepNumber
            (wireTime (sweepStart s).timer.fixtureTime) (BitVec.ofNat 8 (sweepStart s).timer.pattern))
        else (planResumed s).portState n := by
    rw [sendMarks_portState, sweepStart_probe_state s low high, marksSettled_portState, sentNumber, sentTime,
      pattern]
    by_cases marks : ((marksSettled s).probe n).state.marked = true
    · rw [if_pos ⟨⟨low, high⟩, marks⟩, if_pos marks]
    · rw [if_neg fun wrong => marks wrong.2, if_neg marks]
  refine ⟨_, rfl, ?_⟩
  rw [← sent, run]
  have absent : ((sendMarks (marksSettled s)).probe n).state = .absent ↔ (s.probe n).state = .absent := by
    have state : ((sendMarks (marksSettled s)).probe n).state = ((marksSettled s).probe n).state := by
      rw [sendMarks_probe]
      split <;> rfl
    rw [← marksSettled_absent_iff s low high, state]
  by_cases stops : s.stopsAtSweepStart
  · rw [sweepStart_of_stop stops, timerStop_portState _ low high, State.params_of_plans plans]
    obtain ⟨halted, empty⟩ := stops
    by_cases gone : (s.probe n).state = .absent
    · rw [if_pos (absent.2 gone), if_neg fun wrong => wrong.2.2 gone]
    · rw [if_neg (mt absent.1 gone), if_pos ⟨halted, empty, gone⟩]
  · rw [sweepStart_of_run stops, if_neg fun wrong => stops ⟨wrong.1, wrong.2.1⟩]

end
end

/-! ## The run and its health -/

theorem sweepStart_params (s : State) : (sweepStart s).params = (planResumed s).params :=
  State.params_of_plans (sweepStart_plans s)

theorem sweepStart_active (s : State) : (sweepStart s).active = (planResumed s).active :=
  congrArg PlanMemory.active (sweepStart_plans s)

section
variable {s : State}

/-- The pattern of the new sweep (R24, R25; log 16). -/
theorem sweepStart_pattern :
    (s.timer.run = .syncing ∧ s.syncHolds → (sweepStart s).timer.pattern = 0)
      ∧ (¬ (s.timer.run = .syncing ∧ s.syncHolds) →
        (sweepStart s).timer.pattern
          = stepPattern (if s.timer.run = .syncing then 0 else s.timer.pattern)
            (planResumed s).params.patternPeriod.toNat) := by
  obtain ⟨-, -, -, -, -, -, same, -⟩ := sweepStart_counters s
  obtain ⟨pattern, timer, holds, fails⟩ := marksSettled_timer s
  have found : (marksSettled s).timer.pattern = pattern := by rw [timer, SweepTimer.nextSweep]
  rw [same, found]
  exact ⟨holds, fails⟩

/-- A run that is judged and not halted by a loss is what the judgement has made of it. -/
theorem sweepStart_run_of_judged {run : RunState} {health : Health} {pattern : Nat}
    (judged : (sweepJudged s).timer = s.timer.nextSweep run health pattern)
    (h : (sweepJudged s).losesNone ∨ run.watchesQuorum = false ∨ s.timer.run.countsMisses = false) :
    (sweepStart s).timer.run = run ∧ (sweepStart s).timer.health = health := by
  obtain ⟨sameRun, sameHealth, -⟩ := sweepStart_counters s
  have judgedRun : (sweepJudged s).timer.run = run := by rw [judged, SweepTimer.nextSweep]
  have judgedHealth : (sweepJudged s).timer.health = health := by rw [judged, SweepTimer.nextSweep]
  obtain ⟨settledRun, settledHealth⟩ := marksSettled_run (s := s) (by rw [judgedRun]; exact h)
  exact ⟨(sameRun.trans settledRun).trans judgedRun, (sameHealth.trans settledHealth).trans judgedHealth⟩

theorem sweepJudged_losesNone
    (none : ∀ n, 1 ≤ n → n ≤ 18 → (s.probe n).outstanding ≠ none →
      (s.probe n).state = .syncing ∨ (s.probe n).state = .inStep →
      satInc 8 (s.probe n).missCount < (planResumed s).params.missLimit.toNat) :
    (sweepJudged s).losesNone := by
  intro n low high mark state
  rw [sweepJudged_probe, planResumed_probe] at mark state ⊢
  rw [sweepJudged_params]
  exact none n low high mark state

section
variable (syncing : s.timer.run = .syncing)
include syncing

theorem sweepStart_enters
    (h : (planResumed s).inStepCount = (planResumed s).active.planSlots.length
      ∨ ((planResumed s).params.syncSweeps.toNat ≤ (s.timer.sweepNumber + 1).toNat
        ∧ (planResumed s).params.quorum.toNat ≤ (planResumed s).inStepCount)) :
    (sweepStart s).port.isSet .run = true
      ∧ ((sweepJudged s).losesNone →
        (sweepStart s).timer.run = .running ∧ (sweepStart s).timer.health = s.timer.health) := by
  obtain ⟨timer, flag⟩ := sweepJudged_enters syncing h
  exact ⟨(sweepJudged_grows s).2 .run flag, fun none => sweepStart_run_of_judged timer (.inl none)⟩

variable (someOut : (planResumed s).inStepCount ≠ (planResumed s).active.planSlots.length)
include someOut

theorem sweepStart_waits
    (early : (s.timer.sweepNumber + 1).toNat < (planResumed s).params.syncSweeps.toNat) :
    (sweepStart s).timer.run = .syncing ∧ (sweepStart s).timer.health = s.timer.health :=
  sweepStart_run_of_judged (sweepJudged_waits syncing someOut early) (.inr (.inl rfl))

theorem sweepStart_gives_up
    (late : (planResumed s).params.syncSweeps.toNat ≤ (s.timer.sweepNumber + 1).toNat)
    (lost : (planResumed s).inStepCount < (planResumed s).params.quorum.toNat) :
    (sweepStart s).timer.run = .halted ∧ (sweepStart s).timer.health = .severe
      ∧ (sweepStart s).port.isSet .run = true
      ∧ (s.timer.health ≠ .severe → (sweepStart s).port.isSet .health = true) := by
  obtain ⟨timer, run, health⟩ := sweepJudged_gives_up syncing someOut late lost
  obtain ⟨halted, severe⟩ := sweepStart_run_of_judged timer (.inr (.inl rfl))
  exact ⟨halted, severe, (sweepJudged_grows s).2 .run run,
    fun other => (sweepJudged_grows s).2 .health (health other)⟩

end

theorem sweepStart_halts (halts : s.haltsAtInstall) :
    (sweepStart s).timer.run = .halted ∧ (sweepStart s).timer.health = .severe
      ∧ (sweepStart s).port.isSet .run = true
      ∧ (s.timer.health ≠ .severe → (sweepStart s).port.isSet .health = true) := by
  obtain ⟨timer, run, health⟩ := sweepJudged_of_halt halts
  obtain ⟨halted, severe⟩ := sweepStart_run_of_judged timer (.inr (.inl rfl))
  exact ⟨halted, severe, (sweepJudged_grows s).2 .run run,
    fun other => (sweepJudged_grows s).2 .health (health other)⟩

theorem not_haltsAtInstall_of_quorate
    (h : s.plans.applyPending = false ∨ (planResumed s).params.quorum.toNat ≤ (planResumed s).inStepCount) :
    ¬ s.haltsAtInstall := by
  rintro ⟨pending, -, lost⟩
  rcases h with released | quorate
  · rw [released] at pending; cases pending
  · omega

/-- The health that the sweep start finds, written out (R37). -/
theorem sweepStart_recomputes (running : s.timer.run = .running) (kept : ¬ s.haltsAtInstall)
    (none : (sweepJudged s).losesNone) :
    (sweepStart s).timer.run = .running
      ∧ (sweepStart s).timer.health
        = (if ∃ n ∈ (planResumed s).active.planSlots, (s.probe n).state ≠ .inStep
              ∨ (s.probe n).mainPower = false ∨ (s.probe n).auxPower = false then .degraded
          else if s.timer.notStarted = true ∨ s.pendingSteps ≠ [] then .warn else .clear)
      ∧ ((sweepStart s).timer.health ≠ s.timer.health → (sweepStart s).port.isSet .health = true) := by
  obtain ⟨timer, flag⟩ := sweepJudged_recomputes running kept rfl
  obtain ⟨run, health⟩ := sweepStart_run_of_judged timer (.inl none)
  refine ⟨run, ?_, fun changed => ?_⟩
  · rw [health]
    simp only [planProbeMissing_iff]
  · rw [health] at changed
    exact (sweepJudged_grows s).2 .health (flag changed)

theorem sweepStart_unjudged (notSyncing : s.timer.run ≠ .syncing) (notRunning : s.timer.run ≠ .running)
    (kept : ¬ s.haltsAtInstall) :
    (sweepStart s).timer.run = s.timer.run ∧ (sweepStart s).timer.health = s.timer.health := by
  have uncounted : s.timer.run.countsMisses = false := by
    rw [← Bool.not_eq_true, RunState.countsMisses_iff, not_or]
    exact ⟨notSyncing, notRunning⟩
  exact sweepStart_run_of_judged (sweepJudged_of_unjudged notSyncing notRunning kept) (.inr (.inr uncounted))

/-! ## The misses of the old sweep (R50 to R52) -/

/-- The old mark of a probe counts as a miss at this sweep start (R51). -/
def State.missesMark (s : State) (n : Nat) : Prop := (s.probe n).misses s.timer.run.countsMisses

theorem State.missesMark_iff (n : Nat) :
    s.missesMark n ↔ (s.timer.run = .syncing ∨ s.timer.run = .running) ∧ (s.probe n).outstanding ≠ none
      ∧ ((s.probe n).state = .syncing ∨ (s.probe n).state = .inStep) := by
  rw [State.missesMark, ProbeEntry.misses, RunState.countsMisses_iff]

theorem planResumed_misses_iff (n : Nat) :
    ((planResumed s).probe n).misses s.timer.run.countsMisses ↔ s.missesMark n := by
  rw [State.missesMark, ProbeEntry.misses, ProbeEntry.misses, planResumed_probe]

section
variable {n : Nat} (low : 1 ≤ n) (high : n ≤ 18)
include low high

theorem sweepStart_outstanding :
    ((sweepStart s).probe n).outstanding
      = if ((sweepStart s).probe n).state = .syncing ∨ ((sweepStart s).probe n).state = .inStep
            ∨ ((sweepStart s).probe n).state = .lost then some (sweepStart s).timer.sweepNumber
        else none := by
  rw [sweepStart_probe s low high]
  cases state : ((marksSettled s).probe n).state <;> simp [ProbeState.marked]

theorem sweepStart_settled :
    ((sweepStart s).probe n).state = ((marksSettled s).probe n).state
      ∧ ((sweepStart s).probe n).missCount = ((marksSettled s).probe n).missCount
      ∧ ((sweepStart s).probe n).syncCount = ((marksSettled s).probe n).syncCount
      ∧ ((sweepStart s).probe n).current = ((marksSettled s).probe n).current
      ∧ ((sweepStart s).probe n).queued = ((marksSettled s).probe n).queued := by
  rw [sweepStart_probe s low high]
  exact ⟨rfl, rfl, rfl, rfl, rfl⟩

theorem sweepStart_syncCount :
    ((sweepStart s).probe n).syncCount
      = if (s.probe n).state = .syncing ∧ (s.probe n).outstanding ≠ none then 0
        else (s.probe n).syncCount := by
  obtain ⟨-, -, syncCount, -⟩ := sweepStart_settled (s := s) low high
  rw [syncCount, marksSettled_probe s low high, ProbeEntry.settled_syncCount, planResumed_probe]

theorem sweepStart_of_missed (missed : s.missesMark n) :
    ((sweepStart s).probe n).missCount = satInc 8 (s.probe n).missCount := by
  obtain ⟨-, missCount, -⟩ := sweepStart_settled (s := s) low high
  rw [missCount, marksSettled_probe s low high,
    ProbeEntry.settled_missCount ((planResumed_misses_iff n).2 missed), planResumed_probe]

theorem sweepStart_of_answered (answered : ¬ s.missesMark n) :
    ((sweepStart s).probe n).state = (s.probe n).state
      ∧ ((sweepStart s).probe n).missCount = (s.probe n).missCount
      ∧ ((sweepStart s).probe n).current = (s.probe n).current
      ∧ ((sweepStart s).probe n).queued = (s.probe n).queued := by
  obtain ⟨state, missCount, -, current, queued⟩ := sweepStart_settled (s := s) low high
  have kept := ProbeEntry.settled_of_kept (planResumed s).params.missLimit.toNat
    ((planResumed s).params.policy n) (mt (planResumed_misses_iff n).1 answered)
  rw [← marksSettled_probe s low high, planResumed_probe] at kept
  rw [state, missCount, current, queued]
  exact kept

theorem sweepStart_of_lost (missed : s.missesMark n)
    (reached : (planResumed s).params.missLimit.toNat ≤ satInc 8 (s.probe n).missCount) :
    ((sweepStart s).probe n).state = .lost ∧ (sweepStart s).port.isSet .probe = true
      ∧ ((s.probe n).state = .inStep →
        ((sweepStart s).probe n).current = none ∧ ((sweepStart s).probe n).queued = none) := by
  obtain ⟨state, -, -, current, queued⟩ := sweepStart_settled (s := s) low high
  have misses := (planResumed_misses_iff n).2 missed
  have lost := ProbeEntry.settled_lost (limit := (planResumed s).params.missLimit.toNat)
    (policy := (planResumed s).params.policy n) misses
    (by rw [planResumed_probe]; exact reached)
  obtain ⟨counts, mark, kind⟩ := missed
  have raised : (marksSettled s).port.isSet .probe = true := by
    rw [marksSettled, counts]
    refine settleMarks_isSet_probe low high ?_ ?_ ?_
    · rw [sweepJudged_probe, planResumed_probe]; exact mark
    · rw [sweepJudged_probe, planResumed_probe]; exact kind
    · rw [sweepJudged_probe, planResumed_probe, sweepJudged_params]; exact reached
  rw [← marksSettled_probe s low high, planResumed_probe] at lost
  rw [state, current, queued]
  exact ⟨lost.1, (marksSettled_grows s).2 .probe raised, lost.2⟩

theorem sweepStart_of_below (missed : s.missesMark n)
    (below : satInc 8 (s.probe n).missCount < (planResumed s).params.missLimit.toNat) :
    ((sweepStart s).probe n).state = (s.probe n).state
      ∧ ((sweepStart s).probe n).current = (s.probe n).current
      ∧ ((sweepStart s).probe n).queued = (s.probe n).queued := by
  obtain ⟨state, -, -, current, queued⟩ := sweepStart_settled (s := s) low high
  have kept := ProbeEntry.settled_below (policy := (planResumed s).params.policy n)
    ((planResumed_misses_iff n).2 missed) (by rw [planResumed_probe]; exact below)
  rw [← marksSettled_probe s low high, planResumed_probe] at kept
  rw [state, current, queued]
  exact kept

end
end

theorem exec_sweepStart (s : State) :
    exec .sweepStart s = .next (if s.sweepStartDue = true then sweepStart s else s) := rfl

/-- Settles O49: the judgement case by case, then the marks slot by slot, then the timer's stop. -/
theorem sweepStartBeginsTheNextSweep : Obligations.SweepStartBeginsTheNextSweep := by
  unfold Obligations.SweepStartBeginsTheNextSweep
  refine fun s => ⟨fun due => ?taken, fun early => by rw [exec_sweepStart, early]; rfl⟩
  have count := planResumed_inStepCount s
  obtain ⟨run, -, number, sweepTime, fixtureTime, indicator, -, active⟩ := sweepStart_counters s
  have engine := sweepStart_engine s
  obtain ⟨-, -, clock, store⟩ := sweepStart_frame s
  refine ⟨sweepStart s, _, _, _, by rw [exec_sweepStart, if_pos due], rfl, Iff.rfl, rfl, number, sweepTime,
    fixtureTime, indicator, ?_⟩
  rw [sweepStart_params, sweepStart_active, ← count]
  refine ⟨?pattern, fun syncing => ⟨fun enters => ?enters, fun someOut early => ?waits,
      fun someOut late lost => ?gives_up⟩,
    fun watches pending lost => sweepStart_halts ⟨pending, watches, lost⟩,
    fun running none kept => sweepStart_recomputes running (not_haltsAtInstall_of_quorate kept)
      (sweepJudged_losesNone none),
    fun pausing kept => ?pausing, fun others => ?others, ?active, by rw [engine], by rw [engine],
    fun k => ⟨State.openAt_of_table (by rw [engine]) k, State.turn_of_turns (by rw [engine]) k⟩,
    fun released => ?kept, fun pending => ⟨?installed, ?apply⟩,
    fun n low high => sweepStart_outstanding low high, fun n low high => ?entry, fun n low high => ?port,
    sweepStart_session s, store, clock⟩
  case pattern =>
    obtain ⟨holds, fails⟩ := sweepStart_pattern (s := s)
    split
    · next sync => exact holds sync
    · next sync => exact fails sync
  case enters =>
    obtain ⟨flag, goes⟩ := sweepStart_enters syncing enters
    exact ⟨flag, fun none => goes (sweepJudged_losesNone none)⟩
  case waits => exact sweepStart_waits syncing someOut early
  case gives_up => exact sweepStart_gives_up syncing someOut late lost
  case pausing =>
    have stays := sweepStart_unjudged (by rw [pausing]; decide) (by rw [pausing]; decide)
      (not_haltsAtInstall_of_quorate kept)
    rw [pausing] at stays
    exact stays
  case others =>
    have unjudged : s.timer.run ≠ .syncing ∧ s.timer.run ≠ .running ∧ s.timer.run ≠ .pausing := by
      rcases others with other | other <;> rw [other] <;> decide
    obtain ⟨notSyncing, notRunning, notPausing⟩ := unjudged
    exact sweepStart_unjudged notSyncing notRunning (not_haltsAtInstall_of_run notRunning notPausing)
  case active => rw [active, State.stopsAtSweepStart, run]
  case kept => rw [sweepStart_plans, planResumed_plans, if_neg (Bool.eq_false_iff.1 released)]
  case installed => rw [sweepStart_plans, planResumed_plans, if_pos pending]
  case apply =>
    exact ((sweepPlanned_grows s).trans (sweepJudged_grows s)).2 .apply (sweepPlanned_isSet_apply pending)
  case entry =>
    refine ⟨s.missesMark n, _, s.missesMark_iff n, Iff.rfl, sweepStart_of_missed low high,
      fun answered => (sweepStart_of_answered low high answered).2.1,
      fun lost => sweepStart_of_lost low high lost.1 lost.2, fun kept => ?_, sweepStart_syncCount low high⟩
    by_cases missed : s.missesMark n
    · exact sweepStart_of_below low high missed (Nat.lt_of_not_le fun reached => kept ⟨missed, reached⟩)
    · obtain ⟨state, -, current, queued⟩ := sweepStart_of_answered low high missed
      exact ⟨state, current, queued⟩
  case port =>
    obtain ⟨marked, sent, port⟩ := sweepStart_portState s low high
    rw [planResumed_portState s low high] at sent
    exact ⟨_, marked, rfl, sent, port⟩

end Sys2Proof.Machine
